-- ==== Sys2Proof/Word.lean ====
section
/-! DEFINITION. The word types of the management space, the program store and the byte streams. -/

namespace Sys2Proof

/-- A byte of a stream or of a memory bank (R6). -/
abbrev Byte := BitVec 8
/-- A management register or a 32-bit window access (R4, R76). -/
abbrev W32 := BitVec 32
/-- A program-store word, a working register or a Ronjan instruction (R38, R42). -/
abbrev W64 := BitVec 64
/-- One cipher block, one 16-byte unit or one event record (R144, R180, R536). -/
abbrev W128 := BitVec 128

end Sys2Proof
end

