-- ==== Sys2Proof/Operand.lean ====
section
/-! DEFINITION. What commands carry where several quantities come in from outside at once: measurements of the line, of
the converters, of the die and of the reference inputs. -/

namespace Sys2Proof

/-- What a pilot block shows (R303, R342): M of the locked signal in 0.1 dB, both outputs carrying their own pilot
sequence, both carrying the same one, the timing correction in 0.01 ppm, M of the rival; for the candidate in
confirmation its M and whether X and Y were found on separate outputs; and the symbols of its 4,096 periods in X and in Y, of the
lock or else of the candidate, as carrier recovery leaves them before it corrects slips: in-phase and quadrature components,
1,024 for a magnitude of 1 in R306. -/
structure PilotMeas where
  m : Int
  own : Bool
  same : Bool
  ppm : Int
  rivalM : Int
  candM : Int
  candSep : Bool
  xs : List (Int × Int)
  ys : List (Int × Int)
deriving DecidableEq, Repr

/-- The monitors of R332: dispersion residual in ps/nm, the delay seen in the equaliser taps in 0.1 ps, PDL in 0.1 dB, SOP rate in krad/s, frequency offset in
MHz, clock offset in 0.01 ppm, and every 10 ms the SNR of X and Y in 0.05 dB. -/
structure MonitorMeas where
  residual : Int
  dgd : Int
  pdl : Nat
  sop : Nat
  fofs : Int
  ppm : Int
  snr : Option (Nat × Nat)
deriving DecidableEq, Repr

/-- A point that a search lane's sweep found best (R341, R343): dispersion in ps/nm, frequency offset in MHz, clock offset
in 0.01 ppm and M in 0.1 dB. -/
structure SweepMeas where
  cd : Int
  fofs : Int
  ppm : Int
  m : Int
deriving DecidableEq, Repr

/-- A millisecond of the thermal model (R474): the value of each of the 16 zones that the fused network gives, in 1/1000 of
0.25 °C, the power of each zone in 10 mW, the device's power in 0.1 W, and the reading of each of the 12 diodes in 0.25 °C, or
none where the forward voltage is outside the band of a working diode. -/
structure ModelTick where
  model : List Int
  power : List Nat
  ptot : Nat
  diodes : List (Option Int)
deriving DecidableEq, Repr

/-- The lists have an entry for each zone and each diode. -/
def ModelTick.wf (t : ModelTick) : Bool := t.model.length == 16 && t.power.length == 16 && t.diodes.length == 12

/-- The statistics of a 100 ms calibration run (R366), converters in the order XI, XQ, YI, YQ: second moments of the sensed
samples (transmit) or of the ADC samples (receive); transmit: second moments of the samples sent, for XQ, YI and YQ the
cross-correlation of sensed and sent samples by delay in 0.01 ps against XI, the least-squares inverse of the cross-spectrum
as deviations of taps from a single main tap of 1 (16 + 17k + t for tap t of converter k, in 1/256 of 1/16,384), and for each
converter and each of the 256 codes sent, from −128 up, how many samples and the sum of what was sensed, in LSB; receive: E[IQ]
of X and of Y, and for XQ, YI and YQ the phase in µrad of the cross-spectrum with XI by frequency in MHz. -/
structure CalStats where
  moments : List Nat
  sent : List Nat
  delays : List (List (Int × Int))
  taps : List (Nat × Int)
  clusters : List (List (Nat × Int))
  cross : List Int
  phases : List (List (Nat × Int))
deriving DecidableEq, Repr

/-- Keys rise strictly: none stands twice. -/
def keysRise : List (Nat × Int) → Bool
  | [] => true
  | [_] => true
  | a :: b :: t => decide (a.1 < b.1) && keysRise (b :: t)

/-- There is a moment for each converter, none is 0, and the taps are taps, each once. -/
def CalStats.wf (x : CalStats) : Bool :=
  x.moments.length == 4 && x.sent.length == 4 && x.moments.all (fun m => decide (0 < m)) && x.sent.all (fun m => decide (0 < m))
    && keysRise x.taps && x.taps.all (fun e => decide (16 ≤ e.1 ∧ e.1 < 84))

/-- A second of the reference inputs (R391, R399): the mean offset of inputs 0 to 6 against XO, and that of the output clock, in
units of 10⁻⁶ ppm. The entry of an input that is not present is ignored. -/
structure RefSecond where
  offsets : List Int
  output : Int
deriving DecidableEq, Repr

/-- There is an entry for each input. -/
def RefSecond.wf (t : RefSecond) : Bool := t.offsets.length == 7

/-- A message as it arrives on RING_IN (R410): its 16 bytes, byte 0 most significant, and how far above 160 ns the residence time
lies that this device measures if it forwards it (R411). -/
structure RingIn where
  msg : BitVec 128
  above : Fin 41
deriving DecidableEq, Repr

def RingIn.ty (m : RingIn) : Nat := (m.msg.extractLsb' 120 8).toNat
def RingIn.src (m : RingIn) : Nat := (m.msg.extractLsb' 112 4).toNat
def RingIn.hops (m : RingIn) : Nat := (m.msg.extractLsb' 104 8).toNat
def RingIn.seq (m : RingIn) : Nat := (m.msg.extractLsb' 96 8).toNat
def RingIn.payload (m : RingIn) : Nat := (m.msg.extractLsb' 32 64).toNat
def RingIn.res (m : RingIn) : Nat := (m.msg.extractLsb' 16 16).toNat
def RingIn.crc (m : RingIn) : Nat := (m.msg.extractLsb' 0 16).toNat

/-- Levels that arrive on a host lane, in the order received (R137). -/
structure LaneLevels where
  lane : Fin 28
  levels : List (Fin 4)
deriving DecidableEq, Repr

/-- What RING_IN has received since the last report (R408): its code groups, and whether the signal is lost after them. -/
structure RingHeard where
  los : Bool
  groups : List (BitVec 10)
deriving DecidableEq, Repr

/-- What a lane's receiver shows (R114, R116, R139): whether its CDR is locked, slicer SNR in 0.25 dB, CTLE peaking in
0.5 dB, FFE side taps and DFE taps as the registers of R139 hold them. -/
structure LaneMeas where
  cdr : Bool
  snr : BitVec 8
  ctle : BitVec 5
  ffePre : BitVec 8
  ffePost : BitVec 8
  dfe : BitVec 30
deriving DecidableEq, Repr

/-- What a bring-up after power-on or cold reset finds (R497 to R505, R441, R476): the straps, the level of TAMPER_N, the
readings of trim records one after the other (bytes; one that is not there reads as none), banks whose checker fails, the diode
readings in 0.25 °C, and the minimal image of MTP as 32-bit window words. -/
structure BringUp where
  boot : Fin 4
  clk : Fin 4
  tamperN : Bool
  trims : List (List (BitVec 8))
  failing : List (Fin 192)
  diodes : List Int
  image : List (BitVec 32)
deriving DecidableEq, Repr

/-- There is a reading for each diode, and the image fits a bank. -/
def BringUp.wf (x : BringUp) : Bool := x.diodes.length == 12 && decide (x.image.length ≤ 131072)

/-- What a boot-flash load reads (R545 to R547): the directory's bytes and the words of the images that it names. -/
structure FlashLoad where
  dir : List (BitVec 8)
  images : List (List (BitVec 32))
deriving DecidableEq, Repr

/-- The directory has 64 bytes, and there is a list for each bank. -/
def FlashLoad.wf (x : FlashLoad) : Bool := x.dir.length == 64 && x.images.length == 4

end Sys2Proof
end

