-- ==== Sys2Proof/Syntax.lean ====
section
/-! DEFINITION. The commands of the block: one constructor for each row of spec/opcode_table.json, in the table's order, with
what comes from outside as its operands. A carrier is 0 (A) or 1 (B), an engine, lane, bank or polder its number, a tributary its
index; `p` is the word of the program store in which the instruction stands, where it may complete out of order; `v` is the value
written. -/

namespace Sys2Proof

inductive Instr where
  /-- REGISTER_WRITE (R8, 00_scope): A write by SPI, I2C or WRREG to a register field that has no row of its own, applied under its access type. -/
  | registerWrite (a : W32) (v : W32)
  /-- NOP (R45, 02_ronjan_instruction_set): the engine executes NOP, which has no effect. -/
  | nop (e : Fin 4)
  /-- HALT (R45, 02_ronjan_instruction_set): HALT retires once every earlier instruction has retired, and the engine enters HALTED. -/
  | halt (e : Fin 4)
  /-- JMP (R45, 02_ronjan_instruction_set): JMP sends execution to TARGET. -/
  | jmp (e : Fin 4)
  /-- BR (R41, 02_ronjan_instruction_set): BR compares w[A] with w[B] under COND and branches to TARGET when the condition holds. -/
  | br (e : Fin 4)
  /-- CALL (R45, 02_ronjan_instruction_set): CALL writes the index of the following word to w15 and jumps to TARGET. -/
  | call (e : Fin 4)
  /-- RET (R45, 02_ronjan_instruction_set): RET continues execution at w15[17:0]. -/
  | ret (e : Fin 4)
  /-- WAIT (R45, 02_ronjan_instruction_set): WAIT starts a delay of IMM microseconds of device time, during which no later instruction starts. -/
  | wait (e : Fin 4)
  /-- WAIT_EXPIRY (R45, 02_ronjan_instruction_set): the delay of a WAIT runs out and the WAIT retires. -/
  | waitExpiry (e : Fin 4)
  /-- MOVI (R45, 02_ronjan_instruction_set): MOVI loads IMM into w[D], zero-extended or sign-extended. -/
  | movi (e : Fin 4)
  /-- MOVIH (R45, 02_ronjan_instruction_set): MOVIH sets bits [63:40] of w[D] from IMM and bits [39:0] from w[A]. -/
  | movih (e : Fin 4)
  /-- ADDI (R45, 02_ronjan_instruction_set): ADDI adds the sign-extended IMM to w[A] and writes the sum to w[D]. -/
  | addi (e : Fin 4)
  /-- ADD (R44, 02_ronjan_instruction_set): ADD writes w[A] + w[B] modulo 2^64 to w[D]. -/
  | add (e : Fin 4)
  /-- SUB (R44, 02_ronjan_instruction_set): SUB writes w[A] − w[B] modulo 2^64 to w[D]. -/
  | sub (e : Fin 4)
  /-- AND (R45, 02_ronjan_instruction_set): AND writes the bitwise AND of w[A] and w[B] to w[D]. -/
  | and (e : Fin 4)
  /-- OR (R45, 02_ronjan_instruction_set): OR writes the bitwise OR of w[A] and w[B] to w[D]. -/
  | or (e : Fin 4)
  /-- XOR (R45, 02_ronjan_instruction_set): XOR writes the bitwise exclusive-or of w[A] and w[B] to w[D]. -/
  | xor (e : Fin 4)
  /-- SHL (R44, 02_ronjan_instruction_set): SHL shifts w[A] left by w[B][5:0] and writes the result to w[D]. -/
  | shl (e : Fin 4)
  /-- SHR (R44, 02_ronjan_instruction_set): SHR shifts w[A] right by w[B][5:0] with zero fill and writes the result to w[D]. -/
  | shr (e : Fin 4)
  /-- LD (R43, 02_ronjan_instruction_set): LD loads the program-store word at w[A] + OFF into w[D], and faults on poison, misalignment or range. -/
  | ld (e : Fin 4)
  /-- ST (R43, 02_ronjan_instruction_set): ST stores w[D] into the program-store word at w[A] + OFF. -/
  | st (e : Fin 4)
  /-- RDREG (R48, 02_ronjan_instruction_set): RDREG reads a management register into w[D], subject to the PRIV and PMC access checks. -/
  | rdreg (e : Fin 4) (p : BitVec 18)
  /-- WRREG (R48, 02_ronjan_instruction_set): WRREG writes w[D][31:0] to a management register, subject to the PRIV and PMC access checks. -/
  | wrreg (e : Fin 4) (p : BitVec 18)
  /-- BIND (R59, 02_ronjan_instruction_set): BIND copies a descriptor and binds the object, and with EN = 1 also runs the consistency check, placement and enable. -/
  | bind (e : Fin 4) (p : BitVec 18)
  /-- ENABLE (R98, 03_execution_ordering_faults): ENABLE runs the consistency check and placement on a bound object and starts it running. -/
  | enable (e : Fin 4) (p : BitVec 18)
  /-- DISABLE (R174, 05_tributaries_and_slots): DISABLE starts a graceful drain of the object, which retires when the object reaches BOUND. -/
  | disable (e : Fin 4) (p : BitVec 18)
  /-- DISABLE_ABORT (R174, 05_tributaries_and_slots): DISABLE.ABORT disables the object at once, discarding data and zeroing its seals. -/
  | disableAbort (e : Fin 4) (p : BitVec 18)
  /-- UNBIND (R59, 02_ronjan_instruction_set): UNBIND discards the descriptor of a bound object. -/
  | unbind (e : Fin 4) (p : BitVec 18)
  /-- PROTECT_CLEAR (R51, 02_ronjan_instruction_set): the PROTECT command CLEAR removes any earlier command, so that selection follows the automatic triggers. -/
  | protectClear (e : Fin 4) (p : BitVec 18)
  /-- PROTECT_LOCKOUT (R51, 02_ronjan_instruction_set): the PROTECT command LOCKOUT holds selection on the working carrier. -/
  | protectLockout (e : Fin 4) (p : BitVec 18)
  /-- PROTECT_FORCE_A (R51, 02_ronjan_instruction_set): the PROTECT command FORCE_A selects carrier A unless a lockout is in force. -/
  | protectForceA (e : Fin 4) (p : BitVec 18)
  /-- PROTECT_FORCE_B (R51, 02_ronjan_instruction_set): the PROTECT command FORCE_B selects carrier B unless a lockout is in force. -/
  | protectForceB (e : Fin 4) (p : BitVec 18)
  /-- PROTECT_MANUAL_A (R51, 02_ronjan_instruction_set): the PROTECT command MANUAL_A selects carrier A unless A is in Signal Fail or Signal Degrade. -/
  | protectManualA (e : Fin 4) (p : BitVec 18)
  /-- PROTECT_MANUAL_B (R51, 02_ronjan_instruction_set): the PROTECT command MANUAL_B selects carrier B unless B is in Signal Fail or Signal Degrade. -/
  | protectManualB (e : Fin 4) (p : BitVec 18)
  /-- PIN (R173, 05_tributaries_and_slots): PIN sets or clears the PIN flag that forbids defragmentation from moving a tributary. -/
  | pin (e : Fin 4) (p : BitVec 18)
  /-- QUERY (R61, 02_ronjan_instruction_set): QUERY writes the state word of the object to w[D]. -/
  | query (e : Fin 4) (p : BitVec 18)
  /-- RELANE (R132, 04_host_lanes): RELANE moves a host group to new lanes in both directions. -/
  | relane (e : Fin 4) (p : BitVec 18)
  /-- KEYIMP (R196, 06_encryption_and_lock_chamber): KEYIMP queues the unwrap of a key record under a KEK slot into a target key slot. -/
  | keyimp (e : Fin 4) (p : BitVec 18)
  /-- KEY_UNWRAP (R196, 06_encryption_and_lock_chamber): the management core runs a queued class 0 unwrap job, fills the key slot or refuses, and the KEYIMP is then accepted. -/
  | keyUnwrap
  /-- KEYSTAGE (R228, 06_encryption_and_lock_chamber): KEYSTAGE stages a key slot as the tributary's next key. -/
  | keystage (e : Fin 4) (p : BitVec 18)
  /-- KEYROLL (R225, 06_encryption_and_lock_chamber): KEYROLL makes the transmit tributary roll to its staged key at the next superframe boundary. -/
  | keyroll (e : Fin 4) (p : BitVec 18)
  /-- KEYZERO (R62, 02_ronjan_instruction_set): KEYZERO overwrites a key slot with zeros unless the slot is in use. -/
  | keyzero (e : Fin 4) (p : BitVec 18)
  /-- REFSET (R404, 12_timing_and_levee_ring): REFSET puts a reference-set descriptor in force and re-evaluates selection. -/
  | refset (e : Fin 4) (p : BitVec 18)
  /-- REALIGN (R403, 12_timing_and_levee_ring): REALIGN steps the published phase to the line-frame phase at the next superframe boundary. -/
  | realign (e : Fin 4) (p : BitVec 18)
  /-- TIMERD (R45, 02_ronjan_instruction_set): TIMERD writes device time in ns to w[D]. -/
  | timerd (e : Fin 4) (p : BitVec 18)
  /-- MRETIRE (R439, 13_memory_and_ecc): MRETIRE retires a bank, at once or pending release by its owner. -/
  | mretire (e : Fin 4) (p : BitVec 18)
  /-- MTEST (R437, 13_memory_and_ecc): MTEST runs a transparent test of a whole bank and returns pass, repaired or failed. -/
  | mtest (e : Fin 4) (p : BitVec 18)
  /-- POWER (R458, 14_polders_and_supplies): POWER applies a polder descriptor and the device chooses the polder's state under it. -/
  | power (e : Fin 4) (p : BitVec 18)
  /-- EVPOST (R45, 02_ronjan_instruction_set): EVPOST posts a program event with a code and a payload. -/
  | evpost (e : Fin 4) (p : BitVec 18)
  /-- EVWAIT (R47, 02_ronjan_instruction_set): EVWAIT waits for an event from a named source. -/
  | evwait (e : Fin 4)
  /-- EVWAIT_TIMEOUT (R47, 02_ronjan_instruction_set): the timeout of an EVWAIT expires before the event, and the EVWAIT writes 0. -/
  | evwaitTimeout (e : Fin 4)
  /-- FENCE_ALL (R90, 03_execution_ordering_faults): FENCE.ALL holds later instructions until every earlier one has completed and every ST is visible. -/
  | fenceAll (e : Fin 4)
  /-- FENCE_OBJ (R90, 03_execution_ordering_faults): FENCE.OBJ holds later instructions naming a handle until earlier ones naming it have completed. -/
  | fenceObj (e : Fin 4)
  /-- FENCE_IO (R90, 03_execution_ordering_faults): FENCE.IO holds later register accesses until earlier ones have completed. -/
  | fenceIo (e : Fin 4)
  /-- FAULT_RECORD (R102, 03_execution_ordering_faults): once no instruction of a FAULTED engine is in flight, the device writes the fault record and posts an engine-fault event. -/
  | faultRecord (e : Fin 4)
  /-- SLU_LOAD_GO (R78, 02_ronjan_instruction_set): A write of SLU_LOAD.GO clears VALID and starts verification of a store bank. -/
  | sluLoadGo (k : Fin 4)
  /-- VERIFICATION_END (R78, 02_ronjan_instruction_set): verification of a store bank ends and sets VALID or ERR with LAST_ERR. -/
  | verificationEnd (k : Fin 4)
  /-- WINDOW_WRITE (R79, 02_ronjan_instruction_set): A host write to the program-store window clears the bank's VALID bit, or is discarded for a LOCKED bank. -/
  | windowWrite (word : BitVec 19) (v : W32)
  /-- START (R81, 02_ronjan_instruction_set): sLU_ENGn_CTL.START starts an engine from ENTRY, or resumes a faulted engine. -/
  | start (e : Fin 4) (bank : Fin 4)
  /-- STOP (R81, 02_ronjan_instruction_set): sLU_ENGn_CTL.STOP makes the engine drain, starting no new instruction. -/
  | stop (e : Fin 4)
  /-- KILL (R81, 02_ronjan_instruction_set): sLU_ENGn_CTL.KILL cancels the unstarted instructions and drains the engine. -/
  | kill (e : Fin 4)
  /-- ENGINE_DRAINED (R81, 02_ronjan_instruction_set): A draining engine has no instruction left in flight and enters IDLE. -/
  | engineDrained (e : Fin 4)
  /-- SYNC (R96, 03_execution_ordering_faults): A write of GLB_FENCE.SYNC starts an SPI fence. -/
  | sync
  /-- PM_SECOND (R107, 03_execution_ordering_faults): at each second of the interval timer, PM counters are snapshot and queued, and seconds are classified. -/
  | pmSecond
  /-- PM_ROLLUP (R106, 03_execution_ordering_faults): the management core runs a class 2 roll-up slice for a pending PM second. -/
  | pmRollup
  /-- ALLOCATION_INTERVAL (R284, 08_forward_error_correction): at the end of a 1.28 ms allocation interval, iteration statistics, shares, budgets and FECSD are updated. -/
  | allocationInterval
  /-- SF_INTERVAL (R292, 08_forward_error_correction): at the end of an 81.92 µs SF interval, FECSF is raised or cleared. -/
  | sfInterval
  /-- SIGNAL_PRESENT (R116, 04_host_lanes): an HRX lane sees signal present and starts adapting. -/
  | signalPresent (l : Fin 28)
  /-- SIGNAL_LOST (R116, 04_host_lanes): an HRX lane loses its signal and returns to DOWN. -/
  | signalLost (l : Fin 28)
  /-- LANE_LOCK (R116, 04_host_lanes): an ADAPT lane has had CDR lock and enough SNR for 1 ms and enters LOCKED. -/
  | laneLock (l : Fin 28) (m : LaneMeas)
  /-- ADAPT_TIMEOUT (R116, 04_host_lanes): A lane spends 50 ms in ADAPT without lock and reloads its default coefficients. -/
  | adaptTimeout (l : Fin 28)
  /-- LANE_UNLOCK (R116, 04_host_lanes): A LOCKED lane loses CDR lock, or its SNR stays below UNLOCK_SNR for 10 µs, and it returns to ADAPT. -/
  | laneUnlock (l : Fin 28) (m : LaneMeas)
  /-- LANE_RESTART (R115, 04_host_lanes): hLN_LANEn_CTL.RESTART restarts lane adaptation from the default coefficients. -/
  | laneRestart (l : Fin 28)
  /-- MARKER_LOCK (R158, 05_tributaries_and_slots): A lane gains marker lock after three consecutive periods, possibly bringing its group UP. -/
  | markerLock (l : Fin 28) (logical : Fin 8) (skew : Nat)
  /-- MARKER_LOCK_LOST (R158, 05_tributaries_and_slots): A lane loses marker lock after four periods without a marker. -/
  | markerLockLost (l : Fin 28)
  /-- RS_CODEWORD (R122, 04_host_lanes): an RS(544,514) codeword received on an HRX lane is decoded and its blocks or cells are recovered. -/
  | rsCodeword (l : Fin 28) (info parity : List (Fin 4))
  /-- HOST_CELL (R159, 05_tributaries_and_slots): A channelised host cell received on HRX is checked and forwarded to its tributary, or discarded. -/
  | hostCell (g : Fin 28)
  /-- PRBS_GENEN (R136, 04_host_lanes): A write of GENEN starts a lane's PRBS generator, or is refused with PRBSDENY for a lane in an active group. -/
  | prbsGenen (l : Fin 28) (pat : Fin 8)
  /-- PRBS_CLR (R138, 04_host_lanes): hLN_LANEn_PRBS.CLR zeroes both PRBS counters and SAT. -/
  | prbsClr (l : Fin 28)
  /-- PRBS_SYNC (R137, 04_host_lanes): the checker declares sync after 1,024 error-free symbols. -/
  | prbsSync (x : LaneLevels)
  /-- PRBS_SYNC_LOSS (R137, 04_host_lanes): the checker loses sync when 64 of 1,024 symbols are in error, sets PRBSLOSS and reseeds. -/
  | prbsSyncLoss (l : Fin 28) (levels : List (Fin 4)) (last : Fin 4)
  /-- PRBS_SATURATION (R138, 04_host_lanes): the PRBS bit counter reaches saturation, both counters stop and SAT is set. -/
  | prbsSaturation (l : Fin 28) (levels : List (Fin 4))
  /-- HLN_THRESH_WRITE (R142, 04_host_lanes): A write to HLN_THRESH takes effect unless LOCK_SNR would not exceed UNLOCK_SNR. -/
  | hlnThreshWrite (v : W32)
  /-- TXEQ_WRITE (R139, 04_host_lanes): A write to HLN_LANEn_TXEQ sets the FIR cursors, holding values above the maximum at the maximum. -/
  | txeqWrite (l : Fin 28) (v : W32)
  /-- TRANSMIT_FRAME (R240, 07_line_framing): the frame clock marks a line frame, and each enabled carrier builds and sends it with its overhead. -/
  | transmitFrame
  /-- SUPERFRAME_BOUNDARY (R168, 05_tributaries_and_slots): at a superframe boundary, standby transmit pages come into force and due rolls and enable completions take effect. -/
  | superframeBoundary
  /-- SEAL_BOUNDARY (R145, 05_tributaries_and_slots): A transmit seal ends after B units and the next seal starts, applying pending rolls, drains and resumptions. -/
  | sealBoundary (n : Fin 1024)
  /-- DEFRAG_MOVE (R171, 05_tributaries_and_slots): the device writes a defragmentation move of one unpinned tributary into the standby page. -/
  | defragMove (c : Fin 2)
  /-- CMSEL_WRITE (R179, 05_tributaries_and_slots): A write to TRB_CMSEL captures the selected connection-memory entry into TRB_CMDATA. -/
  | cmselWrite (v : W32)
  /-- RECEIVE_UNIT (R213, 06_encryption_and_lock_chamber): A received unit reaches CIP, is decrypted into the lock chamber, and may be released early or fail its seal on poison. -/
  | receiveUnit (n : Fin 1024)
  /-- TAG_VERDICT (R214, 06_encryption_and_lock_chamber): the tag verdict of a seal is delivered, so that the seal is released, or fails and is replaced, with receive state updated. -/
  | tagVerdict (n : Fin 1024)
  /-- AREA_ZEROED (R224, 06_encryption_and_lock_chamber): zeroing of a failed or discarded seal's lock-chamber area ends and the area may be reused or released. -/
  | areaZeroed (n : Fin 1024)
  /-- KEYWARN (R190, 06_encryption_and_lock_chamber): A key slot's seal count reaches 2^40 − 2^32, which sets WARN and rolls the tributaries that have staged keys. -/
  | keywarn (k : Fin 2048)
  /-- KEY_SPENT (R191, 06_encryption_and_lock_chamber): A key slot's seal count reaches 2^40, so that its tributaries roll or enter STOPPED. -/
  | keySpent (k : Fin 2048)
  /-- COUNTER_LIMIT (R188, 06_encryption_and_lock_chamber): A transmit seal counter would pass 2^56 − 1, and the tributary enters STOPPED. -/
  | counterLimit (n : Fin 1024)
  /-- ROOT_INJECTION (R197, 06_encryption_and_lock_chamber): CIP_KEKCTL.GO with PLAIN 1 starts a root injection into MTP and slot 0. -/
  | rootInjection (wrap : Fin 8) (target : Fin 8)
  /-- KEK_LOAD (R197, 06_encryption_and_lock_chamber): CIP_KEKCTL.GO with PLAIN 0 starts unwrapping a record into a KEK slot. -/
  | kekLoad (wrap : Fin 8) (target : Fin 8)
  /-- KEK_OPERATION_END (R198, 06_encryption_and_lock_chamber): A KEK load or root injection ends, which sets RESULT and zeroes CIP_KEKBUF. -/
  | kekOperationEnd (verified : Bool)
  /-- PROVISION (R200, 06_encryption_and_lock_chamber): CIP_LCS request PROVISION starts the transition from MANUFACTURE to PROVISIONED. -/
  | provision (confirm : BitVec 16)
  /-- DEPLOY (R200, 06_encryption_and_lock_chamber): CIP_LCS request DEPLOY starts the transition from PROVISIONED to DEPLOYED. -/
  | deploy (confirm : BitVec 16)
  /-- RETIRE (R200, 06_encryption_and_lock_chamber): CIP_LCS request RETIRE starts the transition to RETIRED, which erases the root. -/
  | retire (confirm : BitVec 16)
  /-- RENEW (R200, 06_encryption_and_lock_chamber): CIP_LCS request RENEW returns an exhausted device to MANUFACTURE and resets the epoch. -/
  | renew (confirm : BitVec 16)
  /-- LCS_TRANSITION_END (R613, 06_encryption_and_lock_chamber): A life-cycle transition finishes its wipe and MTP commit, and RESULT is set. -/
  | lcsTransitionEnd (ok : Bool)
  /-- TAMPER_TRIGGER (R204, 06_encryption_and_lock_chamber): A tamper trigger wipes the key slots, stops release and stops every tributary. -/
  | tamperTrigger (cause : Fin 4)
  /-- TAMPER_ZEROED (R204, 06_encryption_and_lock_chamber): zeroing of the lock-chamber banks after a tamper ends, which sets WIPED and posts TAMPER. -/
  | tamperZeroed
  /-- TAMPER_COUNT_WRITE (R204, 06_encryption_and_lock_chamber): the pending tamper-count increment is written to MTP once the write window is met. -/
  | tamperCountWrite
  /-- KSSEL_WRITE (R232, 06_encryption_and_lock_chamber): A write to CIP_KSSEL captures the slot's information into CIP_KSINFO, CIP_KSID and the count registers. -/
  | ksselWrite (v : W32)
  /-- RECEIVE_FRAME (R243, 07_line_framing): A received line frame goes through alignment, outer decoding, overhead extraction, defect and map processing. -/
  | receiveFrame (c : Fin 2) (arrival : Nat)
  /-- HOLDOFF_EXPIRY (R257, 07_line_framing): A copy's SF or SD has persisted for the hold-off and enters protection selection. -/
  | holdoffExpiry (g : Fin 1025) (c : Fin 2)
  /-- WTR_EXPIRY (R258, 07_line_framing): the wait-to-restore timer of a revertive group expires and the selector reverts to working. -/
  | wtrExpiry (g : Fin 1025)
  /-- COMMIT_POINT (R259, 07_line_framing): at a seal's commit point, the seal is taken whole from the copy the selector names. -/
  | commitPoint (n : Fin 1024)
  /-- DD_UNKNOWN (R261, 07_line_framing): no matching frame arrives on the other carrier within a superframe, DD becomes unknown and DDX is raised. -/
  | ddUnknown
  /-- BLOCK_ARRIVAL (R275, 08_forward_error_correction): the last coded bit of a component block arrives at the pool, the window slides and the old target reaches its deadline. -/
  | blockArrival (c : Fin 2) (zeros : BitVec 30720)
  /-- DECODING_PASS (R276, 08_forward_error_correction): the pool runs one pass on a thread window and checks convergence and cap. -/
  | decodingPass (c : Fin 2) (th : Fin 16) (window : List (BitVec 30720)) (e16 : BitVec 30720) (e32 : BitVec 30720)
  /-- BLOCK_DELIVERY (R279, 08_forward_error_correction): A block leaves the pool and its information bytes, poisoned if uncorrectable, are delivered to FRM in order. -/
  | blockDelivery (c : Fin 2)
  /-- FEC_CTL_CLR (R300, 08_forward_error_correction): fEC_Cc_CTL.CLR zeroes every counter and histogram bin of the carrier. -/
  | fecCtlClr (c : Fin 2)
  /-- FEC_SD_WRITE (R301, 08_forward_error_correction): A write to FEC_Cc_SD takes effect only if every field stays in range and SDCLR stays below SDTHR. -/
  | fecSdWrite (c : Fin 2) (v : W32)
  /-- HISTSEL_WRITE (R300, 08_forward_error_correction): A write to FEC_Cc_HISTSEL captures the bin's count into HISTLO and HISTHI. -/
  | histselWrite (c : Fin 2) (v : W32)
  /-- PILOT_BLOCK (R303, 09_line_dsp): the receive chain processes a pilot block: carrier and timing recovery, metrics and pilot-based checks. -/
  | pilotBlock (c : Fin 2) (x : PilotMeas)
  /-- DISPERSION_TRACKING (R316, 09_line_dsp): every 1 ms the dispersion stage moves toward the residual dispersion and may post CDSTEP. -/
  | dispersionTracking (c : Fin 2) (residual : Int)
  /-- BULK_DGD_UPDATE (R317, 09_line_dsp): every 1 ms the bulk polarisation delay is updated from the equaliser taps. -/
  | bulkDgdUpdate (c : Fin 2) (delay : Int)
  /-- EQ_RESTART (R319, 09_line_dsp): dSx_EQCTL.RESTART resets the equaliser taps to identity in CMA. -/
  | eqRestart (c : Fin 2)
  /-- EQ_FREEZE (R319, 09_line_dsp): FREEZE written 1 holds the equaliser taps in FROZEN. -/
  | eqFreeze (c : Fin 2)
  /-- EQ_UNFREEZE (R319, 09_line_dsp): FREEZE written 0 returns the equaliser from FROZEN to DD. -/
  | eqUnfreeze (c : Fin 2)
  /-- EQ_DD_ENTRY (R319, 09_line_dsp): both outputs carry their own pilots for 16 pilot blocks and the equaliser enters DD. -/
  | eqDdEntry (c : Fin 2)
  /-- EQREINIT (R319, 09_line_dsp): both outputs carry the same pilot sequence for 4 pilot blocks, and the Y filters are re-set. -/
  | eqreinit (c : Fin 2)
  /-- LSTEER_PERIOD (R325, 09_line_dsp): at the end of each laser-steering PERIOD the device evaluates the offset and may send a correction word. -/
  | lsteerPeriod (c : Fin 2) (f : Int)
  /-- XI_SEARCH (R322, 09_line_dsp): every 100 ms the xi search moves xi toward higher SNR and reports the gain. -/
  | xiSearch (c : Fin 2) (snr : Nat)
  /-- FILLSYNC (R330, 09_line_dsp): the receive fill schedule is held after four predicted fill blocks, and FILLSYNC is set. -/
  | fillsync (c : Fin 2)
  /-- MONITOR_UPDATE (R332, 09_line_dsp): the periodic DSP monitors are updated. -/
  | monitorUpdate (c : Fin 2) (m : MonitorMeas)
  /-- TAPSEL_WRITE (R336, 09_line_dsp): A write to DSx_TAPSEL captures a tap into DSx_TAPDATA. -/
  | tapselWrite (c : Fin 2) (v : W32)
  /-- DSP_CONTROL_WRITE (R337, 09_line_dsp): A write to DSx_LSTCTL, DSx_TXCTL or DSx_EQCTL takes effect only if every field stays in range. -/
  | dspControlWrite (c : Fin 2) (reg : Fin 3) (v : W32)
  /-- SWEEP_END (R341, 10_acquisition): A search lane ends a sweep and reports a detection to the candidate queue when its metric reaches DETTHR. -/
  | sweepEnd (c : Fin 2) (lane : Fin 5) (x : SweepMeas)
  /-- CONFIRM_START (R346, 10_acquisition): the free confirmation path takes the head candidate into SETTLE. -/
  | confirmStart (c : Fin 2)
  /-- SETTLE_END (R346, 10_acquisition): A candidate completes 2,048 pilot blocks of SETTLE and enters PILOT. -/
  | settleEnd (c : Fin 2)
  /-- PILOT_PASS (R346, 10_acquisition): A candidate passes 16 consecutive pilot blocks and enters FILL or BLOCK. -/
  | pilotPass (c : Fin 2)
  /-- FILL_HOLD (R346, 10_acquisition): the candidate's fill schedule is held and it enters BLOCK. -/
  | fillHold (c : Fin 2)
  /-- FILL_TIMEOUT (R346, 10_acquisition): A candidate spends 8,192 pilot blocks in FILL without a hold and is rejected. -/
  | fillTimeout (c : Fin 2)
  /-- BLOCK_WINDOW (R347, 10_acquisition): A window of 1,024 trial block offsets is tested, and the candidate enters CHECK, continues, or is rejected. -/
  | blockWindow (c : Fin 2) (zeros : Nat) (pick : Fin 1024)
  /-- CHECK_END (R346, 10_acquisition): the 64 CHECK blocks end and the candidate locks or is rejected. -/
  | checkEnd (c : Fin 2) (zeros : Nat)
  /-- REJECT_EXPIRY (R344, 10_acquisition): A reject-list zone's 10 ms expire and the zone is removed. -/
  | rejectExpiry (c : Fin 2)
  /-- LOSS_OF_PILOTS (R350, 10_acquisition): the locked signal's metric stays below DETTHR for 32 pilot blocks, and lock is lost. -/
  | lossOfPilots (c : Fin 2)
  /-- SETUP_CHECK (R350, 10_acquisition): 1 ms after lock, the device drops the lock when FILLSYNC or DD has not been reached. -/
  | setupCheck (c : Fin 2)
  /-- ACQ_RESTART (R356, 10_acquisition): aCQ_Cc_CTL.RESTART drops any lock or candidate, clears the queue and reject list, and restarts the search. -/
  | acqRestart (c : Fin 2)
  /-- PREEMPT (R354, 10_acquisition): A rival exceeds the lock by WMARGIN for 32 pilot blocks, so the lock is dropped and the rival enters SETTLE. -/
  | preempt (c : Fin 2)
  /-- ACQ_THRESH_WRITE (R360, 10_acquisition): A write to ACQ_THRESH takes effect at the next pilot block only if all fields are valid. -/
  | acqThreshWrite (v : W32)
  /-- STARTUP_END (R364, 11_converters_and_calibration): the converter start-up of a carrier ends and READY is set. -/
  | startupEnd (c : Fin 2)
  /-- PAIR_START (R368, 11_converters_and_calibration): A calibration pair starts at a PERIOD boundary of a running direction. -/
  | pairStart (st : Fin 4)
  /-- CALIBRATION_RUN_END (R369, 11_converters_and_calibration): A 100 ms calibration run ends, and at the end of the second run the pair is accepted or discarded. -/
  | calibrationRunEnd (st : Fin 4) (x : CalStats)
  /-- CORRECTION_STEP (R373, 11_converters_and_calibration): every millisecond each correction in force moves toward its target by at most its step. -/
  | correctionStep (st : Fin 4)
  /-- STORE (R377, 11_converters_and_calibration): CNV_STCTL.STORE makes a calibration store fall due at once. -/
  | store_
  /-- STORE_JOB (R378, 11_converters_and_calibration): A pending store job reaches the management core and starts INVALIDATE, or ends outside the window. -/
  | storeJob
  /-- STORE_INVALIDATED (R378, 11_converters_and_calibration): the target bank's commit word is zeroed and the store enters WRITE. -/
  | storeInvalidated
  /-- STORE_WRITTEN (R378, 11_converters_and_calibration): all set-bank contents are written and the store enters VERIFY. -/
  | storeWritten
  /-- STORE_VERIFIED (R378, 11_converters_and_calibration): read-back of the set bank ends, and the store enters COMMIT or fails with VERIFY. -/
  | storeVerified (right : Bool)
  /-- STORE_COMMITTED (R378, 11_converters_and_calibration): the commit word is written and read back, and the target bank comes into force. -/
  | storeCommitted
  /-- MAP_WRITE (R363, 11_converters_and_calibration): A write to CNV_Cc_MAP takes effect only while the carrier is not enabled. -/
  | mapWrite (c : Fin 2) (v : W32)
  /-- TABSEL_WRITE (R385, 11_converters_and_calibration): A write to CNV_Cc_TABSEL captures a table entry or tap into TABDATA. -/
  | tabselWrite (c : Fin 2) (v : W32)
  /-- BINSEL_WRITE (R386, 11_converters_and_calibration): A write to CNV_BINSEL captures a bin's information into CNV_BININFO. -/
  | binselWrite (v : W32)
  /-- QUALIFICATION_SECOND (R392, 12_timing_and_levee_ring): at each second, input offsets, qualification states, selection, history samples and phase checks are evaluated. -/
  | qualificationSecond (x : RefSecond)
  /-- LOS (R390, 12_timing_and_levee_ring): A REF_IN input fails its activity check and loss of signal is declared. -/
  | los (i : Fin 4)
  /-- REF_ACTIVE (R390, 12_timing_and_levee_ring): A REF_IN input becomes active and present. -/
  | refActive (i : Fin 4)
  /-- BANDWIDTH_STEP (R398, 12_timing_and_levee_ring): the loop's phase error has stayed within ±50 ns for the dwell, so the bandwidth narrows or the loop locks. -/
  | bandwidthStep
  /-- SAMPLE_ELIGIBLE (R399, 12_timing_and_levee_ring): A history sample becomes eligible 60 s after its second and enters the holdover estimate. -/
  | sampleEligible
  /-- PULLDONE (R400, 12_timing_and_levee_ring): the build-out B reaches 0 and PULLDONE is posted. -/
  | pulldone
  /-- RING_LINK_UP (R408, 12_timing_and_levee_ring): the ring link comes UP after 1,024 valid code groups. -/
  | ringLinkUp
  /-- RING_LINK_DOWN (R408, 12_timing_and_levee_ring): the ring link goes DOWN on loss of signal or on invalid code groups. -/
  | ringLinkDown (x : RingHeard)
  /-- WICKET_OPEN (R409, 12_timing_and_levee_ring): with EN 1 and the link UP for 1 ms, the device opens the wicket in an idle gap and inserts itself. -/
  | wicketOpen
  /-- WICKET_CLOSE (R409, 12_timing_and_levee_ring): after EN is written 0, the device closes the wicket in the next idle gap. -/
  | wicketClose
  /-- RING_SYNC (R412, 12_timing_and_levee_ring): A ring SYNC message is received, forwarded or removed, and updates the ring phase and device time. -/
  | ringSync (m : RingIn) (at_ : Nat)
  /-- RING_STATE (R414, 12_timing_and_levee_ring): A ring STATE message is received, forwarded, and stored in TIM_PEERp. -/
  | ringState (m : RingIn)
  /-- RING_DELAY (R412, 12_timing_and_levee_ring): A ring DELAY message is received and its SHARE is taken for path-delay estimates. -/
  | ringDelay (m : RingIn)
  /-- STATE_SEND (R414, 12_timing_and_levee_ring): an inserted device sends its STATE message every 1 ms or on a change. -/
  | stateSend
  /-- PEER_TIMEOUT (R414, 12_timing_and_levee_ring): no STATE has come from a peer for 5 ms, and its VALID clears. -/
  | peerTimeout (p : Fin 16)
  /-- TIM_OUT_WRITE (R418, 12_timing_and_levee_ring): A write to TIM_OUT takes effect unless it names an undefined frequency code. -/
  | timOutWrite (v : W32)
  /-- SCRUB_READ (R432, 13_memory_and_ecc): the scrubber reads a word, corrects or poisons it, counts errors and detects hard faults. -/
  | scrubRead (b : Fin 192) (word : BitVec 16) (upset : BitVec 73)
  /-- TEST_BLOCK (R435, 13_memory_and_ecc): A transparent test processes a 64-word block, possibly repairing or retiring the bank. -/
  | testBlock (b : Fin 192) (fails : BitVec 73)
  /-- BUCKET_LEAK (R433, 13_memory_and_ecc): every LEAK milliseconds a bank's leaky bucket falls by 1. -/
  | bucketLeak (b : Fin 192)
  /-- BIST_START (R437, 13_memory_and_ecc): the background test of a bank starts at its slot in the BIST period. -/
  | bistStart (b : Fin 192)
  /-- CLEAR_DONE (R424, 13_memory_and_ecc): clearing of a bank between owners ends, and the bank becomes FREE or RETIRED. -/
  | clearDone (b : Fin 192)
  /-- MEM_CLAIM (R426, 13_memory_and_ecc): MEM_CLAIM.GO with REL 0 claims a FREE bank for HOST. -/
  | memClaim (b : BitVec 8)
  /-- MEM_RELEASE (R426, 13_memory_and_ecc): MEM_CLAIM.GO with REL 1 releases a HOST bank. -/
  | memRelease (b : BitVec 8)
  /-- ACC_WRITE (R427, 13_memory_and_ecc): MEM_ACCCTL.GO with WRITE 1 writes one word of a HOST bank. -/
  | accWrite (b : BitVec 8) (word : BitVec 16) (poison : Bool) (coll : Bool)
  /-- ACC_READ (R427, 13_memory_and_ecc): MEM_ACCCTL.GO with WRITE 0 reads one word of a HOST bank. -/
  | accRead (b : BitVec 8) (word : BitVec 16) (upset : BitVec 73)
  /-- LOG_WRITE (R440, 13_memory_and_ecc): A class 3 job writes a pending retirement-log entry to MTP. -/
  | logWrite
  /-- LOG_CLR (R440, 13_memory_and_ecc): ECC_LOGCTL.CLR empties the retirement log, in MANUFACTURE only. -/
  | logClr
  /-- INJ_ARM (R443, 13_memory_and_ecc): ECC_INJ.ARM arms error injection at the next MEM_ACC write to a HOST bank. -/
  | injArm (v : W32)
  /-- LOGSEL_WRITE (R446, 13_memory_and_ecc): A write to ECC_LOGSEL captures a log entry into ECC_LOGDLO and ECC_LOGDHI. -/
  | logselWrite (v : W32)
  /-- RAIL_GOOD (R450, 14_polders_and_supplies): A rail reaches its good level, and sequencing flags are set when the order is wrong. -/
  | railGood (r : Fin 6) (late : Bool)
  /-- RAIL_FALL (R507, 16_reset_and_bring_up): VSRD, VANA or VCNVH falls below its good level, and the affected functions are held. -/
  | railFall (r : Fin 6)
  /-- RAIL_RETURN (R507, 16_reset_and_bring_up): A fallen rail returns and the hold is reversed within 1 ms. -/
  | railReturn (r : Fin 6)
  /-- VAON_FAIL (R409, 12_timing_and_levee_ring): VAON fails, which closes the wicket and loses AON state. -/
  | vaonFail
  /-- AON_MONITOR (R612, 14_polders_and_supplies): the AON supply monitor changes its report of VAON at or above 3.0 V. -/
  | aonMonitor (ok : Bool)
  /-- DWELL_EXPIRY (R456, 14_polders_and_supplies): A polder has been unneeded for DWELL (and WHOLD has ended), and it starts entry to the deepest allowed state. -/
  | dwellExpiry (n : Fin 40)
  /-- ENTRY_END (R453, 14_polders_and_supplies): A polder finishes entering retention or off, and any latched wakes are replayed. -/
  | entryEnd (n : Fin 40) (px : Nat) (po : Nat)
  /-- WAKE (R459, 14_polders_and_supplies): A sleeping polder starts to wake on a need, a wake source or a POWER. -/
  | wake (n : Fin 40) (src : BitVec 8)
  /-- WAKE_END (R453, 14_polders_and_supplies): A waking polder is fully on, and MGT restores device time and writes held events. -/
  | wakeEnd (n : Fin 40)
  /-- WHOLD_EXPIRY (R459, 14_polders_and_supplies): the minimum on-time WHOLD after a wake runs out. -/
  | wholdExpiry (n : Fin 40)
  /-- I2C_ADDRESS_MATCH (R461, 14_polders_and_supplies): the I²C target matches its address without a clock and fires the I2C wake. -/
  | i2cAddressMatch
  /-- PWR_TIMER_WRITE (R608, 14_polders_and_supplies): A write to PWR_TIMER starts or stops the wake-timer count-down. -/
  | pwrTimerWrite (v : W32)
  /-- TIMER (R608, 14_polders_and_supplies): PWR_TIMER reaches 0 and fires the TIMER wake source once. -/
  | timer
  /-- XO_IN_STOP (R465, 14_polders_and_supplies): XO_IN stops, so AON switches its tick source and housekeeping conversions stop. -/
  | xoInStop
  /-- XO_IN_RETURN (R514, 17_housekeeping_adc): XO_IN returns and housekeeping conversions restart with settling. -/
  | xoInReturn
  /-- MODEL_ADVANCE (R474, 15_thermal_management): every 1 ms the thermal model advances, reads the diodes and updates corrections and estimates. -/
  | modelAdvance (x : ModelTick)
  /-- THERMAL_EVALUATION (R485, 15_thermal_management): every 1 ms the throttling controller evaluates its conditions. -/
  | thermalEvaluation
  /-- STEP_UP (R485, 15_thermal_management): after a zone is hot or power is over for 10 ms, and settled, the shutter step rises by one. -/
  | stepUp
  /-- STEP_RELEASE (R485, 15_thermal_management): after the cool interval, the shutter step falls by one. -/
  | stepRelease
  /-- TRIP (R487, 15_thermal_management): A zone estimate reaches TRIP for 1 ms, so the device enters TRIPPED and holds every carrier. -/
  | trip
  /-- TRIP_CLEAR (R485, 15_thermal_management): every zone stays 15 °C below TRIP for 10 s, the trip clears and held carriers restart. -/
  | tripClear
  /-- REINSTATE (R481, 15_thermal_management): THM_DIODECTL.REINSTATE starts a trial of a failed diode. -/
  | reinstate (mask : BitVec 12)
  /-- REINSTATE_END (R481, 15_thermal_management): the 10 s trial ends and the diode is reinstated or stays failed. -/
  | reinstateEnd (d : Fin 12)
  /-- POWER_ON_RESET (R492, 16_reset_and_bring_up): VAON rises through its good level and a power-on reset is asserted. -/
  | powerOnReset
  /-- RESET_N (R492, 16_reset_and_bring_up): RESET_N goes low and a cold reset is asserted. -/
  | resetN
  /-- VCORE_LOW (R451, 14_polders_and_supplies): VCORE falls below its good level while VAON is good, and a cold reset is asserted. -/
  | vcoreLow
  /-- VIO_LOW (R492, 16_reset_and_bring_up): VIO falls below its good level while VAON is good, and a cold reset is asserted. -/
  | vioLow
  /-- HOSTCOLD (R492, 16_reset_and_bring_up): RST_CTL written with REQ 2 and the right KEY requests a cold reset. -/
  | hostcold (key : BitVec 16)
  /-- HOSTWARM (R492, 16_reset_and_bring_up): RST_CTL written with REQ 1 and the right KEY requests a warm reset. -/
  | hostwarm (key : BitVec 16)
  /-- CRITICAL_STATE_ERROR (R495, 16_reset_and_bring_up): A critical-state check finds an error and requests a warm or cold reset by class. -/
  | criticalStateError (u : Fin 8)
  /-- LOCKOUT (R496, 16_reset_and_bring_up): the reset controller's copies disagree, and the device enters lockout. -/
  | lockout
  /-- BRING_UP (R500, 16_reset_and_bring_up): after release of a power-on or cold reset, the device runs bring-up through trims, self-test, seeding and epoch step to READY. -/
  | bringUp (x : BringUp)
  /-- WARM_BRING_UP (R501, 16_reset_and_bring_up): after release of a warm reset, the device runs the shortened warm bring-up to READY. -/
  | warmBringUp (failing : List (Fin 192))
  /-- NOXO (R498, 16_reset_and_bring_up): XO_IN has failed to qualify for 100 ms, and NOXO is set. -/
  | noxo
  /-- RELEASE (R505, 16_reset_and_bring_up): GLB_CTL.RELEASE ends debug halt, after which the device behaves as for HOST. -/
  | release
  /-- FLASH_LOAD_END (R546, 18_management_interfaces): the boot-flash load and verification end, and engine 0 starts or BOOTERR is set. -/
  | flashLoadEnd (x : FlashLoad)
  /-- HKA_GO (R519, 17_housekeeping_adc): HKA_CTL.GO starts one conversion in single mode. -/
  | hkaGo
  /-- HKA_CONFIG_WRITE (R520, 17_housekeeping_adc): A write to HKA_CTL or HKA_SCAN that changes the configuration abandons the conversion in progress. -/
  | hkaConfigWrite (scan : Bool) (v : W32)
  /-- HKA_SAMPLE (R517, 17_housekeeping_adc): the decimating filter delivers an output, which is discarded during settling or added to the conversion. -/
  | hkaSample (bits : List Bool)
  /-- CONVERSION_END (R521, 17_housekeeping_adc): A conversion ends, writes its result and mean, and evaluates the alarms. -/
  | conversionEnd
  /-- HKA_DATA_READ (R522, 17_housekeeping_adc): A read of HKA_DATA returns the result and clears VALID. -/
  | hkaDataRead
  /-- WRITE (R529, 18_management_interfaces): an SPI WRITE command writes one word. -/
  | write (addr : Option W32) (word : Option W32)
  /-- READ (R529, 18_management_interfaces): an SPI READ command reads one word. -/
  | read (addr : Option W32) (cut : Bool)
  /-- WRITEINC (R529, 18_management_interfaces): an SPI WRITEINC command writes words at ascending addresses until SPI_CS_N rises. -/
  | writeinc (addr : Option W32) (words : List W32) (cut : Bool)
  /-- READINC (R529, 18_management_interfaces): an SPI READINC command reads words at ascending addresses until SPI_CS_N rises. -/
  | readinc (addr : Option W32) (n : Nat) (cut : Bool)
  /-- STATUS (R532, 18_management_interfaces): an SPI STATUS command returns only the status byte. -/
  | status
  /-- POST (R533, 18_management_interfaces): MGT_MBXCTL.POST copies the mailbox command into the class 1 queue, or answers BUSY. -/
  | post
  /-- ACK (R534, 18_management_interfaces): MGT_MBXCTL.ACK releases the response in MBXOUT, letting the next one in. -/
  | ack
  /-- VERSION (R534, 18_management_interfaces): the mailbox command VERSION returns the firmware version and CRC. -/
  | version
  /-- PMGET (R534, 18_management_interfaces): the mailbox command PMGET returns the PM counts of an object for a second. -/
  | pmget
  /-- PMLAST (R534, 18_management_interfaces): the mailbox command PMLAST returns the latest second rolled up. -/
  | pmlast
  /-- POP (R540, 18_management_interfaces): MGT_EVQ_CTL.POP removes the oldest event-queue record. -/
  | pop
  /-- I2C_WRITE (R542, 18_management_interfaces): an I²C write transaction writes an always-on register by index. -/
  | i2cWrite (index : Byte) (v : W32)
  /-- I2C_READ (R542, 18_management_interfaces): an I²C read transaction reads an always-on register by index. -/
  | i2cRead (index : Byte)
  /-- IDCODE (R548, 18_management_interfaces): the JTAG instruction IDCODE selects the identification register. -/
  | idcode
  /-- SAMPLE_PRELOAD (R548, 18_management_interfaces): the JTAG instruction SAMPLE/PRELOAD samples or preloads the boundary cells. -/
  | samplePreload (cells : List Bool)
  /-- EXTEST (R550, 18_management_interfaces): the JTAG instruction EXTEST drives the boundary cells and holds the carriers and host groups. -/
  | extest
  /-- EXTEST_PULSE (R550, 18_management_interfaces): the JTAG instruction EXTEST_PULSE tests AC-coupled pairs and holds the carriers and host groups. -/
  | extestPulse
  /-- EXTEST_TRAIN (R550, 18_management_interfaces): the JTAG instruction EXTEST_TRAIN tests AC-coupled pairs and holds the carriers and host groups. -/
  | extestTrain
  /-- CLAMP (R550, 18_management_interfaces): the JTAG instruction CLAMP fixes the outputs and holds the carriers and host groups. -/
  | clamp
  /-- HIGHZ (R550, 18_management_interfaces): the JTAG instruction HIGHZ releases the outputs and holds the carriers and host groups. -/
  | highz
  /-- DEBUG (R548, 18_management_interfaces): the JTAG instruction DEBUG opens the management-core debug port when permitted, otherwise it acts as BYPASS. -/
  | debug
  /-- CIPTEST (R548, 18_management_interfaces): the JTAG instruction CIPTEST reaches the cipher test chains and zeroes the key store, when permitted. -/
  | ciptest
  /-- BYPASS (R548, 18_management_interfaces): the JTAG instruction BYPASS, or any undefined code, selects the bypass register. -/
  | bypass
  /-- TEST_LOGIC_RESET (R493, 16_reset_and_bring_up): A JTAG test-logic reset resets the TAP only. -/
  | testLogicReset
  /-- PMC_CLR (R565, 19_performance_counters): pMC_SELn.CLR zeroes one counter. -/
  | pmcClr (k : Fin 64)
  /-- CLRALL (R566, 19_performance_counters): PMC_CTL.CLRALL zeroes all 64 counters. -/
  | clrall
  /-- PMC_SEL_WRITE (R557, 19_performance_counters): A write to PMC_SELn selects a counter's signal, unless the selection is invalid. -/
  | pmcSelWrite (k : Fin 64) (v : W32)
  /-- HOST_TRANSMIT (R119, 04_host_lanes): the device sends the next RS codeword or cell on the HTX lanes of a group, releasing plaintext from the lock chamber and rate adaptation, or sending idles, filler, markers or replacement. -/
  | hostTransmit (g : Fin 28) (skip : Fin 1024)
  /-- PUBLISHED_SUPERFRAME_BOUNDARY (R405, 12_timing_and_levee_ring): A superframe boundary of the published phase marks the FPO pulse and, on the ring master, times the SYNC message. -/
  | publishedSuperframeBoundary
  /-- UNDEFINED_OPCODE (R56, 02_ronjan_instruction_set): an engine fetches an instruction word whose opcode is undefined, and it faults ILLEGAL. -/
  | undefinedOpcode (e : Fin 4)
  /-- SPI_UNDEFINED_COMMAND (R531, 18_management_interfaces): an SPI transaction carries an undefined command code, and the device discards it and reports ERR in the next status byte. -/
  | spiUndefinedCommand (code : Byte)
  /-- BADCMD (R535, 18_management_interfaces): A posted mailbox command with an undefined CMD reaches the management core and is answered with RESULT BADCMD. -/
  | badcmd
  /-- PERIOD_BOUNDARY (R378, 11_converters_and_calibration): A calibration PERIOD boundary of a set passes, and a store that ended outside the write window or failed VERIFY falls due again. -/
  | periodBoundary (st : Fin 4)
deriving DecidableEq, Repr

end Sys2Proof
end

