-- ==== Sys2Proof/Decode.lean ====
section
/-! DEFINITION. Commands spelled by table bits: spec/opcode_table.json gives no row any bits, so no word spells a command. The
words of the program store are decoded where an engine runs them (Machine/Operands.lean, Machine/Engine.lean). -/

namespace Sys2Proof

/-- The command that a word spells by the table's bits: none, for every word. -/
def decodeTableWord (_nbits _w : Nat) : Option Instr := none

end Sys2Proof
end

