-- ==== Sys2Proof/Machine/Bits.lean ====
section
/-! DEFINITION. Bit fields, signed fields, byte order and the cyclic checks of the spec (R4, R6, R77). -/

namespace Sys2Proof.Machine

/-- The field of `w` bits from bit `lo` up (R4). -/
def fieldOf (v lo w : Nat) : Nat := v / 2 ^ lo % 2 ^ w

/-- Bit `i` of a value. -/
def bitOf (v i : Nat) : Nat := v / 2 ^ i % 2

/-- A value with bit `i` set. -/
def setBitN (v i : Nat) : Nat := if bitOf v i = 1 then v else v + 2 ^ i

/-- A value with bit `i` cleared. -/
def clrBitN (v i : Nat) : Nat := if bitOf v i = 1 then v - 2 ^ i else v

/-- A value with bit `i` set or cleared. -/
def putBitN (v i : Nat) (b : Bool) : Nat := if b then setBitN v i else clrBitN v i

/-- A field of `w` bits read as a two's-complement number. -/
def signedOf (w v : Nat) : Int := if v < 2 ^ (w - 1) then (v : Int) else (v : Int) - (2 : Int) ^ w

/-- A number as a two's-complement field of `w` bits. -/
def encSigned (w : Nat) (i : Int) : Nat := (i % (2 : Int) ^ w).toNat

/-- The number of ones among the lowest `n` bits. -/
def popCount (n v : Nat) : Nat := ((List.range n).map (bitOf v)).sum

/-- The lowest set bit among the lowest `n` bits. -/
def lowBit (n v : Nat) : Option Nat := (List.range n).find? (fun i => bitOf v i == 1)

/-- A value in `n` bytes, most significant first (R6). -/
def bytesBE : Nat → Nat → List Byte
  | 0, _ => []
  | n + 1, v => BitVec.ofNat 8 (v / 2 ^ (8 * n)) :: bytesBE n (v % 2 ^ (8 * n))

/-- The value of bytes, most significant first (R6). -/
def natBE (l : List Byte) : Nat := l.foldl (fun a b => a * 256 + b.toNat) 0

/-- A value in `n` bits, most significant first. -/
def bitsBE : Nat → Nat → List Bool
  | 0, _ => []
  | n + 1, v => (v / 2 ^ n % 2 == 1) :: bitsBE n (v % 2 ^ n)

/-- The value of bits, most significant first. -/
def natOfBits (l : List Bool) : Nat := l.foldl (fun a b => 2 * a + b.toNat) 0

/-- The bits of a byte stream, bit 7 of each byte first (R6). -/
def bitsOfBytes (l : List Byte) : List Bool := l.flatMap (fun b => bitsBE 8 b.toNat)

/-- Cut a list into runs of `n`, the last one as long as what is left. -/
def chunksAux {α : Type} (n : Nat) : Nat → List α → List (List α)
  | 0, _ => []
  | k + 1, l => match l with
    | [] => []
    | _ :: _ => l.take n :: chunksAux n k (l.drop n)

/-- Cut a list into runs of `n`. -/
def chunks {α : Type} (n : Nat) (l : List α) : List (List α) := chunksAux n l.length l

/-- Bytes of a bit stream, first bit most significant (R6). -/
def bytesOfBits (l : List Bool) : List Byte := (chunks 8 l).map (fun c => BitVec.ofNat 8 (natOfBits c))

/-- The remainder of a cyclic check of width `w` with a polynomial, fed bit by bit from an initial value. -/
def crcBits (w poly init : Nat) (l : List Bool) : Nat :=
  l.foldl (fun r b =>
    let top := r / 2 ^ (w - 1) % 2
    let r' := r * 2 % 2 ^ w
    if (top == 1) != b then Nat.xor r' poly else r') init

/-- The bits of a value in reverse order. -/
def reflect (w v : Nat) : Nat := ((List.range w).map (fun i => bitOf v i * 2 ^ (w - 1 - i))).sum

/-- CRC-32 of IEEE 802.3 (R77): reflected input and output, final exclusive-or of ones. -/
def crc32 (l : List Byte) : Nat :=
  let bits := l.flatMap (fun b => (bitsBE 8 b.toNat).reverse)
  Nat.xor (reflect 32 (crcBits 32 0x04C11DB7 0xFFFFFFFF bits)) 0xFFFFFFFF

/-- Bytewise exclusive-or. -/
def xorBytes (a b : List Byte) : List Byte := List.zipWith (fun x y => x ^^^ y) a b

/-- Saturating increment within `w` bits. -/
def satAdd (w v n : Nat) : Nat := min (2 ^ w - 1) (v + n)

/-- Replace the element at an index, if there is one. -/
def setNth {α : Type} (l : List α) (i : Nat) (v : α) : List α := l.set i v

end Sys2Proof.Machine
end

