-- ==== Sys2Proof/Machine/Client.lean ====
section
/-! DEFINITION. Client streams (R149 to R157): 66-bit blocks, their transcoding into 257-bit blocks (IEEE 802.3,
PRESUMED in log entry 8), line cells, host cells and their CRC-8, the scrambler of the host PCS. -/

namespace Sys2Proof.Machine.Client

/-- A 66-bit block: control or data, and 64 payload bits with bit 0 first on the wire. -/
abbrev Block := Bool × Nat

/-- An idle control block. -/
def idle : Block := (true, 0x1E)
/-- An error control block. -/
def errorBlock : Block := (true, 0x1E + ((List.range 8).map (fun i => 0x1E * 2 ^ (8 + 7 * i))).sum)
/-- A local-fault sequence ordered set. -/
def localFault : Block := (true, 0x4B + 2 ^ 24)

/-- The block type of a control block. -/
def btype (b : Block) : Nat := b.2 % 256
/-- A start control block. -/
def isStart (b : Block) : Bool := b.1 && (btype b == 0x78 || btype b == 0x33 || btype b == 0x66)
/-- A terminate control block. -/
def isTerm (b : Block) : Bool := b.1 && [0x87, 0x99, 0xAA, 0xB4, 0xCC, 0xD2, 0xE1, 0xFF].contains (btype b)
/-- An idle control block (every character an idle). -/
def isIdle (b : Block) : Bool := b.1 && b.2 == 0x1E
/-- A low-power idle block: type 0x1E with every character code 0x06 (R123). -/
def isLowPower (b : Block) : Bool := b.1 && b.2 == 0x1E + ((List.range 8).map (fun i => 6 * 2 ^ (8 + 7 * i))).sum
/-- A data block. -/
def isData (b : Block) : Bool := !b.1

/-- Whether a stream is inside a frame after a block. -/
def inFrameAfter (inF : Bool) (b : Block) : Bool := isStart b || (inF && isData b)

/-- How many of a list of blocks may go before idles are inserted so that these stand between frames, as late as
possible (R150); none when there is no gap. -/
def gapPlace (inF : Bool) (bs : List Block) : Option Nat :=
  (List.range (bs.length + 1)).reverse.find? (fun i => !((bs.take i).foldl inFrameAfter inF))

/-- Delete one idle from a gap between frames that holds more than one (R150), or none; `seen` says that the gap has
shown an idle already. -/
def dropIdle (seen : Bool) : List Block → Option (List Block)
  | [] => none
  | b :: t =>
    if isIdle b then (if seen then some t else (dropIdle true t).map (fun r => b :: r))
    else (dropIdle (seen && b.1 && !(isStart b) && !(isTerm b)) t).map (fun r => b :: r)

/-- Payload bits, first on the wire first. -/
def payloadBits (p : Nat) : List Bool := (List.range 64).map (fun i => bitOf p i == 1)

/-- The number whose bit i is the i-th bit of a list. -/
def ofWire (l : List Bool) : Nat := (l.reverse).foldl (fun a b => 2 * a + b.toNat) 0

/-- Four blocks in 257 bits. -/
def transcode (bs : List Block) : List Bool :=
  if bs.all isData then true :: bs.flatMap (fun b => payloadBits b.2)
  else
    let bits := bs.flatMap (fun b => payloadBits b.2)
    let c := (bs.takeWhile isData).length
    false :: (bs.map (fun b => !b.1) ++ bits.take (64 * c + 4) ++ bits.drop (64 * c + 8))

/-- The second nibble of a block type from its first nibble. -/
def highNibble (n : Nat) : Nat :=
  (([0x1E, 0x2D, 0x33, 0x4B, 0x55, 0x66, 0x78, 0x87, 0x99, 0xAA, 0xB4, 0xCC, 0xD2, 0xE1, 0xFF].find?
    (fun t => t % 16 == n)).getD 0x1E) / 16

/-- Four blocks from 257 bits. -/
def untranscode (l : List Bool) : List Block :=
  if l.headD true then ((chunks 64 (l.drop 1)).take 4).map (fun c => (false, ofWire c))
  else
    let flags := (l.drop 1).take 4
    let rest := l.drop 5
    let c := (flags.takeWhile id).length
    let nib := ofWire ((rest.drop (64 * c)).take 4)
    let bits := rest.take (64 * c + 4) ++ ((List.range 4).map (fun i => bitOf (highNibble nib) i == 1))
      ++ rest.drop (64 * c + 4)
    List.zipWith (fun (f : Bool) c => (!f, ofWire c)) flags (chunks 64 bits)

/-- Thirty-two blocks in 257 bytes (R149). -/
def pack (bs : List Block) : List Byte := bytesOfBits ((chunks 4 bs).flatMap transcode)

/-- Thirty-two blocks from 257 bytes (R149). -/
def unpack (l : List Byte) : List Block := ((chunks 257 (bitsOfBytes l)).flatMap untranscode)

/-- A line cell (R152): TYPE, CAUSE and 128 payload bytes. -/
def lineCell (ty cause : Nat) (payload : List Byte) : List Byte :=
  BitVec.ofNat 8 (ty * 64 + cause * 4) :: payload

/-- A FILLER line cell (R152). -/
def fillerCell (cause : Nat) : List Byte := lineCell 1 cause (List.replicate 128 0)

/-- CRC-8 of R155. -/
def hec (l : List Byte) : Nat := crcBits 8 0x07 0 (bitsOfBytes l)

/-- A host cell header (R155). -/
def hostHeader (ty chid cause : Nat) : List Byte :=
  let h := bytesBE 3 (ty * 2 ^ 22 + chid * 2 ^ 12 + cause * 2 ^ 8)
  h ++ [BitVec.ofNat 8 (hec h)]

/-- A host cell (R154, R155). -/
def hostCell (ty chid cause : Nat) (payload : List Byte) : List Byte := hostHeader ty chid cause ++ payload

/-- The marker pattern of R157. -/
def markerPattern : Nat := 0x5C3A96E1D24B0F78

/-- A MARKER cell (R157): for MARKER, CHID holds the logical lane (R155). -/
def markerCell (lane hgrp lanes : Nat) : List Byte :=
  hostCell 2 lane 0 (bytesBE 8 markerPattern ++ [BitVec.ofNat 8 hgrp, BitVec.ofNat 8 lanes] ++ List.replicate 118 0)

/-- The Gray mapping of R110: a pair of bits to a level. -/
def grayLevel (a b : Bool) : Nat := if a then (if b then 2 else 3) else (if b then 1 else 0)

/-- The pair of bits of a level. -/
def grayBits (v : Nat) : List Bool :=
  if v = 0 then [false, false] else if v = 1 then [false, true] else if v = 2 then [true, true] else [true, false]

/-- Levels of a bit stream (R110). -/
def levelsOf (bits : List Bool) : List Nat :=
  (chunks 2 bits).map (fun c => grayLevel (c.getD 0 false) (c.getD 1 false))

/-- The 1/(1+D) mod 4 precoder (R111): each output is the level minus the output before. -/
def precode (prev : Nat) (l : List Nat) : List Nat × Nat :=
  let r := l.foldl (fun (p : List Nat × Nat) v => let o := (v + 4 - p.2) % 4; (o :: p.1, o)) ([], prev)
  (r.1.reverse, r.2)

/-- The matching decoder (R111): the sum of a symbol and the one before. -/
def decode1d (prev : Nat) (l : List Nat) : List Nat × Nat :=
  let r := l.foldl (fun (p : List Nat × Nat) v => ((v + p.2) % 4 :: p.1, v)) ([], prev)
  (r.1.reverse, r.2)

/-- An inverted pair exchanges level v with 3 − v (R124). -/
def invertLevels (inv : Bool) (l : List Nat) : List Nat := if inv then l.map (fun v => 3 - v) else l

end Sys2Proof.Machine.Client
end

