-- ==== Sys2Proof/Machine/Assoc.lean ====
section
/-! DEFINITION. Sparse data by key: a list of (key, value) pairs with strictly rising keys. -/

namespace Sys2Proof.Assoc

variable {α : Type}

/-- The value listed under a key, if one is. -/
def find (k : Nat) : List (Nat × α) → Option α
  | [] => none
  | (j, v) :: t => if j = k then some v else find k t

/-- The value listed under a key, or the value an unlisted key reads as. -/
def get (d : α) (k : Nat) (m : List (Nat × α)) : α := (find k m).getD d

/-- List a value under a key, keeping the keys in rising order. -/
def put (k : Nat) (v : α) : List (Nat × α) → List (Nat × α)
  | [] => [(k, v)]
  | (j, w) :: t =>
    if k < j then (k, v) :: (j, w) :: t
    else if j = k then (k, v) :: t
    else (j, w) :: put k v t

/-- Remove whatever is listed under a key. -/
def drop (k : Nat) : List (Nat × α) → List (Nat × α)
  | [] => []
  | (j, w) :: t => if j = k then drop k t else (j, w) :: drop k t

/-- The keys rise strictly. -/
def rising : List (Nat × α) → Bool
  | [] => true
  | [_] => true
  | a :: b :: t => decide (a.1 < b.1) && rising (b :: t)

/-- Change the value under a key, starting from the value an unlisted key reads as. -/
def modify (d : α) (k : Nat) (f : α → α) (m : List (Nat × α)) : List (Nat × α) :=
  put k (f (get d k m)) m

end Sys2Proof.Assoc
end

