-- ==== Sys2Proof/Machine/Fields.lean ====
section
/-! DEFINITION. A register field (its address, its place in the word, its width and its reset value) and a
row of the register tables of the spec. -/

namespace Sys2Proof.Machine

/-- The access types of R8. -/
inductive Acc where
  | ro | rw | w1c | w1s | wo | rc
deriving DecidableEq, Repr

/-- One field of one register: `addr` is the register's address, `lo` the field's lowest bit (R4). -/
structure Fld where
  addr : Nat
  lo : Nat
  width : Nat
  rst : Nat
deriving DecidableEq, Repr

/-- The key a field's value is listed under. -/
def Fld.key (f : Fld) : Nat := 32 * f.addr + f.lo

/-- A field as a table of the spec lists it: `kept` says that it survives warm reset (R11). -/
structure FieldRow where
  lo : Nat
  width : Nat
  acc : Acc
  rst : Nat
  kept : Bool
deriving DecidableEq, Repr

/-- A register, or an array of registers with up to two strides, as a table of the spec lists it. -/
structure RegRow where
  base : Nat
  n1 : Nat
  s1 : Nat
  n2 : Nat
  s2 : Nat
  fields : List FieldRow
deriving DecidableEq, Repr

/-- An address is one of the registers of a row. -/
def RegRow.hit (r : RegRow) (a : Nat) : Bool :=
  decide (r.base ≤ a) &&
    (let d := a - r.base
     let i := d / r.s1
     let e := d % r.s1
     decide (i < r.n1) && decide (e % r.s2 = 0) && decide (e / r.s2 < r.n2))

end Sys2Proof.Machine
end

