-- ==== Sys2Proof/Machine/Types.lean ====
section
/-! DEFINITION. What the block holds beside its register fields: polders, memory words, the event queue, the
management core, timing and so on, as plain data. -/

namespace Sys2Proof.Machine

/-! ## Supplies, clocks and polders -/

/-- The states of a polder (R452): a transition reads 3 in STATE. `deep` says off rather than retention. -/
inductive PState where
  | on
  | ret
  | off
  | entering (deep : Bool) (fromRet : Bool)
  | waking (deep : Bool)
deriving DecidableEq, Repr

/-- One polder beside its registers: wakes latched during an entry, in arrival order (R462), WHOLD running, and DWELL
over while WHOLD still runs (R459). -/
structure Polder where
  st : PState := .on
  latched : List Nat := []
  whold : Bool := false
  dwelled : Bool := false
deriving DecidableEq, Repr

/-- The six rails of R447: each good or not, and the sequencing memory of R449 and R450. -/
structure Rails where
  good : List Nat := [0, 1, 2, 3, 4, 5]
  aon3v : Bool := true
deriving DecidableEq, Repr

/-- Clocks and device time (R465 to R468, R108, R608): device time in ns, the interval timer's count of whole
microseconds, the tick counters of AON since MGT's entry and their remainders, the counter saved at entry and the
periods measured there in ps, and what was seen across the sleep. -/
structure Clocks where
  dev : Nat := 0
  xoRuns : Bool := true
  xoQuarters : Nat := 0
  oscUnits : Nat := 0
  nx : Nat := 0
  no : Nat := 0
  saved : Nat := 0
  px : Nat := 0
  po : Nat := 0
  asleep : Bool := false
  usedX : Bool := false
  usedO : Bool := false
  selAtEntry : Nat := 0
  leftLocked : Bool := false
  xoStopped : Bool := false
  timerOn : Bool := false
  timerFs : Nat := 0
  second : Nat := 0
deriving DecidableEq, Repr

/-! ## Memory banks -/

/-- A test running in a bank: from word `next` to word `last`; `forMtest` names the engines and words that wait for it;
`hard` says that a hard fault started it; `background` that the BIST did (R434 to R437). -/
structure TestJob where
  bank : Nat
  next : Nat
  last : Nat
  hard : Bool
  background : Bool
  repaired : Bool
deriving DecidableEq, Repr

/-- Words of a bank that placement gave to an object (R610). `obj` is the object's handle, `role` the owner code; `part` tells the copies of
the connection-memory pages apart (R425): page × 2 + copy. -/
structure Alloc where
  bank : Nat
  role : Nat
  obj : Nat
  start : Nat
  words : Nat
  part : Nat := 0
deriving DecidableEq, Repr

/-- An entry of the retirement log (R440). -/
structure LogEntry where
  bank : Nat
  kind : Nat
  cause : Nat
  sector : Nat
  bit : Nat
  time : Nat
deriving DecidableEq, Repr

/-- What a bank does after its clear ends (R424). -/
inductive AfterClear where
  | free
  | hostRelease
deriving DecidableEq, Repr

/-- The memory beside its registers: the bytes of every bank (bank × 524,288 + offset), the words whose POISON is 1,
the bits flipped in a word since it was written, the errors seen so far at a word (bit 73 for an uncorrectable one),
columns marked hard (sector × 73 + bit), bursts reported, words in use, banks being cleared, tests running. Words are
numbered bank × 65,536 + word. -/
structure Mem where
  bytes : List Host.Cell := []
  poison : List Nat := []
  flips : List (Nat × Nat) := []
  seen : List (Nat × Nat) := []
  hardCols : List (Nat × Nat) := []
  burst : List Nat := []
  allocs : List Alloc := []
  clearing : List Nat := []
  tests : List TestJob := []
  placed : Nat := 0
  log : List LogEntry := []
deriving DecidableEq, Repr

/-! ## Events -/

/-- An event produced while MGT was not on (R606): code, handle, item words, shutter step, whether events of its source
were discarded just before it (R539, R607), and device time while its counter still ran, or else the AON ticks since
then. -/
structure HeldEvent where
  at_ : Option Nat
  code : Nat
  handle : Nat
  items : List Nat
  step : Nat
  seq : Nat
  nx : Nat
  no : Nat
  lost : Bool
deriving DecidableEq, Repr

/-- One source of events (R536, R539, R606, R607). -/
structure Source where
  seq : Nat := 0
  lost : Bool := false
  held : List HeldEvent := []
deriving DecidableEq, Repr

/-- The event queue: records of 16 bytes as 128-bit numbers, oldest first, the position of the oldest in bank 187,
and the sources. -/
structure Evq where
  recs : List Nat := []
  pos : Nat := 0
  sources : List (Nat × Source) := []
deriving DecidableEq, Repr

/-! ## Objects -/

/-- The states of carriers and tributaries (R59). STOPPED (R60) is `enabled` with a stop cause in the tributary. -/
inductive OState where
  | unbound
  | bound
  | enabled
  | draining
deriving DecidableEq, Repr

/-- A byte of a stream with its marks: poison from the line decoders (R37, R236) and poison from memory (R422). -/
structure RxByte where
  byte : BitVec 8
  bad : Bool
  mem : Bool := false
deriving DecidableEq, Repr

/-- A frame-alignment candidate (R242): bytes from the head of the stream to the place where the FAW is expected, and
the frames in a row that matched. -/
structure Candidate where
  dist : Nat
  hits : Nat
deriving DecidableEq, Repr

/-- The run of equal values of one persistent overhead field (R245). -/
structure Persist where
  value : Nat
  run : Nat
deriving DecidableEq, Repr

/-- A second classified under R251 and R253. -/
structure SecondClass where
  label : Nat
  es : Bool
  ses : Bool
  fes : Bool
  fses : Bool
deriving DecidableEq, Repr

/-- What one second has seen so far (R251, R253, R246). -/
structure SecondAcc where
  errored : Nat := 0
  defect : Bool := false
  partly : Bool := true
  farFrames : Nat := 0
  farBdi : Bool := false
  farBei : Bool := false
deriving DecidableEq, Repr

/-- Availability of one end (R252): the seconds not yet ten seconds old, newest first, and the run that may change it. -/
structure Avail where
  recent : List SecondClass := []
  badRun : Nat := 0
  goodRun : Nat := 0
deriving DecidableEq, Repr

/-- The transmit side of a carrier (R234 to R241, R270 to R272): connection-memory pages by slot (R165), the page announced for the next superframe (R167, R168), the CRC of the previous frame, PRBS31, encoder block count, the last 32
information words (newest first), the framed bits not yet cut into a word (length and value), coded blocks not yet
in symbols, BEI due, and the slots whose entry no copy of the page gives for this frame (R438). -/
structure CarTx where
  page : List (Nat × Nat) := []
  standby : List (Nat × Nat) := []
  next : Option (List (Nat × Nat)) := none
  prevCrc : Nat := 0
  prbs : Nat := 2147483647
  block : Nat := 0
  words : List Nat := []
  restLen : Nat := 0
  rest : Nat := 0
  coded : List Bool := []
  bei : Bool := false
  sinceMove : Nat := 16
  running : Bool := false
  lost : List Nat := []
deriving DecidableEq, Repr

/-- The framing side of a receive carrier (R242 to R254). -/
structure CarRx where
  buf : List RxByte := []
  cands : List Candidate := []
  expFnum : Nat := 0
  fnumMiss : Nat := 0
  lastFnum : Nat := 0
  fnumRun : Nat := 0
  crc : Option Nat := none
  prevErr : Bool := false
  mapped : Bool := false
  pageNo : Nat := 0
  persist : List (Nat × Persist) := []
  parts : List (Nat × List Nat) := []
  page : List (Nat × Nat) := []
  nextMap : Option (Nat × List (Nat × Nat)) := none
  phases : List (Nat × Nat) := []
  arrived : List (Nat × Nat) := []
  frameNo : Nat := 0
  gap : Nat := 0
  acc : SecondAcc := {}
  near : Avail := {}
  far : Avail := {}
  degBad : Nat := 0
  degGood : Nat := 0
  rawLom : Bool := false
  rawDeg : Bool := false
  apsAccepted : Bool := false
  srcAccepted : Bool := false
deriving DecidableEq, Repr

/-- A carrier (R58, R59): its state and descriptor, an enable accepted but not completed, whether an enable has
completed since reset (R506, R551), whether the next superframe starts first seals (R176). -/
structure Carrier where
  ost : OState := .unbound
  desc : List Nat := []
  enabling : Bool := false
  everEnabled : Bool := false
  firstSeals : Bool := false
  tx : CarTx := {}
  rx : CarRx := {}
deriving DecidableEq, Repr

/-- An open transmit seal (R180 to R184): key slot, epoch, counter, phases, B, the next unit, the GHASH value so far
and whether its content is void (DISABLE.ABORT) or its tag is to be inverted (R438). -/
structure TxSeal where
  slot : Nat
  key : Nat
  role : Nat
  epoch : Nat
  ctr : Nat
  kph : Nat
  nkph : Nat
  b : Nat
  unit : Nat
  ghash : Nat
  invert : Bool
  void : Bool
deriving DecidableEq, Repr

/-- What a transmit tributary fills its seals with. -/
inductive TxFill where
  | client
  | hostFail
  | filler
deriving DecidableEq, Repr

/-- The transmit side of a tributary: client plaintext not yet sealed (a byte and its memory-poison mark), the open
seal, client blocks waiting and whether frames are open where blocks arrive and where they leave, an overflow being skipped, a
roll falling due, a drain under way, a start that waits for the superframe boundary, and the fill in force. -/
structure TribTx where
  buf : List RxByte := []
  blocks : List (Bool × Nat) := []
  inFrame : Bool := false
  outFrame : Bool := false
  skipping : Bool := false
  opened : Option TxSeal := none
  rollDue : Bool := false
  rollArmed : Bool := false
  drain : Bool := false
  removing : Bool := false
  fill : TxFill := .client
  resume : Bool := false
  starting : Bool := false
  ctrEnd : Bool := false
deriving DecidableEq, Repr

/-- A block of a lock-chamber area: 16 bytes as a number, and its poison (R213). -/
structure AreaBlock where
  data : Nat
  bad : Bool
deriving DecidableEq, Repr

/-- The verdict of a received seal; a failed one may have been cut (R222), a discarded one is replaced with a cause of R156. -/
inductive Verdict where
  | waiting
  | verified
  | failed (cause : Nat) (cut : Bool)
  | discarded (cause : Nat)
deriving DecidableEq, Repr

/-- A seal in the lock chamber (R209 to R224): what it was decrypted under, the units taken in, the header and tag as
received, GHASH so far, its plaintext blocks, verdict, bytes released, whether the tag unit is in, whether it is the
first whole seal of SKIP, the block of the area where it starts. -/
structure RxSeal where
  slot : Nat
  key : Nat
  role : Nat
  epoch : Nat
  ctr : Nat
  kph : Nat
  b : Nat
  units : Nat
  ghash : Nat
  hdr : List (BitVec 8)
  tag : Nat
  area : List AreaBlock
  verdict : Verdict
  poison : Nat
  released : Nat
  complete : Bool
  skip : Bool
  areaAt : Nat
deriving DecidableEq, Repr

/-- One copy of a receive tributary as its carrier delivers it (R207, R208, R259): slots in the received page, the
last seal-phase entry, whether seal boundaries are known, the unit's place in its seal, the units of the
differential-delay buffer, whole seals ready to commit. -/
structure RxCopy where
  slots : Nat := 0
  phase : Option Nat := none
  known : Bool := false
  started : Bool := false
  place : Nat := 0
  units : List (List RxByte) := []
  seals : List (Nat × List (List RxByte)) := []
deriving DecidableEq, Repr

/-- What leaves the device on HTX for one tributary, in order (R177, R222): plaintext bytes released, or
bytes that came poisoned from the rate-adaptation buffer (R438), replacement of so many bytes with a cause, a failure marker, or the start
of a stream whose first cell or block boundary stands after so many bytes. -/
inductive Release where
  | plain (bytes : List (BitVec 8))
  | poisoned (bytes : List (BitVec 8))
  | replace (bytes : Nat) (cause : Nat)
  | marker
  | align (k : Nat)
deriving DecidableEq, Repr

/-- A cell due to the host for a channel: TYPE, CAUSE and payload (R155). -/
structure HostCell where
  ty : Nat
  cause : Nat
  payload : List (BitVec 8)
deriving DecidableEq, Repr

/-- The receive side of a tributary (R209 to R226). -/
structure TribRx where
  copyA : RxCopy := {}
  copyB : RxCopy := {}
  toCip : List (List RxByte) := []
  place : Nat := 0
  seals : List RxSeal := []
  predEpoch : Nat := 0
  predCtr : Nat := 0
  phaseKnown : Bool := false
  hasLast : Bool := false
  lastKey : Option Nat := none
  zeroing : List Nat := []
  dirty : List Nat := []
  areaAt : Nat := 0
  fails : Nat := 0
  out : List Release := []
  afterFail : Bool := false
  carry : List (BitVec 8 × Option Nat) := []
  blk : Nat := 0
  blocks : List (Bool × Nat) := []
  inFrame : Bool := false
  cells : List HostCell := []
  last : Bool := false
  lastId : Option Nat := none
deriving DecidableEq, Repr

/-- A protection group's memory (R255 to R258): hold-offs running, the level of each copy that has entered the
selection (0 clear, 1 SD, 2 SF), whether protection was selected after a fault of the working copy, and the copy that
the request in force selects. -/
structure Protect where
  holdA : Bool := false
  holdB : Bool := false
  levelA : Nat := 0
  levelB : Nat := 0
  enteredA : Nat := 0
  enteredB : Nat := 0
  afterFault : Bool := false
  want : Nat := 0
deriving DecidableEq, Repr

/-- One directional tributary (R58 to R60): state, descriptor, an enable accepted but not completed, the stop cause (0
none), PIN. -/
structure Trib where
  ost : OState := .unbound
  desc : List Nat := []
  enabling : Bool := false
  stop : Nat := 0
  pinned : Bool := false
  tx : TribTx := {}
  rx : TribRx := {}
  prot : Protect := {}
deriving DecidableEq, Repr

/-! ## Keys and MTP -/

/-- A key slot (R190 to R196). The key never reaches a readable register (R193). -/
structure Key where
  key : Nat
  use : Nat
  role : Nat
  keyid : Nat
  count : Nat
  warn : Bool
  spent : Bool
deriving DecidableEq, Repr

/-- A bin of a calibration set (R371): the temperature of its result in 1/8 °C, and the result: each quantity's
deviation from the factory default of R372, in 1/256 of the unit in which the registers of R385 show it. -/
structure CalBin where
  temp : Int
  vals : List (Nat × Int)
deriving DecidableEq, Repr

/-- A calibration bank of MTP (R376 to R380): whether its commit word is whole, SEQ, whether its contents pass their
CRC-32, the bins by 8 × set + bin, and the stores completed in it (R382). -/
structure CalBank where
  committed : Bool := false
  seq : Nat := 0
  whole : Bool := true
  bins : List (Nat × CalBin) := []
  count : Nat := 0
deriving DecidableEq, Repr

/-- The contents of MTP: as supplied (R611) when nothing has been written. `erase` is the request (3 RETIRE, 4 RENEW) whose commit
is made and whose erasure is not finished (R613), 0 for none. -/
structure Mtp where
  lcs : Nat := 0
  root : Option Nat := none
  epochA : Nat := 0
  epochB : Nat := 0
  tamper : Nat := 0
  calA : CalBank := {}
  calB : CalBank := {}
  log : List LogEntry := []
  erase : Nat := 0
deriving DecidableEq, Repr

/-- The operation that CIP_KEKCTL started (R197, R198). -/
structure KekOp where
  plain : Bool
  target : Nat
  wrap : Nat
  buf : List (BitVec 8)
  inWindow : Bool
deriving DecidableEq, Repr

/-- A life-cycle transition under way (R200, R613): its request, the state it started from, whether its commit is made, and whether
the write window was not met when it started or while it was at work (R379). -/
structure LcsOp where
  req : Nat
  old : Nat
  committed : Bool := false
  missed : Bool := false
deriving DecidableEq, Repr

/-- The cipher beside its registers. -/
structure Cipher where
  keys : List (Nat × Key) := []
  kek : Option KekOp := none
  lcs : Option LcsOp := none
  tamperCauses : Nat := 0
  wiping : Bool := false
  pendingCount : Nat := 0
  tamperN : Bool := true
deriving DecidableEq, Repr

/-! ## Host side -/

/-- The PRBS checker of a lane (R137): symbols since it began to seed, its register, error-free symbols in a row, symbols
checked in sync (while it seeds, the last 32 bits), and which of these were in error among the last 1,024. -/
structure PrbsChk where
  seen : Nat := 0
  reg : Nat := 0
  run : Nat := 0
  n : Nat := 0
  errs : List Nat := []
deriving DecidableEq, Repr

/-- A position at which a lane has shown markers (R158): codeword number modulo 264, periods in a row, the logical lane. -/
structure MarkCand where
  pos : Nat
  hits : Nat
  logical : Nat
deriving DecidableEq, Repr

/-- One host lane beside its registers: its logical lane, marker lock, cells or codewords since the marker, received bits not
yet used (each with the mark of an uncorrectable codeword), receive decoder and transmit precoder memory, bits for
the next codeword, and the levels sent last (none: squelched); the number of its next codeword modulo 264, the positions at
which markers were found, the one it is locked to, the periods without a marker there, and the markers that still pass before
its data is taken; the generator's register and the checker. -/
structure Lane where
  logical : Nat := 0
  markerLock : Bool := false
  sinceMark : Nat := 0
  cwAt : Nat := 0
  cands : List MarkCand := []
  markAt : Nat := 0
  missed : Nat := 0
  await : Nat := 0
  gen : Nat := 0
  chk : PrbsChk := {}
  bits : List (Bool × Bool) := []
  rxPre : Nat := 0
  txPre : Nat := 0
  txBits : List Bool := []
  out : List Nat := []
deriving DecidableEq, Repr

/-- One host group beside its registers: the logical lanes next in turn on HRX and HTX, the cell or codeword position in the
marker period being sent, the tributary served last, the scramblers' memory, and whether a receive tributary has been running
since the group became active (R175). -/
structure Group where
  hadRx : Bool := false
  rxTurn : Nat := 0
  turn : Nat := 0
  cellPos : Nat := 0
  served : Nat := 0
  scrRx : Nat := 0
  scrTx : Nat := 0
deriving DecidableEq, Repr

/-! ## Decoder pool -/

/-- A component block in the pool (R275 to R278): its number, hard decisions as received and as they stand, passes
as target, the cap it became target under, how it ended. -/
structure FecBlock where
  t : Nat
  chan : Nat
  bits : Nat
  passes : Nat
  cap : Nat
  converged : Bool
  cut : Bool
  erased : Bool
deriving DecidableEq, Repr

/-- The decoder pool's memory for one receive carrier: blocks in their windows, blocks that have left and wait for
delivery, next arrival, first block received after lock, interval statistics and SF/SD runs. -/
structure Pool where
  window : List FecBlock := []
  left : List FecBlock := []
  past : List FecBlock := []
  next : Nat := 0
  first : Nat := 0
  blocks : Nat := 0
  passSum : Nat := 0
  spent : Nat := 0
  unc : Nat := 0
  conv : Nat := 0
  ones : Nat := 0
  zeros : Nat := 0
  whole : Bool := false
  sfUnc : Nat := 0
  sfWhole : Bool := false
  sfClean : Nat := 0
  sdBad : Nat := 0
  sdGood : Nat := 0
  hist : List (Nat × Nat) := []
  avgNum : Nat := 0
  avgDen : Nat := 0
  uLast : Nat := 0
  stats : Bool := false
  cap : Nat := 24
  imin : Nat := 6
  head : Nat := 3
deriving DecidableEq, Repr

/-! ## Engines -/

/-- What a started instruction still waits for (R87). -/
inductive Wait where
  | carrierOn (c : Nat)
  | tribTx (n : Nat)
  | tribRx (n : Nat)
  | carrierBound (c : Nat)
  | tribBound (key : Nat)
  | unwrap
  | roll (n : Nat)
  | polder (n : Nat)
  | polderOn (n : Nat)
  | mtest (bank : Nat)
  | retire (bank : Nat)
  | pinMove (n : Nat)
  | realign
  | refset
  | delay
  | event (src : Nat)
deriving DecidableEq, Repr

/-- An instruction in flight (R85, R86): its word index and word, whether its effect has been taken, its acceptance
and completion, its fault, what it waits for, and what it took when it started (R43, R63): w[A], w[D] and the words of its
descriptor or record. -/
structure Entry where
  pc : Nat
  word : Nat
  taken : Bool
  accepted : Bool
  completed : Bool
  faulted : Bool
  waits : List Wait
  a : Nat
  d : Nat
  desc : List Nat
deriving DecidableEq, Repr

/-- A fault noted for the record (R102, R103). -/
structure FaultNote where
  pc : Nat
  code : Nat
  reason : Nat
  handle : Nat
deriving DecidableEq, Repr

/-- A sluice engine beside its registers (R42, R81, R102 to R105): image bank, the next word to start, working
registers, instructions in flight (oldest first), words completed since the fault, faults, the resume mask, and the latest
control transfer, as its word and where it led. -/
structure Engine where
  bank : Nat := 0
  pc : Nat := 0
  regs : List (Nat × Nat) := []
  entries : List Entry := []
  doneMask : List Nat := []
  faults : List FaultNote := []
  skipWords : List Nat := []
  branch : Option (Nat × Nat) := none
deriving DecidableEq, Repr

/-! ## Management core -/

/-- A queued key unwrap (R106, R194). -/
structure UnwrapJob where
  engine : Nat
  pc : Nat
  slot : Nat
  kek : Nat
  record : List (BitVec 8)
deriving DecidableEq, Repr

/-- The kinds of class 3 job (R106): a calibration store, a life-cycle transition, a root injection, the tamper count, an entry of
the retirement log. -/
inductive MtpJob where
  | store
  | lcs
  | root
  | tamper
  | log
deriving DecidableEq, Repr

/-- A second of PM counts (R107): per object handle the counts over the second. -/
structure PmSecond where
  label : Nat
  incomplete : Bool
  counts : List (Nat × List Nat)
deriving DecidableEq, Repr

/-- The management core (R106 to R109, R533 to R535): its queues by class (the job at the head of class 3 stays there until it
ends), the PM counts of this second, the slices done of the roll-up
under way, whether it was seen busy last and for how many µs of this second. -/
structure Core where
  unwraps : List UnwrapJob := []
  mail : List (List Nat) := []
  seconds : List PmSecond := []
  jobs : List MtpJob := []
  rolled : List PmSecond := []
  responses : List (List Nat) := []
  counts : List (Nat × List Nat) := []
  slices : Nat := 0
  busy : Bool := false
  busyUs : Nat := 0
deriving DecidableEq, Repr

/-! ## Thermal model and housekeeping converter -/

/-- A reinstatement trial of a diode (R481): the cause of R478 met so far (0 none), the milliseconds run, and the
reading of the millisecond before. -/
structure Trial where
  diode : Nat
  bad : Nat := 0
  ms : Nat := 0
  last : Option Int := none
deriving DecidableEq, Repr

/-- The thermal model in units of 1/1000 of 0.25 °C (R474), each diode's last reading (R478), trials, and for how many evaluations in a row each
condition of R485 has held: each zone hot, over, cool, each zone at TRIP, and clear; evaluations since the last step
change. -/
structure Thermal where
  model : List (Nat × Int) := []
  corr : List (Nat × Int) := []
  reads : List (Nat × Int) := []
  trials : List Trial := []
  hot : List (Nat × Nat) := []
  overMs : Nat := 0
  coolMs : Nat := 0
  tripMs : List (Nat × Nat) := []
  clearMs : Nat := 0
  sinceStep : Nat := 100000
deriving DecidableEq, Repr

/-- The housekeeping converter's filter and conversion in progress (R516 to R518, R523). -/
structure Adc where
  integ : List Nat := []
  comb : List Nat := []
  discard : Nat := 0
  taken : Nat := 0
  sum : Nat := 0
  excursions : List (Nat × Nat) := []
  firedNow : List Nat := []
deriving DecidableEq, Repr

/-! ## Reset controller and ports -/

/-- The reset controller (R492 to R496): a reset asserted, its reach (0 power-on, 1 cold, 2 warm), lockout, a CRIT event due
after the next READY, a boot-flash load under way (R546), and the trims applied: target and payload words (R503). -/
structure ResetCtl where
  asserted : Bool := true
  reach : Nat := 0
  lockout : Bool := false
  critDue : Bool := false
  flashLoading : Bool := false
  trims : List (Nat × List Nat) := []
deriving DecidableEq, Repr

/-- The ports: the previous SPI transaction's result, what the last SPI read, I²C read or JTAG scan returned, I²C
NACK, the JTAG instruction, and what boundary cells were preloaded with. -/
structure Ports where
  spiResult : Nat := 0
  spiStatus : Nat := 2
  spiOut : List Nat := []
  i2cOut : Option Nat := none
  i2cNack : Bool := false
  jtagIr : Nat := 1
  jtagOut : Nat := 0
  cells : List Bool := []
deriving DecidableEq, Repr

/-! ## Line signal processing and acquisition -/

/-- A symbol of one polarisation (R304 to R307): the point (i + jq) √(num / den). -/
structure Sym where
  i : Int
  q : Int
  num : Nat := 1
  den : Nat := 2
deriving DecidableEq, Repr

/-- The fill schedule of a receive direction (R330): how far the accumulator of R309 has turned since it was first followed,
the values it may have had then that agree with the fill blocks recognised (intervals, the upper end left out; none: every
value), how many fill blocks in a row stood where a value allows one, and whether the schedule is held. -/
structure Schedule where
  turn : Nat := 0
  values : Option (List (Nat × Nat)) := none
  run : Nat := 0
  held : Bool := false
deriving DecidableEq, Repr

/-- The signal processing of one carrier beside its registers: the number of the next transmit symbol block and the
accumulator of R309, data symbols not yet in a pilot block, the pilot block sent last (X and Y), how many were sent, the stage-2 samples of its
converters and the codes they send (none: common mode); the quarter turns that cycle slips have left (none: no pilot yet),
the fill schedule, coded bits before the first block boundary, and LLRs that no block has taken yet; runs of pilot blocks
that carry their own or the same pilots, whether the equaliser has reached DD in this lock, the dispersion stage's value, dispersion at lock, whether CDSTEP was posted, the
bulk delay in 0.1 ps, slips in the second, LSTLIM posted in this enable, whether the step count changed in this xi period, the SNR measured
at the last xi and at xi 0, the direction of the search; device time at lock; equaliser taps known one by one, with the others identity or unknown; the
number of the next LSTEER word and the word sent last. -/
structure Line where
  symN : Nat := 0
  acc : Nat := 0
  data : List Sym := []
  sentX : List Sym := []
  sentY : List Sym := []
  sentN : Nat := 0
  shaped : List (List Int) := []
  dac : Option (List (List Int)) := none
  slipTurn : Option Nat := none
  schedule : Schedule := {}
  skip : Nat := 0
  llrs : List Int := []
  ownRun : Nat := 0
  sameRun : Nat := 0
  reachedDD : Bool := false
  cd : Int := 0
  cdLock : Int := 0
  cdPosted : Bool := false
  dgd : Int := 0
  slips : Nat := 0
  limPosted : Bool := false
  lstAt : Nat := 0
  nlcChanged : Bool := false
  snrLast : Option Nat := none
  snrZero : Nat := 0
  xiUp : Bool := true
  taps : List (Nat × (Int × Int)) := []
  identity : Bool := true
  lstSeq : Nat := 0
  word : Option Nat := none
deriving DecidableEq, Repr

/-- A profile (R338): its code, symbol rate in 0.5 GBd, net rate, FEC profile and MOD code. -/
structure Profile where
  code : Nat
  baud : Nat
  net : Nat
  fec : Nat
  mod : Nat
deriving DecidableEq, Repr

/-- A detection (R343): its profile, dispersion in ps/nm, frequency offset in MHz, clock offset in 0.01 ppm, metric in
0.1 dB. -/
structure Detection where
  prof : Profile
  cd : Int
  fofs : Int
  ppm : Int
  m : Int
deriving DecidableEq, Repr

/-- Acquisition of one carrier beside its registers (R338 to R354): the thresholds in force (R360), lanes searched,
queue, the candidate in confirmation with the pilot blocks of its stage, those it has passed, its fill schedule, the LLRs of its
coded bits since FILL and the windows tested, reject list with the times, lock,
rival, runs of 32, device time of the latest entry to SEARCH, entries reported bad in this enable, whether the check of
R350 after 1 ms is due, and whether the candidate displaced a lock (R354). -/
structure Acq where
  detThr : Nat := 0x28
  confThr : Nat := 0x3C
  wMargin : Nat := 0x3C
  swThr : Nat := 0x66
  profiles : List Profile := []
  queue : List Detection := []
  cand : Option Detection := none
  blocks : Nat := 0
  pass : Nat := 0
  schedule : Schedule := {}
  coded : List Int := []
  windows : Nat := 0
  rejects : List (Detection × Nat) := []
  lock : Option Detection := none
  rival : Option Detection := none
  lossRun : Nat := 0
  rivalRun : Nat := 0
  searchAt : Nat := 0
  bad : List Nat := []
  setupDue : Bool := false
  preempted : Bool := false
deriving DecidableEq, Repr

/-! ## Converters -/

/-- A pair of calibration runs under way (R368, R369): the temperatures at the starts of its runs in 0.25 °C, and the
result of run 1. -/
structure CalPair where
  t1 : Int := 0
  t2 : Int := 0
  first : List (Nat × Int) := []
deriving DecidableEq, Repr

/-- The converters beside their registers (R366 to R383). Sets are 0 A transmit, 1 A receive, 2 B transmit and 3 B
receive: the bins by 8 × set + bin, pairs under way, corrections in force by set, the sets captured at INVALIDATE, a
store due at the next PERIOD boundary, whether the commit word of a store is being written, device time of the last completed
store, and VERIFY failures in a row of each bank, and the carriers whose converters are in start-up (R364; both at power-up, log entry 84). -/
structure Cnv where
  bins : List (Nat × CalBin) := []
  pairs : List (Nat × CalPair) := []
  forced : List (Nat × List (Nat × Int)) := []
  captured : List (Nat × CalBin) := []
  dueNext : Bool := false
  committing : Bool := false
  lastStore : Option Nat := none
  failsA : Nat := 0
  failsB : Nat := 0
  starting : List Nat := [0, 1]
deriving DecidableEq, Repr

/-! ## Timing -/

/-- A reference input beside its registers (R391, R392): a REF_IN pin's activity, its offsets second by second (latest
first), its mean offset f and its deviation d, in units of 10⁻⁶ ppm. -/
structure TimIn where
  active : Bool := false
  means : List Int := []
  f : Int := 0
  d : Int := 0
deriving DecidableEq, Repr

/-- A message of the levee ring (R410). -/
structure RingMsg where
  ty : Nat
  src : Nat
  hops : Nat
  seq : Nat
  payload : Nat
  res : Nat
  crc : Nat
deriving DecidableEq, Repr

/-- Timing and the ring beside their registers (R391 to R414): inputs, whole seconds for which the input has been selected, the
terms of the phase check (latest first), history samples not yet eligible (oldest first) and eligible (latest first), whether the
loop has been LOCKED throughout this second, the estimate, the build-out left in fs,
whether it was measured within this second, the latest messages sent (SEQ), SYNC messages sent, the loop
delay's SHARE or the master's, its own messages that wait for an idle gap (type and payload), the last message put on RING_OUT with its
code groups and the running disparity after them, the disparity of RING_IN, its valid code groups in a row and which of the latest 1,024
were valid, the FPO pulse of the last published boundary. -/
structure Tim where
  ins : List (Nat × TimIn) := []
  selFor : Nat := 0
  phase : List Int := []
  waiting : List Int := []
  eligible : List Int := []
  whole : Bool := false
  est : Int := 0
  pull : Int := 0
  fresh : Bool := false
  sent : List Nat := []
  seq : Nat := 0
  syncs : Nat := 0
  share : Nat := 0
  ringWait : List (Nat × Nat) := []
  ringOut : Option RingMsg := none
  ringLine : List Nat := []
  outPlus : Bool := false
  inPlus : Bool := false
  validRun : Nat := 0
  latest : List Bool := []
  fpo : Bool := false
deriving DecidableEq, Repr

end Sys2Proof.Machine
end

