-- ==== Sys2Proof/Machine/Adapt.lean ====
section
/-! DEFINITION. Rate adaptation of a receive tributary: what the lock chamber releases becomes blocks or cells for the host (R149, R152,
R177, R216, R222, R223). -/

namespace Sys2Proof.Machine

/-- A received block on its way to the host: after a failure, data and terminate blocks give way to idles until a start or
an idle (R223). Low-power idle becomes idle (R123). -/
def rxBlock (r : TribRx) (b : Client.Block) : TribRx :=
  let b := if Client.isLowPower b then Client.idle else b
  if r.afterFail then
    (if Client.isStart b || Client.isIdle b then { r with blocks := r.blocks ++ [b], afterFail := false }
     else if Client.isData b || Client.isTerm b then { r with blocks := r.blocks ++ [Client.idle] }
     else { r with blocks := r.blocks ++ [b] })
  else { r with blocks := r.blocks ++ [b] }

/-- The mark of a byte that the receive rate-adaptation buffer gave poisoned (R438); the marks below it are causes of R156. -/
def poisonMark : Nat := 16

/-- The blocks of 66 bits that poisoned bytes of 257 bits reach (R438): block `j` holds bits 1 + 64 j on, and the five bits at the head bear on
all four (log entry 91). -/
def poisonReach (own : List (BitVec 8 × Option Nat)) (i j : Nat) : Bool :=
  (List.range 257).any (fun t => (decide (t < 5) || (t - 1) / 64 == j)
    && (match own[(257 * i + t) / 8 - 257 * i / 8]? with | some b => b.2.isSome | none => false))

/-- Block `i` of the 257 bits each that a group of 257 bytes holds; it is replaced where any of its bytes was (R216), and each 66-bit block
with a poisoned byte gives way to an error control block (R438). -/
def rxBlocks257 (r : TribRx) (group : List (BitVec 8 × Option Nat)) (i : Nat) : TribRx :=
  let own := (group.drop (257 * i / 8)).take ((257 * i + 256) / 8 + 1 - 257 * i / 8)
  if own.any (fun b => b.2.isSome && b.2 != some poisonMark) then { r with blocks := r.blocks ++ List.replicate 4 Client.localFault }
  else
    let blocks := Client.untranscode (((bitsOfBytes (group.map (fun b => b.1))).drop (257 * i)).take 257)
    (blocks.zipIdx.map (fun p => if poisonReach own i p.2 then Client.errorBlock else p.1)).foldl rxBlock r

/-- A whole line cell, or its replacement (R152, R177, R216); a poisoned one becomes a FILLER with cause LINE (R438). -/
def rxCell (r : TribRx) (cell : List (BitVec 8 × Option Nat)) : TribRx :=
  match cell.find? (fun b => b.2.isSome) with
  | some b =>
    let cause := b.2.getD 0
    { r with cells := r.cells ++ [⟨1, if cause = poisonMark then 2 else cause, List.replicate 128 0⟩] }
  | none =>
    let h := ((cell.headD (0, none)).1).toNat
    let c := fieldOf h 2 4
    if fieldOf h 6 2 = 0 then { r with cells := r.cells ++ [⟨0, 0, (cell.drop 1).map (fun b => b.1)⟩] }
    else if fieldOf h 6 2 = 1 ∧ c ≠ 0 then { r with cells := r.cells ++ [⟨1, c, List.replicate 128 0⟩] }
    else r

/-- Length of a cell or of a packed group of blocks in bytes. -/
def unitLen (eth : Bool) : Nat := if eth then 257 else 129

/-- Whole cells, or whole blocks of 257 bits, leave the carry. -/
def rxUnits (eth : Bool) : Nat → TribRx → TribRx
  | 0, r => r
  | k + 1, r =>
    if eth then
      (if 8 * r.carry.length < 257 * (r.blk + 1) then r
       else
        let x := rxBlocks257 r r.carry r.blk
        rxUnits eth k (if r.blk = 7 then { x with carry := x.carry.drop 257, blk := 0 } else { x with blk := x.blk + 1 }))
    else if r.carry.length < 129 then r
    else rxUnits eth k (rxCell { r with carry := r.carry.drop 129 } (r.carry.take 129))

/-- Released bytes that no whole cell or block has taken up take a replacement mark: the unit they belong to spans the cut
(R216). -/
def markCarry (r : TribRx) (cause : Nat) : TribRx :=
  { r with carry := r.carry.map (fun b => (b.1, some (b.2.getD cause))) }

/-- One item released by the chamber (R177, R222). After the replacement for a failed seal the next blocks are watched (R223). -/
def rxRelease (eth : Bool) (r : TribRx) (x : Release) : TribRx :=
  match x with
  | .plain bytes => let r := { r with carry := r.carry ++ bytes.map (fun b => (b, none)) }; rxUnits eth (r.carry.length + 1) r
  | .poisoned bytes =>
    let r := { r with carry := r.carry ++ bytes.map (fun b => (b, some poisonMark)) }
    rxUnits eth (r.carry.length + 1) r
  | .replace n cause =>
    let r := if n = 0 then markCarry r cause else { r with carry := r.carry ++ List.replicate n (0, some cause) }
    let r := rxUnits eth (r.carry.length + 1) r
    { r with afterFail := r.afterFail || (eth && cause == 1) }
  | .marker =>
    let r := markCarry r 1
    if eth then { r with blocks := r.blocks ++ [Client.errorBlock, Client.errorBlock] }
    else { r with cells := r.cells ++ [⟨1, 1, List.replicate 128 0⟩] }
  | .align k => { r with carry := List.replicate (k % unitLen eth) (0, some 2), blk := 0 }

/-- Everything released so far adapted. -/
def TribRx.adapted (r : TribRx) (eth : Bool) : TribRx := r.out.foldl (rxRelease eth) { r with out := [] }

/-- Released bytes that do not lie wholly within data handed to the host side (R218). -/
def TribRx.unhanded (r : TribRx) (eth : Bool) : Nat :=
  let x := r.adapted eth
  x.carry.length - (if eth then 257 * x.blk / 8 else 0)

/-- Released data waits for the host. -/
def TribRx.hasLeft (r : TribRx) : Bool := !(r.out.isEmpty && r.blocks.isEmpty && r.cells.isEmpty)

end Sys2Proof.Machine
end

