-- ==== Sys2Proof/Machine/Aes.lean ====
section
/-! DEFINITION. AES-256 (FIPS 197), its counter mode and GHASH (SP 800-38D), and AES key unwrap (SP 800-38F), as R180,
R181 and R194 name them. Bytes are numbers below 256, a block is 16 of them, and a 128-bit value has its first byte
most significant. -/

namespace Sys2Proof.Machine.Aes

/-- Multiply by x in the field of FIPS 197. -/
def xtime (a : Nat) : Nat := if a < 128 then 2 * a else Nat.xor (2 * a - 256) 0x1B

/-- Multiply in the field of FIPS 197. -/
def mul (a b : Nat) : Nat :=
  ((List.range 8).foldl (fun (p : Nat × Nat) i =>
    (if bitOf b i = 1 then Nat.xor p.1 p.2 else p.1, xtime p.2)) (0, a)).1

/-- Raise to the 254th power: the inverse of a nonzero element, and 0 for 0. -/
def inv (a : Nat) : Nat :=
  let a2 := mul a a
  let a4 := mul a2 a2
  let a8 := mul a4 a4
  let a16 := mul a8 a8
  let a32 := mul a16 a16
  let a64 := mul a32 a32
  let a128 := mul a64 a64
  mul a2 (mul a4 (mul a8 (mul a16 (mul a32 (mul a64 a128)))))

/-- Rotate a byte left. -/
def rotl8 (a k : Nat) : Nat := (a * 2 ^ k + a / 2 ^ (8 - k)) % 256

/-- The substitution of FIPS 197. -/
def sub (a : Nat) : Nat :=
  let b := inv a
  Nat.xor (Nat.xor (Nat.xor b (rotl8 b 1)) (Nat.xor (rotl8 b 2) (rotl8 b 3))) (Nat.xor (rotl8 b 4) 0x63)

/-- The inverse substitution. -/
def subInv (a : Nat) : Nat :=
  inv (Nat.xor (Nat.xor (rotl8 a 1) (rotl8 a 3)) (Nat.xor (rotl8 a 6) 0x05))

/-- The word before and the eighth before give the next word of the key schedule, words being four bytes. -/
def nextWord (i : Nat) (prev back : List Nat) (rcon : Nat) : List Nat :=
  let t :=
    if i % 8 = 0 then
      (match (prev.drop 1 ++ prev.take 1).map sub with
       | a :: r => Nat.xor a rcon :: r
       | [] => [])
    else if i % 8 = 4 then prev.map sub
    else prev
  List.zipWith Nat.xor back t

/-- The key schedule: 60 words, newest first while it grows. -/
def schedule : Nat → Nat → Nat → List (List Nat) → List (List Nat)
  | 0, _, _, ws => ws
  | k + 1, i, rcon, ws =>
    let w := nextWord i (ws.getD 0 []) (ws.getD 7 []) rcon
    schedule k (i + 1) (if i % 8 = 0 then xtime rcon else rcon) (w :: ws)

/-- The 15 round keys of a 256-bit key. -/
def roundKeys (key : Nat) : List (List Nat) :=
  let bytes := (bytesBE 32 key).map (fun b => b.toNat)
  chunks 16 ((schedule 52 8 1 (chunks 4 bytes).reverse).reverse.flatten)

/-- Shift the rows of a state held column by column. -/
def shiftRows (s : List Nat) : List Nat := (List.range 16).map (fun i => s.getD ((i + 4 * (i % 4)) % 16) 0)

/-- Shift the rows back. -/
def shiftRowsInv (s : List Nat) : List Nat := (List.range 16).map (fun i => s.getD ((i + 12 * (i % 4)) % 16) 0)

/-- Multiply each column by a circulant row. -/
def mixWith (c : List Nat) (s : List Nat) : List Nat :=
  (List.range 16).map (fun i =>
    let col := i / 4 * 4
    (List.range 4).foldl (fun a j => Nat.xor a (mul (c.getD ((j + 4 - i % 4) % 4) 0) (s.getD (col + j) 0))) 0)

/-- Encrypt one block. -/
def encBlock (key : Nat) (blk : List Nat) : List Nat :=
  let rk := roundKeys key
  let s0 := List.zipWith Nat.xor blk (rk.getD 0 [])
  let s13 := (List.range 13).foldl (fun s r =>
    List.zipWith Nat.xor (mixWith [2, 3, 1, 1] (shiftRows (s.map sub))) (rk.getD (r + 1) [])) s0
  List.zipWith Nat.xor (shiftRows (s13.map sub)) (rk.getD 14 [])

/-- Decrypt one block. -/
def decBlock (key : Nat) (blk : List Nat) : List Nat :=
  let rk := roundKeys key
  let s0 := (shiftRowsInv (List.zipWith Nat.xor blk (rk.getD 14 []))).map subInv
  let s13 := (List.range 13).foldl (fun s r =>
    (shiftRowsInv (mixWith [14, 11, 13, 9] (List.zipWith Nat.xor s (rk.getD (13 - r) [])))).map subInv) s0
  List.zipWith Nat.xor s13 (rk.getD 0 [])

/-- Encrypt a 128-bit value. -/
def enc (key v : Nat) : Nat :=
  natBE ((encBlock key ((bytesBE 16 v).map (fun b => b.toNat))).map (fun n => BitVec.ofNat 8 n))

/-- Decrypt a 128-bit value. -/
def dec (key v : Nat) : Nat :=
  natBE ((decBlock key ((bytesBE 16 v).map (fun b => b.toNat))).map (fun n => BitVec.ofNat 8 n))

/-- The product of GHASH: bit 127 of the number is the first bit of the block. -/
def gmul (x y : Nat) : Nat :=
  ((List.range 128).foldl (fun (p : Nat × Nat) i =>
    (if bitOf x (127 - i) = 1 then Nat.xor p.1 p.2 else p.1,
     if p.2 % 2 = 1 then Nat.xor (p.2 / 2) (0xE1 * 2 ^ 120) else p.2 / 2)) (0, y)).1

/-- One step of GHASH under a key. -/
def ghashStep (key acc blk : Nat) : Nat := gmul (Nat.xor acc blk) (enc key 0)

/-- Keystream block `k` of an invocation with a 96-bit IV: inc32^k(J0) encrypted (R180, R181). -/
def keystream (key iv k : Nat) : Nat := enc key (iv * 2 ^ 32 + (1 + k) % 2 ^ 32)

/-- The tag from the final GHASH value. -/
def tagOf (key iv ghash : Nat) : Nat := Nat.xor ghash (keystream key iv 0)

/-- One step of key unwrap: the check register and the semiblocks R1 to Rn. -/
def unwrapStep (key n t : Nat) (p : Nat × List Nat) : Nat × List Nat :=
  let i := (t - 1) % n
  let b := dec key (Nat.xor p.1 t * 2 ^ 64 + p.2.getD i 0)
  (b / 2 ^ 64, p.2.set i (b % 2 ^ 64))

/-- Key unwrap of SP 800-38F with the default initial value (R194): the content, when its integrity check passes. -/
def unwrap (key : Nat) (wrapped : List Byte) : Option (List Byte) :=
  let semis := (chunks 8 wrapped).map natBE
  let n := semis.length - 1
  let steps := (List.range (6 * n)).map (fun i => 6 * n - i)
  let r := steps.foldl (fun p t => unwrapStep key n t p) (semis.headD 0, semis.drop 1)
  if r.1 = 0xA6A6A6A6A6A6A6A6 then some (r.2.flatMap (bytesBE 8)) else none

end Sys2Proof.Machine.Aes
end

