-- ==== Sys2Proof/Machine/Codes.lean ====
section
/-! DEFINITION. The line rates and formats (R234, R269, R283, R308), the outer BCH code (R235, R236), RS(544,514) (R122,
R154), the inner LDPC code (R271, R274, R276), the PCS matcher, pilots and fill (R304 to R310). -/

namespace Sys2Proof.Machine

/-! ## Rates and formats -/

/-- Outer parity bytes Q of a frame at net rate N (R234). -/
def outerBytes (n : Nat) : Nat := (126 * (1 + 16 * n) + 7) / 8

/-- Frame length L in bytes at net rate N (R234). -/
def frameLen (n : Nat) : Nat := 1024 + 16384 * n + outerBytes n

/-- Information bits K of a component block (R269). -/
def infoBits (fec : Nat) : Nat := if fec = 0 then 26320 else if fec = 1 then 25600 else 24576

/-- Parity bits P of a component block (R269). -/
def parBits (fec : Nat) : Nat := 30720 - infoBits fec

/-- Pre-FEC BER threshold in 1e-7 (R269). -/
def berThreshold (fec : Nat) : Nat := if fec = 0 then 200000 else if fec = 1 then 260000 else 340000

/-- The demand D of a rate, as blocks per second times K (R283): 781,250 × 8 × L; divide by K. -/
def demandNum (net : Nat) : Nat := 781250 * 8 * frameLen net

/-- E_min of R308. -/
def eMin (net fec baud : Nat) : Nat :=
  (65536 * frameLen net + 21 * infoBits fec * baud - 1) / (21 * infoBits fec * baud)

/-- The format a direction takes: its code of R306 and E, or none when R308 refuses it. -/
def formatOf (net fec baud mod : Nat) : Option (Nat × Nat) :=
  let e := eMin net fec baud
  if mod = 0 then
    (if e ≤ 32 then some (1, 32) else if e ≤ 64 then some (2, 64) else if e ≤ 92 then some (3, e) else none)
  else if mod = 1 then (if e ≤ 32 then some (1, 32) else none)
  else if mod = 2 then (if e ≤ 64 then some (2, 64) else none)
  else if mod = 3 then (if max e 32 ≤ 92 then some (3, max e 32) else none)
  else none

/-- The divisor of R309: 21 K R E. -/
def fillDivisor (fec baud e : Nat) : Nat := 21 * infoBits fec * baud * e

/-- 1 − ρ in 2^−16, rounded down (R336). -/
def fillShare (net fec baud e : Nat) : Nat :=
  let d := fillDivisor fec baud e
  (d - 65536 * frameLen net) * 65536 / d

/-! ## Finite fields and algebraic decoding -/

/-- Product in GF(2^m) with a field polynomial that includes its top bit. -/
def gfMul (m poly a b : Nat) : Nat :=
  ((List.range m).foldl (fun (p : Nat × Nat) i =>
    (if bitOf b i = 1 then Nat.xor p.1 p.2 else p.1,
     if p.2 * 2 < 2 ^ m then p.2 * 2 else Nat.xor (p.2 * 2) poly)) (0, a)).1

/-- A power in GF(2^m). -/
def gfPow (m poly a : Nat) : Nat → Nat → Nat
  | 0, _ => 1
  | k + 1, n =>
    if n = 0 then 1
    else
      let h := gfPow m poly (gfMul m poly a a) k (n / 2)
      if n % 2 = 1 then gfMul m poly a h else h

/-- The inverse in GF(2^m). -/
def gfInv (m poly a : Nat) : Nat := gfPow m poly a (m + 1) (2 ^ m - 2)

/-- Value of a polynomial, lowest coefficient first. -/
def polyEval (m poly : Nat) (c : List Nat) (x : Nat) : Nat :=
  c.foldr (fun a acc => Nat.xor a (gfMul m poly x acc)) 0

/-- Sum of polynomials. -/
def polyAdd (a b : List Nat) : List Nat :=
  (List.range (max a.length b.length)).map (fun i => Nat.xor (a.getD i 0) (b.getD i 0))

/-- The memory of Berlekamp and Massey's iteration. -/
structure BmState where
  c : List Nat
  b : List Nat
  l : Nat
  shift : Nat
  db : Nat

/-- One iteration with syndrome number `n`. -/
def bmStep (m poly : Nat) (synd : List Nat) (st : BmState) (n : Nat) : BmState :=
  let d := (List.range (st.l + 1)).foldl (fun a i =>
    Nat.xor a (gfMul m poly (st.c.getD i 0) (if i ≤ n then synd.getD (n - i) 0 else 0))) 0
  if d = 0 then { st with shift := st.shift + 1 }
  else
    let f := gfMul m poly d (gfInv m poly st.db)
    let c' := polyAdd st.c (List.replicate st.shift 0 ++ st.b.map (gfMul m poly f))
    if 2 * st.l ≤ n then ⟨c', st.c, n + 1 - st.l, 1, d⟩
    else { st with c := c', shift := st.shift + 1 }

/-- The error locator for a list of syndromes, with its length. -/
def locator (m poly : Nat) (synd : List Nat) : List Nat × Nat :=
  let r := (List.range synd.length).foldl (bmStep m poly synd) ⟨[1], [1], 0, 1, 1⟩
  (r.c, r.l)

/-- The places (powers of the primitive element) below `len` where the locator vanishes. -/
def errorPlaces (m poly len : Nat) (loc : List Nat) : List Nat :=
  (List.range len).filter (fun p =>
    polyEval m poly loc (gfPow m poly 2 (m + 1) ((2 ^ m - 1 - p % (2 ^ m - 1)) % (2 ^ m - 1))) == 0)

/-! ## The outer code -/

/-- The field polynomial of R235. -/
def bchField : Nat := 2 ^ 14 + 2 ^ 5 + 2 ^ 3 + 2 + 1

/-- Multiply a polynomial by (x + r). -/
def polyTimesRoot (m poly : Nat) (c : List Nat) (r : Nat) : List Nat :=
  polyAdd (0 :: c) (c.map (gfMul m poly r))

/-- The minimal polynomial of α^i as a binary number. -/
def minimalPoly (i : Nat) : List Nat :=
  (List.range 14).foldl (fun c j => polyTimesRoot 14 bchField c (gfPow 14 bchField 2 15 (i * 2 ^ j % 16383))) [1]

/-- Product of polynomials over GF(2^m). -/
def polyMul (m poly : Nat) (a b : List Nat) : List Nat :=
  ((List.range a.length).map (fun i => List.replicate i 0 ++ b.map (gfMul m poly (a.getD i 0)))).foldl polyAdd []

/-- The generator polynomial of R235, lowest coefficient first: 127 coefficients. -/
def bchGenerator : List Nat :=
  ([1, 3, 5, 7, 9, 11, 13, 15, 17].map minimalPoly).foldl (polyMul 14 bchField) [1]

/-- The generator without its top term, as a number. -/
def bchPoly : Nat := ((List.range 126).map (fun i => bchGenerator.getD i 0 * 2 ^ i)).sum

/-- The 126 parity bits of 8,192 information bits, first bit first (R235). -/
def bchParity (info : List Bool) : List Bool := bitsBE 126 (crcBits 126 bchPoly 0 info)

/-- Syndromes 1 to 18 of a received block. -/
def bchSyndromes (blk : List Bool) : List Nat :=
  (List.range 18).map (fun j =>
    let a := gfPow 14 bchField 2 15 (j + 1)
    blk.foldl (fun acc b => Nat.xor (gfMul 14 bchField acc a) b.toNat) 0)

/-- Correct up to 9 bit errors in a block of information and parity bits (R235, R236): the corrected block and the
number of bits corrected, or none when it is uncorrectable. A block that the generator divides has no error. -/
def bchDecode (blk : List Bool) : Option (List Bool × Nat) :=
  if crcBits 126 bchPoly 0 blk = 0 then some (blk, 0)
  else
    let synd := bchSyndromes blk
    let (loc, l) := locator 14 bchField synd
    let places := errorPlaces 14 bchField blk.length loc
    if l ≤ 9 ∧ places.length = l then
      some (places.foldl (fun b p => b.set (b.length - 1 - p) (!(b.getD (b.length - 1 - p) false))) blk, l)
    else none

/-! ## RS(544,514) -/

/-- The field polynomial of RS(544,514) in IEEE 802.3 (PRESUMED, log entry 8). -/
def rsField : Nat := 2 ^ 10 + 2 ^ 3 + 1

/-- Correct up to 15 symbol errors in 544 symbols, first symbol first: the corrected symbols and whether any was wrong,
or none. -/
def rsDecode (cw : List Nat) : Option (List Nat × Bool) :=
  let synd := (List.range 30).map (fun j =>
    let a := gfPow 10 rsField 2 11 j
    cw.foldl (fun acc v => Nat.xor (gfMul 10 rsField acc a) v) 0)
  if synd.all (fun v => v == 0) then some (cw, false)
  else
    let (loc, l) := locator 10 rsField synd
    let places := errorPlaces 10 rsField cw.length loc
    if l ≤ 15 ∧ places.length = l then
      let om := (polyMul 10 rsField synd loc).take 30
      let der := (List.range loc.length).map (fun i => if i % 2 = 0 then loc.getD (i + 1) 0 else 0)
      some (places.foldl (fun b p =>
        let x := gfPow 10 rsField 2 11 p
        let xi := gfInv 10 rsField x
        let e := gfMul 10 rsField x (gfMul 10 rsField (polyEval 10 rsField om xi)
          (gfInv 10 rsField (polyEval 10 rsField der xi)))
        b.set (b.length - 1 - p) (Nat.xor (b.getD (b.length - 1 - p) 0) e)) cw, true)
    else none

/-- The generator of RS(544,514), lowest coefficient first. -/
def rsGenerator : List Nat :=
  (List.range 30).foldl (fun c j => polyTimesRoot 10 rsField c (gfPow 10 rsField 2 11 j)) [1]

/-- The 30 parity symbols of 514 information symbols. -/
def rsParity (info : List Nat) : List Nat :=
  info.foldl (fun (r : List Nat) v =>
    let f := Nat.xor (r.headD 0) v
    (List.range 30).map (fun i => Nat.xor (r.getD (i + 1) 0) (gfMul 10 rsField f (rsGenerator.getD (29 - i) 0))))
    (List.replicate 30 0)

/-! ## The inner code -/

/-- The XOR of the information bits that each check takes from the block and its two thread predecessors (R271), as a
number whose bit c is s[c]. A block's information bits are given first bit most significant, or 0 when absent. -/
def ldpcSums (fec : Nat) (u0 u16 u32 : Nat) : Nat :=
  let k := infoBits fec
  let p := parBits fec
  let one (a b u : Nat) (s : Nat) : Nat :=
    (List.range k).foldl (fun s j => if bitOf u (k - 1 - j) = 1 then Nat.xor s (2 ^ ((a * j + b) % p)) else s) s
  one 2311 3307 u32 (one 677 1021 u16 (one 1 0 u0 0))

/-- Parity bits of a block, p[0] first (R271). -/
def ldpcParity (fec : Nat) (u0 u16 u32 : Nat) : List Bool :=
  let s := ldpcSums fec u0 u16 u32
  ((List.range (parBits fec)).foldl (fun (r : List Bool × Bool) i =>
    let b := (bitOf s i == 1) != r.2
    (b :: r.1, b)) ([], false)).1.reverse

/-- The number of unsatisfied checks of a block of 30,720 bits, first bit most significant, given the information bits
of its thread predecessors (R274, R276). -/
def ldpcUnsatisfied (fec : Nat) (blk u16 u32 : Nat) : Nat :=
  let p := parBits fec
  let s := ldpcSums fec (blk / 2 ^ p) u16 u32
  ((List.range p).map (fun i =>
    let pi := bitOf blk (p - 1 - i)
    let pj := if i = 0 then 0 else bitOf blk (p - i)
    (bitOf s i + pi + pj) % 2)).sum

/-- The information bits of a block. -/
def blockInfo (fec blk : Nat) : Nat := blk / 2 ^ parBits fec

/-! ## Pilots, fill and the matcher -/

/-- The 128 bits of R304 from a seed. -/
def pilotBits (seed : Nat) : List Bool :=
  ((List.range 128).foldl (fun (p : List Bool × Nat) _ =>
    let b := Nat.xor (bitOf p.2 6) (bitOf p.2 5)
    ((b == 1) :: p.1, p.2 * 2 % 128 + b)) ([], seed)).1.reverse

/-- A signed magnitude: a sign bit of 0 gives + (R306). -/
def signedMag (neg : Bool) (a : Nat) : Int := if neg then -(a : Int) else (a : Int)

/-- The n-th point of R304 from a seed, before the factor 1/√2. -/
def pilotPoint (seed n : Nat) : Int × Int :=
  let b := pilotBits seed
  (signedMag (b.getD (2 * n) false) 1, signedMag (b.getD (2 * n + 1) false) 1)

/-- A row of count(m, e) for e = 0 to the end of the row before it (R307). -/
def countRow (prev : List Nat) : List Nat :=
  (List.range prev.length).map (fun e =>
    (if 1 ≤ e then prev.getD (e - 1) 0 else 0) + (if 9 ≤ e then prev.getD (e - 9) 0 else 0)
      + (if 25 ≤ e then prev.getD (e - 25) 0 else 0) + (if 49 ≤ e then prev.getD (e - 49) 0 else 0))

/-- The rows m = 0, 1, …, n, for energies below `len`. -/
def countRows (len : Nat) : Nat → List (List Nat)
  | 0 => [List.replicate len 1]
  | n + 1 =>
    let rs := countRows len n
    countRow (rs.getD 0 []) :: rs

/-- The smallest energy whose count reaches 2^k (R307). -/
def eMax (k : Nat) : Nat :=
  ((List.range 3137).find? (fun e => decide (2 ^ k ≤ ((countRows 3137 64).getD 0 []).getD e 0))).getD 3136

/-- One step of the matcher: the amplitude at position `i`, with the index and energy left (R307). -/
def matchStep (rows : List (List Nat)) (st : List Nat × Nat × Nat) (i : Nat) : List Nat × Nat × Nat :=
  let row := rows.getD (i + 1) []
  let cnt (a : Nat) : Nat := if a * a ≤ st.2.2 then row.getD (st.2.2 - a * a) 0 else 0
  let rec pick (l : List Nat) (idx : Nat) : Nat × Nat :=
    match l with
    | [] => (7, idx)
    | a :: t => if idx < cnt a then (a, idx) else pick t (idx - cnt a)
  let (a, idx) := pick [1, 3, 5, 7] st.2.1
  (st.1 ++ [a], idx, st.2.2 - a * a)

/-- The 64 magnitudes of an index of `k` bits (R307). -/
def matcher (k idx : Nat) : List Nat :=
  ((List.range 64).foldl (matchStep (countRows 3137 64)) ([], idx, eMax k)).1

/-- The 64 components of a coded symbol block in a format (R306), before scaling. -/
def mapBlock (fmt e : Nat) (bits : List Bool) : List Int :=
  if fmt = 1 then bits.map (fun b => signedMag b 1)
  else if fmt = 2 then
    (List.range 64).map (fun i =>
      let at4 := 4 * (i / 2) + 2 * (i % 2)
      signedMag (bits.getD at4 false) (if bits.getD (at4 + 1) false then 3 else 1))
  else
    let k := 2 * (e - 32)
    let mags := matcher k (natOfBits (bits.take k))
    List.zipWith signedMag (bits.drop k) mags

end Sys2Proof.Machine
end

