-- ==== Sys2Proof/Machine/Flags.lean ====
section
/-! DEFINITION. The fields of an instruction word (R38), its flag bits (R40) and the conditions of BR (R41). -/

namespace Sys2Proof.Machine

/-- Opcode, flags, D, A and B of an instruction word (R38). -/
def opOf (w : Nat) : Nat := fieldOf w 56 8
def flagsOf (w : Nat) : Nat := fieldOf w 48 8
def dOf (w : Nat) : Nat := fieldOf w 44 4
def aOf (w : Nat) : Nat := fieldOf w 40 4
def bOf (w : Nat) : Nat := fieldOf w 0 40

/-- Instructions that write w[D] when they complete (R45, R54): all but the control class, ST, WRREG, EVPOST and the
fences. -/
def writesD (op : Nat) : Bool :=
  (0x10 ≤ op && op ≤ 0x1A) || op == 0x1C || (0x20 ≤ op && op ≤ 0x60) || op == 0x71

/-- The three fences (R90). -/
def isFence (op : Nat) : Bool := 0x80 ≤ op && op ≤ 0x82

/-- NF: a refusal writes its code and the engine continues. -/
def flagNF (w : Nat) : Bool := bitOf w 55 == 1
/-- HR: take the handle from w[A]. -/
def flagHR (w : Nat) : Bool := bitOf w 49 == 1
/-- S of MOVI, IDX of RDREG and WRREG, ABORT of DISABLE. -/
def flag0 (w : Nat) : Bool := bitOf w 48 == 1
/-- COND of BR. -/
def condOf (w : Nat) : Nat := fieldOf w 48 4

/-- The classes whose instructions may carry NF: object, key, timing, memory and power. -/
def takesNF (op : Nat) : Bool :=
  (0x20 ≤ op && op ≤ 0x27) || (0x30 ≤ op && op ≤ 0x33) || (0x40 ≤ op && op ≤ 0x42) || op == 0x50 || op == 0x51 || op == 0x60

/-- The opcodes that may carry HR. -/
def takesHR (op : Nat) : Bool :=
  (0x20 ≤ op && op ≤ 0x27) || (0x31 ≤ op && op ≤ 0x33) || op == 0x50 || op == 0x51 || op == 0x60 || op == 0x81

/-- The opcodes for which bit 48 is a flag: MOVI, RDREG, WRREG, DISABLE. -/
def takesFlag0 (op : Nat) : Bool := op == 0x10 || op == 0x1C || op == 0x1D || op == 0x22

/-- Flags that the opcode may carry, as a mask over [55:48]. -/
def flagMask (op : Nat) : Nat :=
  if op = 0x03 then 0x0F
  else (if takesNF op then 0x80 else 0) + (if takesHR op then 0x02 else 0) + (if takesFlag0 op then 0x01 else 0)

/-- Every flag that is set is listed for the opcode, and a condition is defined (R40, R41). -/
def flagsLegal (w : Nat) : Bool :=
  Nat.land (flagsOf w) (255 - flagMask (opOf w)) == 0 && (opOf w != 0x03 || decide (condOf w < 6))

/-- Two's complement of 64 bits. -/
def signed64 (v : Nat) : Int := signedOf 64 v

/-- A condition of R41 on two register values. -/
def condHolds (c a b : Nat) : Bool :=
  match c with
  | 0 => a == b
  | 1 => a != b
  | 2 => decide (signed64 a < signed64 b)
  | 3 => decide (signed64 b ≤ signed64 a)
  | 4 => decide (a < b)
  | 5 => decide (b ≤ a)
  | _ => false

end Sys2Proof.Machine
end

