-- ==== Sys2Proof/Machine/Operands.lean ====
section
/-! DEFINITION. The operand forms of an instruction word: formats, reserved bits, immediates, offsets, targets and
handles (R38, R39, R45, R52, R53). -/

namespace Sys2Proof.Machine

/-- The formats of R39. -/
inductive Format where
  | n | i | r | t | m | g | o
deriving DecidableEq, Repr

/-- The format of an opcode; none for an undefined one (R45). -/
def formatOfOp (op : Nat) : Option Format :=
  if [0x00, 0x01, 0x05, 0x41, 0x42, 0x80, 0x82].contains op then some .n
  else if [0x06, 0x10, 0x11, 0x12, 0x70, 0x71].contains op then some .i
  else if 0x13 ≤ op ∧ op ≤ 0x19 then some .r
  else if [0x02, 0x03, 0x04].contains op then some .t
  else if op = 0x1A ∨ op = 0x1B then some .m
  else if op = 0x1C ∨ op = 0x1D then some .g
  else if (0x20 ≤ op ∧ op ≤ 0x27) ∨ (0x30 ≤ op ∧ op ≤ 0x33) ∨ op = 0x40 ∨ op = 0x50 ∨ op = 0x51 ∨ op = 0x60 ∨ op = 0x81 then some .o
  else none

/-- The opcode uses its D field. -/
def usesD (op : Nat) : Bool := writesD op || op == 0x1B || op == 0x1D

/-- The instruction uses its A field (R39): with HR or IDX where those are flags. -/
def usesA (w : Nat) : Bool :=
  let op := opOf w
  if op = 0x1C ∨ op = 0x1D then flag0 w
  else if op = 0x30 then true
  else if takesHR op then flagHR w
  else op == 0x03 || op == 0x11 || op == 0x12 || (0x13 ≤ op && op ≤ 0x1B) || op == 0x70

/-- The immediate of format I, and its sign-extension. -/
def immOf (w : Nat) : Nat := bOf w
def immSigned (w : Nat) : Int := signedOf 40 (bOf w)
/-- The B register of formats R and T. -/
def brOf (w : Nat) : Nat := fieldOf w 36 4
/-- TARGET of format T. -/
def targetOf (w : Nat) : Nat := fieldOf w 0 18
/-- OFF of format M. -/
def offOf (w : Nat) : Int := signedOf 24 (fieldOf w 0 24)
/-- ADDR of format G. -/
def addrOf (w : Nat) : Nat := fieldOf w 0 32
/-- HANDLE and ARG of format O. -/
def handleOf (w : Nat) : Nat := fieldOf w 24 16
def argOf (w : Nat) : Nat := fieldOf w 0 24

/-- Bits [39:0] that R39 and R45 require to be zero. -/
def reservedMask (op : Nat) : Nat :=
  match formatOfOp op with
  | some .n => 2 ^ 40 - 1
  | some .i => if op = 0x06 ∨ op = 0x70 then 0xFF * 2 ^ 32 else if op = 0x11 then 0xFFFF * 2 ^ 24 else 0
  | some .r => 2 ^ 36 - 1
  | some .t => if op = 0x03 then (2 ^ 18 - 1) * 2 ^ 18 else (2 ^ 22 - 1) * 2 ^ 18
  | some .m => 0xFFFF * 2 ^ 24
  | some .g => 0xFF * 2 ^ 32
  | some .o =>
    if op = 0x24 then 0xFFFFF0 else if op = 0x25 then 0xFFFFFE else if op = 0x27 then 0xFFFFE0
    else if op = 0x31 then 0xFFF800
    else if op = 0x20 ∨ op = 0x30 ∨ op = 0x40 ∨ op = 0x60 then 0 else 0xFFFFFF
  | none => 2 ^ 40 - 1

/-- The word is no ILLEGAL instruction (R39, R40, R45, R56). -/
def legal (w : Nat) : Bool :=
  let op := opOf w
  (formatOfOp op).isSome && flagsLegal w && Nat.land (bOf w) (reservedMask op) == 0
    && (usesD op || dOf w == 0) && (usesA w || aOf w == 0)

/-- The handle that a format O instruction names, given w[A] (R40, R91). -/
def namedHandle (w a : Nat) : Nat := if flagHR w && takesHR (opOf w) then a % 2 ^ 16 else handleOf w

/-- The instruction names a handle (R91). -/
def namesHandle (op : Nat) : Bool := formatOfOp op == some .o

/-- A polder number that exists (R53). -/
def polderExists (n : Nat) : Bool := decide (n ≤ 12) || (decide (16 ≤ n) && decide (n ≤ 39))

/-- The handle is one of its type, with its index in range (R52, R53). -/
def handleInRange (h : Nat) : Bool :=
  let i := h % 0x1000
  match h / 0x1000 with
  | 1 => decide (i < 2)
  | 2 => decide (i < 0xC00)
  | 3 => decide (i < 64)
  | 4 => i == 0
  | 5 => polderExists i
  | 6 => decide (i < 28)
  | 7 => decide (i < 2048)
  | 8 => decide (i < 192)
  | _ => false

/-- The handle types that an opcode accepts (R52). -/
def acceptsType (op ty : Nat) : Bool :=
  match op with
  | 0x20 => [1, 2, 3].contains ty
  | 0x21 | 0x22 => [1, 2].contains ty
  | 0x23 => [1, 2, 3].contains ty
  | 0x24 => [1, 2].contains ty
  | 0x25 => ty == 2
  | 0x26 | 0x81 => decide (1 ≤ ty ∧ ty ≤ 8)
  | 0x27 => ty == 6
  | 0x30 | 0x33 => ty == 7
  | 0x31 | 0x32 => ty == 2
  | 0x40 => ty == 4
  | 0x50 | 0x51 => ty == 8
  | 0x60 => ty == 5
  | _ => false

/-- The handle is acceptable to the opcode (R52): KEYIMP takes key slots from 8 up. -/
def handleOk (op h : Nat) : Bool :=
  acceptsType op (h / 0x1000) && handleInRange h && (op != 0x30 || decide (8 ≤ h % 0x1000))

/-- Two handles name a common object: direction 00 names both directions of its index (R91). -/
def sameObject (g h : Nat) : Bool :=
  g == h || (g / 0x1000 == 2 && h / 0x1000 == 2 && g % 0x400 == h % 0x400
    && (g / 0x400 % 4 == 0 || h / 0x400 % 4 == 0))

/-- The directional tributaries that a handle names, as (direction, index). -/
def tribsOfHandle (h : Nat) : List (Nat × Nat) :=
  let n := h % 0x400
  match h / 0x400 % 4 with
  | 0 => [(0, n), (1, n)]
  | 1 => [(0, n)]
  | _ => [(1, n)]

/-- Descriptor type that matches a handle type (R64). -/
def dtypeOf (ty : Nat) : Nat := ty

/-- The opcode copies a descriptor (R63) or a record (R194) from ARG. -/
def copiesWords (op : Nat) : Bool := op == 0x20 || op == 0x30 || op == 0x40 || op == 0x60

end Sys2Proof.Machine
end

