-- ==== Sys2Proof/Config.lean ====
section
/-! DEFINITION. What an implementation fixes, and the free values: constants without a body, so that no proof can see
what they are (guide, log entry 3). -/

namespace Sys2Proof.Config

/-- A part's spare columns beyond the four that R609 promises, before reduction. -/
opaque moreSpares : Nat → Nat
/-- What the checker makes of three or more flipped bits in a word (R419 states one and two). -/
opaque eccMany : Nat → Nat → Nat
/-- The order in which placement takes banks (R610 leaves it open): a rank for a bank at the nth placement. -/
opaque bankRank : Nat → Nat → Nat
/-- Whether the nth placement fills banks it already holds before it takes FREE ones (R610). -/
opaque fillFirst : Nat → Bool
/-- Words of the rate-adaptation buffers of a tributary, by direction and slots, and of the seal assembly buffer of a
transmit tributary, by slots: the spec gives no size. Each is below 48 banks of 65,536 words, which is as much as R27 gives
the lock chamber (log entry 32, DESIGN CHOICE). -/
opaque rateWords : Nat → Nat → Fin 3145728
opaque sealWords : Nat → Fin 3145728
/-- Firmware version and CRC (R534). -/
opaque firmware : Nat → Nat
/-- Blocks that the transmit and receive rate adaptation of an Ethernet tributary hold: the spec gives no size. -/
opaque txBlocks : Nat
opaque rxBlocks : Nat
/-- The SSPRQ pattern of IEEE 802.3, which the spec names and does not print, the place in it that a checker takes after the
last 16 symbols, and where each lane's pattern generator starts (R135, log entry 63). -/
opaque ssprq : Nat → Fin 4
opaque ssprqPlace : Nat → Nat
opaque prbsSeed : Nat → Nat
/-- The alignment-marker bits at the head of a lane's marker period, by format and logical lane (IEEE 802.3, log entry 8). -/
opaque alignMarker : Nat → Nat → Nat
/-- The samples that root-raised-cosine shaping and pre-compensation make of a polarisation's symbols, by ROLLOFF, TXCD, BAUD,
the number of the pilot block, its symbols after those of the block before, and the place of the sample; and the root mean
square of those samples by ROLLOFF and BAUD (R311, R312, log entry 87): the spec gives the filter's shape by its limits only. -/
opaque shaped : Nat → Int → Nat → Nat → List (Int × Int) → Nat → Int × Int
opaque shapedRms : Nat → Nat → Nat
/-- A converter's samples through the gain correction (in 1/256 of 0.01 dB, by converter) and the fractional delay (0.01 ps) of
R311 (log entry 87): the sample at a place. -/
opaque gained : Int → Nat → Int → Int
opaque delayed : Int → List Int → Nat → Int
/-- The LLRs that the soft inversion of R307 gives the bits of a matcher index, by k, the block's 64 components and the bit
(R329, log entry 88). -/
opaque matcherLlr : Nat → List Int → Nat → Int
/-- A free value of so many bits: the nth of the run. -/
opaque freeValue : Nat → Nat

end Sys2Proof.Config
end

