-- ==== Sys2Proof/Machine/Regs.lean ====
section
/-! DEFINITION. The address of every register and the place of every field, with the names of the spec. An
array of registers takes its index as an argument; TRB_T and CIP_T take the direction (0 transmit, 1 receive),
then the tributary; DS takes the carrier (0 A, 1 B). -/

namespace Sys2Proof.Machine.Reg

/-- The address of GLB_ID (00_scope). -/
def adr_GLB_ID : Nat := 0x0
def GLB_ID_PART : Fld := ⟨adr_GLB_ID, 16, 16, 0x4812⟩
def GLB_ID_REV : Fld := ⟨adr_GLB_ID, 8, 8, 0xb0⟩
def GLB_ID_GRADE : Fld := ⟨adr_GLB_ID, 0, 8, 0⟩

/-- The address of SLU_LOAD (02_ronjan_instruction_set). -/
def adr_SLU_LOAD : Nat := 0x80000
def SLU_LOAD_GO : Fld := ⟨adr_SLU_LOAD, 31, 1, 0⟩
def SLU_LOAD_BANK : Fld := ⟨adr_SLU_LOAD, 0, 2, 0⟩

/-- The address of SLU_LOAD_STATUS (02_ronjan_instruction_set). -/
def adr_SLU_LOAD_STATUS : Nat := 0x80004
def SLU_LOAD_STATUS_LAST_ERR : Fld := ⟨adr_SLU_LOAD_STATUS, 24, 8, 0⟩
def SLU_LOAD_STATUS_WPHIT : Fld := ⟨adr_SLU_LOAD_STATUS, 16, 4, 0⟩
def SLU_LOAD_STATUS_LOCKED : Fld := ⟨adr_SLU_LOAD_STATUS, 12, 4, 0⟩
def SLU_LOAD_STATUS_ERR : Fld := ⟨adr_SLU_LOAD_STATUS, 8, 4, 0⟩
def SLU_LOAD_STATUS_BUSY : Fld := ⟨adr_SLU_LOAD_STATUS, 4, 4, 0⟩
def SLU_LOAD_STATUS_VALID : Fld := ⟨adr_SLU_LOAD_STATUS, 0, 4, 0⟩

/-- The address of SLU_ENG_CTL (02_ronjan_instruction_set). -/
def adr_SLU_ENG_CTL (n : Nat) : Nat := 0x80100 + 0x10 * n
def SLU_ENG_CTL_KILL (n : Nat) : Fld := ⟨adr_SLU_ENG_CTL n, 4, 1, 0⟩
def SLU_ENG_CTL_STOP (n : Nat) : Fld := ⟨adr_SLU_ENG_CTL n, 3, 1, 0⟩
def SLU_ENG_CTL_START (n : Nat) : Fld := ⟨adr_SLU_ENG_CTL n, 2, 1, 0⟩
def SLU_ENG_CTL_BANK (n : Nat) : Fld := ⟨adr_SLU_ENG_CTL n, 0, 2, 0⟩

/-- The address of SLU_ENG_STATUS (02_ronjan_instruction_set). -/
def adr_SLU_ENG_STATUS (n : Nat) : Nat := 0x80104 + 0x10 * n
def SLU_ENG_STATUS_PC (n : Nat) : Fld := ⟨adr_SLU_ENG_STATUS n, 14, 18, 0⟩
def SLU_ENG_STATUS_INFLIGHT (n : Nat) : Fld := ⟨adr_SLU_ENG_STATUS n, 4, 7, 0⟩
def SLU_ENG_STATUS_STATE (n : Nat) : Fld := ⟨adr_SLU_ENG_STATUS n, 0, 3, 1⟩

/-- The address of GLB_FENCE (03_execution_ordering_faults). -/
def adr_GLB_FENCE : Nat := 0x20
def GLB_FENCE_PEND : Fld := ⟨adr_GLB_FENCE, 1, 1, 0⟩
def GLB_FENCE_SYNC : Fld := ⟨adr_GLB_FENCE, 0, 1, 0⟩

/-- The address of SLU_ENG_FLT0 (03_execution_ordering_faults). -/
def adr_SLU_ENG_FLT0 (n : Nat) : Nat := 0x80200 + 0x20 * n
def SLU_ENG_FLT0_VALID (n : Nat) : Fld := ⟨adr_SLU_ENG_FLT0 n, 31, 1, 0⟩
def SLU_ENG_FLT0_MULTI (n : Nat) : Fld := ⟨adr_SLU_ENG_FLT0 n, 30, 1, 0⟩
def SLU_ENG_FLT0_FCODE (n : Nat) : Fld := ⟨adr_SLU_ENG_FLT0 n, 18, 8, 0⟩
def SLU_ENG_FLT0_FPC (n : Nat) : Fld := ⟨adr_SLU_ENG_FLT0 n, 0, 18, 0⟩

/-- The address of SLU_ENG_FLT1 (03_execution_ordering_faults). -/
def adr_SLU_ENG_FLT1 (n : Nat) : Nat := 0x80204 + 0x20 * n
def SLU_ENG_FLT1_REASON (n : Nat) : Fld := ⟨adr_SLU_ENG_FLT1 n, 16, 16, 0⟩
def SLU_ENG_FLT1_HANDLE (n : Nat) : Fld := ⟨adr_SLU_ENG_FLT1 n, 0, 16, 0⟩

/-- The address of SLU_ENG_MASKLO (03_execution_ordering_faults). -/
def adr_SLU_ENG_MASKLO (n : Nat) : Nat := 0x80208 + 0x20 * n
def SLU_ENG_MASKLO_MASK (n : Nat) : Fld := ⟨adr_SLU_ENG_MASKLO n, 0, 32, 0⟩

/-- The address of SLU_ENG_MASKHI (03_execution_ordering_faults). -/
def adr_SLU_ENG_MASKHI (n : Nat) : Nat := 0x8020c + 0x20 * n
def SLU_ENG_MASKHI_MASK (n : Nat) : Fld := ⟨adr_SLU_ENG_MASKHI n, 0, 32, 0⟩

/-- The address of SLU_ENG_RESUME (03_execution_ordering_faults). -/
def adr_SLU_ENG_RESUME (n : Nat) : Nat := 0x80108 + 0x10 * n
def SLU_ENG_RESUME_SKIP (n : Nat) : Fld := ⟨adr_SLU_ENG_RESUME n, 0, 1, 0⟩

/-- The address of MGT_LOAD (03_execution_ordering_faults). -/
def adr_MGT_LOAD : Nat := 0x90010
def MGT_LOAD_Q0 : Fld := ⟨adr_MGT_LOAD, 24, 8, 0⟩
def MGT_LOAD_Q1 : Fld := ⟨adr_MGT_LOAD, 16, 8, 0⟩
def MGT_LOAD_Q2 : Fld := ⟨adr_MGT_LOAD, 12, 4, 0⟩
def MGT_LOAD_Q3 : Fld := ⟨adr_MGT_LOAD, 8, 4, 0⟩
def MGT_LOAD_UTIL : Fld := ⟨adr_MGT_LOAD, 0, 8, 0⟩

/-- The address of MGT_INCOMPLETE (03_execution_ordering_faults). -/
def adr_MGT_INCOMPLETE : Nat := 0x90014
def MGT_INCOMPLETE_COUNT : Fld := ⟨adr_MGT_INCOMPLETE, 0, 32, 0⟩

/-- The address of HLN_LANE_CTL (04_host_lanes). -/
def adr_HLN_LANE_CTL (n : Nat) : Nat := 0x100000 + 0x40 * n
def HLN_LANE_CTL_RESTART (n : Nat) : Fld := ⟨adr_HLN_LANE_CTL n, 5, 1, 0⟩
def HLN_LANE_CTL_FREEZE (n : Nat) : Fld := ⟨adr_HLN_LANE_CTL n, 4, 1, 0⟩
def HLN_LANE_CTL_TXINV (n : Nat) : Fld := ⟨adr_HLN_LANE_CTL n, 3, 1, 0⟩
def HLN_LANE_CTL_RXINV (n : Nat) : Fld := ⟨adr_HLN_LANE_CTL n, 2, 1, 0⟩
def HLN_LANE_CTL_TXPRE (n : Nat) : Fld := ⟨adr_HLN_LANE_CTL n, 1, 1, 0⟩
def HLN_LANE_CTL_RXPRE (n : Nat) : Fld := ⟨adr_HLN_LANE_CTL n, 0, 1, 0⟩

/-- The address of HLN_LANE_STATUS (04_host_lanes). -/
def adr_HLN_LANE_STATUS (n : Nat) : Nat := 0x100004 + 0x40 * n
def HLN_LANE_STATUS_SNR (n : Nat) : Fld := ⟨adr_HLN_LANE_STATUS n, 24, 8, 0⟩
def HLN_LANE_STATUS_GRP (n : Nat) : Fld := ⟨adr_HLN_LANE_STATUS n, 16, 5, 0⟩
def HLN_LANE_STATUS_PRBSSYNC (n : Nat) : Fld := ⟨adr_HLN_LANE_STATUS n, 7, 1, 0⟩
def HLN_LANE_STATUS_INGROUP (n : Nat) : Fld := ⟨adr_HLN_LANE_STATUS n, 6, 1, 0⟩
def HLN_LANE_STATUS_CDRLOCK (n : Nat) : Fld := ⟨adr_HLN_LANE_STATUS n, 5, 1, 0⟩
def HLN_LANE_STATUS_SIGDET (n : Nat) : Fld := ⟨adr_HLN_LANE_STATUS n, 4, 1, 0⟩
def HLN_LANE_STATUS_STATE (n : Nat) : Fld := ⟨adr_HLN_LANE_STATUS n, 0, 3, 0⟩

/-- The address of HLN_LANE_EVENT (04_host_lanes). -/
def adr_HLN_LANE_EVENT (n : Nat) : Nat := 0x100008 + 0x40 * n
def HLN_LANE_EVENT_PRBSDENY (n : Nat) : Fld := ⟨adr_HLN_LANE_EVENT n, 4, 1, 0⟩
def HLN_LANE_EVENT_PRBSLOSS (n : Nat) : Fld := ⟨adr_HLN_LANE_EVENT n, 3, 1, 0⟩
def HLN_LANE_EVENT_RESTARTED (n : Nat) : Fld := ⟨adr_HLN_LANE_EVENT n, 2, 1, 0⟩
def HLN_LANE_EVENT_LOSTSIG (n : Nat) : Fld := ⟨adr_HLN_LANE_EVENT n, 1, 1, 0⟩
def HLN_LANE_EVENT_LOSTLOCK (n : Nat) : Fld := ⟨adr_HLN_LANE_EVENT n, 0, 1, 0⟩

/-- The address of HLN_LANE_ADAPT0 (04_host_lanes). -/
def adr_HLN_LANE_ADAPT0 (n : Nat) : Nat := 0x10000c + 0x40 * n
def HLN_LANE_ADAPT0_CTLE (n : Nat) : Fld := ⟨adr_HLN_LANE_ADAPT0 n, 16, 5, 0xc⟩
def HLN_LANE_ADAPT0_FFEPRE (n : Nat) : Fld := ⟨adr_HLN_LANE_ADAPT0 n, 8, 8, 0⟩
def HLN_LANE_ADAPT0_FFEPOST (n : Nat) : Fld := ⟨adr_HLN_LANE_ADAPT0 n, 0, 8, 0⟩

/-- The address of HLN_LANE_ADAPT1 (04_host_lanes). -/
def adr_HLN_LANE_ADAPT1 (n : Nat) : Nat := 0x100010 + 0x40 * n
def HLN_LANE_ADAPT1_DFE (n : Nat) : Fld := ⟨adr_HLN_LANE_ADAPT1 n, 0, 30, 0⟩

/-- The address of HLN_LANE_TXEQ (04_host_lanes). -/
def adr_HLN_LANE_TXEQ (n : Nat) : Nat := 0x100014 + 0x40 * n
def HLN_LANE_TXEQ_PRE (n : Nat) : Fld := ⟨adr_HLN_LANE_TXEQ n, 8, 8, 5⟩
def HLN_LANE_TXEQ_POST (n : Nat) : Fld := ⟨adr_HLN_LANE_TXEQ n, 0, 8, 0xa⟩

/-- The address of HLN_LANE_PRBS (04_host_lanes). -/
def adr_HLN_LANE_PRBS (n : Nat) : Nat := 0x100018 + 0x40 * n
def HLN_LANE_PRBS_CLR (n : Nat) : Fld := ⟨adr_HLN_LANE_PRBS n, 31, 1, 0⟩
def HLN_LANE_PRBS_SAT (n : Nat) : Fld := ⟨adr_HLN_LANE_PRBS n, 30, 1, 0⟩
def HLN_LANE_PRBS_CHKPAT (n : Nat) : Fld := ⟨adr_HLN_LANE_PRBS n, 8, 3, 0⟩
def HLN_LANE_PRBS_CHKEN (n : Nat) : Fld := ⟨adr_HLN_LANE_PRBS n, 7, 1, 0⟩
def HLN_LANE_PRBS_GENPAT (n : Nat) : Fld := ⟨adr_HLN_LANE_PRBS n, 4, 3, 0⟩
def HLN_LANE_PRBS_GENEN (n : Nat) : Fld := ⟨adr_HLN_LANE_PRBS n, 3, 1, 0⟩

/-- The address of HLN_LANE_ERRLO (04_host_lanes). -/
def adr_HLN_LANE_ERRLO (n : Nat) : Nat := 0x10001c + 0x40 * n
def HLN_LANE_ERRLO_COUNT (n : Nat) : Fld := ⟨adr_HLN_LANE_ERRLO n, 0, 32, 0⟩

/-- The address of HLN_LANE_ERRHI (04_host_lanes). -/
def adr_HLN_LANE_ERRHI (n : Nat) : Nat := 0x100020 + 0x40 * n
def HLN_LANE_ERRHI_COUNT (n : Nat) : Fld := ⟨adr_HLN_LANE_ERRHI n, 0, 16, 0⟩

/-- The address of HLN_LANE_BITLO (04_host_lanes). -/
def adr_HLN_LANE_BITLO (n : Nat) : Nat := 0x100024 + 0x40 * n
def HLN_LANE_BITLO_COUNT (n : Nat) : Fld := ⟨adr_HLN_LANE_BITLO n, 0, 32, 0⟩

/-- The address of HLN_LANE_BITHI (04_host_lanes). -/
def adr_HLN_LANE_BITHI (n : Nat) : Nat := 0x100028 + 0x40 * n
def HLN_LANE_BITHI_COUNT (n : Nat) : Fld := ⟨adr_HLN_LANE_BITHI n, 0, 16, 0⟩

/-- The address of HLN_GRP_STATUS (04_host_lanes). -/
def adr_HLN_GRP_STATUS (n : Nat) : Nat := 0x101000 + 0x20 * n
def HLN_GRP_STATUS_HLANE0 (n : Nat) : Fld := ⟨adr_HLN_GRP_STATUS n, 27, 5, 0⟩
def HLN_GRP_STATUS_HLANES (n : Nat) : Fld := ⟨adr_HLN_GRP_STATUS n, 23, 4, 0⟩
def HLN_GRP_STATUS_FORMAT (n : Nat) : Fld := ⟨adr_HLN_GRP_STATUS n, 20, 3, 7⟩
def HLN_GRP_STATUS_STATE (n : Nat) : Fld := ⟨adr_HLN_GRP_STATUS n, 0, 2, 0⟩

/-- The address of HLN_GRP_SKEW (04_host_lanes). -/
def adr_HLN_GRP_SKEW (n : Nat) : Nat := 0x101004 + 0x20 * n
def HLN_GRP_SKEW_SKEWERR (n : Nat) : Fld := ⟨adr_HLN_GRP_SKEW n, 16, 1, 0⟩
def HLN_GRP_SKEW_SKEW (n : Nat) : Fld := ⟨adr_HLN_GRP_SKEW n, 0, 16, 0⟩

/-- The address of HLN_GRP_EVENT (04_host_lanes). -/
def adr_HLN_GRP_EVENT (n : Nat) : Nat := 0x101008 + 0x20 * n
def HLN_GRP_EVENT_UNCORR (n : Nat) : Fld := ⟨adr_HLN_GRP_EVENT n, 1, 1, 0⟩
def HLN_GRP_EVENT_FAIL (n : Nat) : Fld := ⟨adr_HLN_GRP_EVENT n, 0, 1, 0⟩

/-- The address of HLN_LOCKMAP (04_host_lanes). -/
def adr_HLN_LOCKMAP : Nat := 0x102000
def HLN_LOCKMAP_LOCKED : Fld := ⟨adr_HLN_LOCKMAP, 0, 28, 0⟩

/-- The address of HLN_THRESH (04_host_lanes). -/
def adr_HLN_THRESH : Nat := 0x102004
def HLN_THRESH_LOCK_SNR : Fld := ⟨adr_HLN_THRESH, 8, 8, 0x48⟩
def HLN_THRESH_UNLOCK_SNR : Fld := ⟨adr_HLN_THRESH, 0, 8, 0x3c⟩

/-- The address of TRB_T_PLACE (05_tributaries_and_slots). -/
def adr_TRB_T_PLACE (c n : Nat) : Nat := 0x140000 + 0x8000 * c + 0x20 * n
def TRB_T_PLACE_PLACED (c n : Nat) : Fld := ⟨adr_TRB_T_PLACE c n, 31, 1, 0⟩
def TRB_T_PLACE_SPREAD (c n : Nat) : Fld := ⟨adr_TRB_T_PLACE c n, 30, 1, 0⟩
def TRB_T_PLACE_PINNED (c n : Nat) : Fld := ⟨adr_TRB_T_PLACE c n, 29, 1, 0⟩
def TRB_T_PLACE_BOTH (c n : Nat) : Fld := ⟨adr_TRB_T_PLACE c n, 28, 1, 0⟩
def TRB_T_PLACE_CARR (c n : Nat) : Fld := ⟨adr_TRB_T_PLACE c n, 27, 1, 0⟩
def TRB_T_PLACE_SLOTS (c n : Nat) : Fld := ⟨adr_TRB_T_PLACE c n, 0, 15, 0⟩

/-- The address of TRB_T_RUNS (05_tributaries_and_slots). -/
def adr_TRB_T_RUNS (c n : Nat) : Nat := 0x140004 + 0x8000 * c + 0x20 * n
def TRB_T_RUNS_RUNS (c n : Nat) : Fld := ⟨adr_TRB_T_RUNS c n, 16, 16, 0⟩
def TRB_T_RUNS_FIRST (c n : Nat) : Fld := ⟨adr_TRB_T_RUNS c n, 0, 15, 0⟩

/-- The address of TRB_T_RATE (05_tributaries_and_slots). -/
def adr_TRB_T_RATE (c n : Nat) : Nat := 0x140008 + 0x8000 * c + 0x20 * n
def TRB_T_RATE_PAYLOAD (c n : Nat) : Fld := ⟨adr_TRB_T_RATE c n, 0, 32, 0⟩

/-- The address of TRB_T_EVENT (05_tributaries_and_slots). -/
def adr_TRB_T_EVENT (c n : Nat) : Nat := 0x14000c + 0x8000 * c + 0x20 * n
def TRB_T_EVENT_MAPSIZE (c n : Nat) : Fld := ⟨adr_TRB_T_EVENT c n, 4, 1, 0⟩
def TRB_T_EVENT_MOVED (c n : Nat) : Fld := ⟨adr_TRB_T_EVENT c n, 3, 1, 0⟩
def TRB_T_EVENT_UNDERRUN (c n : Nat) : Fld := ⟨adr_TRB_T_EVENT c n, 2, 1, 0⟩
def TRB_T_EVENT_OVERRUN (c n : Nat) : Fld := ⟨adr_TRB_T_EVENT c n, 1, 1, 0⟩
def TRB_T_EVENT_NOMAP (c n : Nat) : Fld := ⟨adr_TRB_T_EVENT c n, 0, 1, 0⟩

/-- The address of TRB_T_INS (05_tributaries_and_slots). -/
def adr_TRB_T_INS (c n : Nat) : Nat := 0x140010 + 0x8000 * c + 0x20 * n
def TRB_T_INS_COUNT (c n : Nat) : Fld := ⟨adr_TRB_T_INS c n, 0, 32, 0⟩

/-- The address of TRB_T_DEL (05_tributaries_and_slots). -/
def adr_TRB_T_DEL (c n : Nat) : Nat := 0x140014 + 0x8000 * c + 0x20 * n
def TRB_T_DEL_COUNT (c n : Nat) : Fld := ⟨adr_TRB_T_DEL c n, 0, 32, 0⟩

/-- The address of TRB_CMSEL (05_tributaries_and_slots). -/
def adr_TRB_CMSEL : Nat := 0x160000
def TRB_CMSEL_PAGE : Fld := ⟨adr_TRB_CMSEL, 31, 1, 0⟩
def TRB_CMSEL_DIR : Fld := ⟨adr_TRB_CMSEL, 30, 1, 0⟩
def TRB_CMSEL_CARR : Fld := ⟨adr_TRB_CMSEL, 29, 1, 0⟩
def TRB_CMSEL_SLOT : Fld := ⟨adr_TRB_CMSEL, 0, 15, 0⟩

/-- The address of TRB_CMDATA (05_tributaries_and_slots). -/
def adr_TRB_CMDATA : Nat := 0x160004
def TRB_CMDATA_ENTRY : Fld := ⟨adr_TRB_CMDATA, 0, 32, 0⟩

/-- The address of TRB_PG (05_tributaries_and_slots). -/
def adr_TRB_PG (n : Nat) : Nat := 0x160010 + 0x4 * n
def TRB_PG_GEN (n : Nat) : Fld := ⟨adr_TRB_PG n, 16, 16, 0⟩
def TRB_PG_PEND (n : Nat) : Fld := ⟨adr_TRB_PG n, 15, 1, 0⟩
def TRB_PG_FREE (n : Nat) : Fld := ⟨adr_TRB_PG n, 0, 15, 0⟩

/-- The address of TRB_MAPERR (05_tributaries_and_slots). -/
def adr_TRB_MAPERR : Nat := 0x160020
def TRB_MAPERR_CARB : Fld := ⟨adr_TRB_MAPERR, 16, 16, 0⟩
def TRB_MAPERR_CARA : Fld := ⟨adr_TRB_MAPERR, 0, 16, 0⟩

/-- The address of TRB_DEFRAG (05_tributaries_and_slots). -/
def adr_TRB_DEFRAG : Nat := 0x160030
def TRB_DEFRAG_EN : Fld := ⟨adr_TRB_DEFRAG, 31, 1, 1⟩
def TRB_DEFRAG_THRESH : Fld := ⟨adr_TRB_DEFRAG, 16, 7, 0x32⟩
def TRB_DEFRAG_MOVES : Fld := ⟨adr_TRB_DEFRAG, 0, 16, 0⟩

/-- The address of TRB_BADCELL (05_tributaries_and_slots). -/
def adr_TRB_BADCELL : Nat := 0x160040
def TRB_BADCELL_COUNT : Fld := ⟨adr_TRB_BADCELL, 0, 32, 0⟩

/-- The address of CIP_T_KEY (06_encryption_and_lock_chamber). -/
def adr_CIP_T_KEY (c n : Nat) : Nat := 0x180000 + 0x8000 * c + 0x20 * n
def CIP_T_KEY_STV (c n : Nat) : Fld := ⟨adr_CIP_T_KEY c n, 31, 1, 0⟩
def CIP_T_KEY_STAGED (c n : Nat) : Fld := ⟨adr_CIP_T_KEY c n, 20, 11, 0⟩
def CIP_T_KEY_KPH (c n : Nat) : Fld := ⟨adr_CIP_T_KEY c n, 19, 1, 0⟩
def CIP_T_KEY_PEND (c n : Nat) : Fld := ⟨adr_CIP_T_KEY c n, 18, 1, 0⟩
def CIP_T_KEY_STOPPED (c n : Nat) : Fld := ⟨adr_CIP_T_KEY c n, 17, 1, 0⟩
def CIP_T_KEY_CURRENT (c n : Nat) : Fld := ⟨adr_CIP_T_KEY c n, 0, 11, 0⟩

/-- The address of CIP_T_SEAL (06_encryption_and_lock_chamber). -/
def adr_CIP_T_SEAL (c n : Nat) : Nat := 0x180004 + 0x8000 * c + 0x20 * n
def CIP_T_SEAL_RXSTATE (c n : Nat) : Fld := ⟨adr_CIP_T_SEAL c n, 30, 2, 0⟩
def CIP_T_SEAL_EARLY (c n : Nat) : Fld := ⟨adr_CIP_T_SEAL c n, 29, 1, 0⟩
def CIP_T_SEAL_UNITS (c n : Nat) : Fld := ⟨adr_CIP_T_SEAL c n, 0, 19, 0⟩

/-- The address of CIP_T_CTRLO (06_encryption_and_lock_chamber). -/
def adr_CIP_T_CTRLO (c n : Nat) : Nat := 0x180008 + 0x8000 * c + 0x20 * n
def CIP_T_CTRLO_CTR (c n : Nat) : Fld := ⟨adr_CIP_T_CTRLO c n, 0, 32, 0⟩

/-- The address of CIP_T_CTRHI (06_encryption_and_lock_chamber). -/
def adr_CIP_T_CTRHI (c n : Nat) : Nat := 0x18000c + 0x8000 * c + 0x20 * n
def CIP_T_CTRHI_CTR (c n : Nat) : Fld := ⟨adr_CIP_T_CTRHI c n, 0, 24, 0⟩

/-- The address of CIP_T_OK (06_encryption_and_lock_chamber). -/
def adr_CIP_T_OK (c n : Nat) : Nat := 0x180010 + 0x8000 * c + 0x20 * n
def CIP_T_OK_COUNT (c n : Nat) : Fld := ⟨adr_CIP_T_OK c n, 0, 32, 0⟩

/-- The address of CIP_T_FAIL (06_encryption_and_lock_chamber). -/
def adr_CIP_T_FAIL (c n : Nat) : Nat := 0x180014 + 0x8000 * c + 0x20 * n
def CIP_T_FAIL_COUNT (c n : Nat) : Fld := ⟨adr_CIP_T_FAIL c n, 0, 32, 0⟩

/-- The address of CIP_T_EVENT (06_encryption_and_lock_chamber). -/
def adr_CIP_T_EVENT (c n : Nat) : Nat := 0x180018 + 0x8000 * c + 0x20 * n
def CIP_T_EVENT_STOPPED (c n : Nat) : Fld := ⟨adr_CIP_T_EVENT c n, 7, 1, 0⟩
def CIP_T_EVENT_ROLLED (c n : Nat) : Fld := ⟨adr_CIP_T_EVENT c n, 6, 1, 0⟩
def CIP_T_EVENT_WARN (c n : Nat) : Fld := ⟨adr_CIP_T_EVENT c n, 5, 1, 0⟩
def CIP_T_EVENT_NOKEY (c n : Nat) : Fld := ⟨adr_CIP_T_EVENT c n, 4, 1, 0⟩
def CIP_T_EVENT_RESYNC (c n : Nat) : Fld := ⟨adr_CIP_T_EVENT c n, 3, 1, 0⟩
def CIP_T_EVENT_STALE (c n : Nat) : Fld := ⟨adr_CIP_T_EVENT c n, 2, 1, 0⟩
def CIP_T_EVENT_EARLYCUT (c n : Nat) : Fld := ⟨adr_CIP_T_EVENT c n, 1, 1, 0⟩
def CIP_T_EVENT_FAIL (c n : Nat) : Fld := ⟨adr_CIP_T_EVENT c n, 0, 1, 0⟩

/-- The address of CIP_T_LAST (06_encryption_and_lock_chamber). -/
def adr_CIP_T_LAST (c n : Nat) : Nat := 0x18001c + 0x8000 * c + 0x20 * n
def CIP_T_LAST_CAUSE (c n : Nat) : Fld := ⟨adr_CIP_T_LAST c n, 28, 4, 0⟩
def CIP_T_LAST_EPOCH (c n : Nat) : Fld := ⟨adr_CIP_T_LAST c n, 0, 24, 0⟩

/-- The address of CIP_LCS (06_encryption_and_lock_chamber). -/
def adr_CIP_LCS : Nat := 0x190000
def CIP_LCS_CONFIRM : Fld := ⟨adr_CIP_LCS, 16, 16, 0⟩
def CIP_LCS_REQ : Fld := ⟨adr_CIP_LCS, 12, 4, 0⟩
def CIP_LCS_BUSY : Fld := ⟨adr_CIP_LCS, 11, 1, 0⟩
def CIP_LCS_RESULT : Fld := ⟨adr_CIP_LCS, 8, 3, 0⟩
def CIP_LCS_STATE : Fld := ⟨adr_CIP_LCS, 0, 2, 0⟩

/-- The address of CIP_EPOCH (06_encryption_and_lock_chamber). -/
def adr_CIP_EPOCH : Nat := 0x190004
def CIP_EPOCH_EXHAUSTED : Fld := ⟨adr_CIP_EPOCH, 31, 1, 0⟩
def CIP_EPOCH_LAST : Fld := ⟨adr_CIP_EPOCH, 30, 1, 0⟩
def CIP_EPOCH_EPOCH : Fld := ⟨adr_CIP_EPOCH, 0, 24, 0⟩

/-- The address of CIP_TAMPER (06_encryption_and_lock_chamber). -/
def adr_CIP_TAMPER : Nat := 0x190008
def CIP_TAMPER_COUNT : Fld := ⟨adr_CIP_TAMPER, 16, 16, 0⟩
def CIP_TAMPER_CPEND : Fld := ⟨adr_CIP_TAMPER, 5, 1, 0⟩
def CIP_TAMPER_WIPED : Fld := ⟨adr_CIP_TAMPER, 4, 1, 0⟩
def CIP_TAMPER_TGLITCH : Fld := ⟨adr_CIP_TAMPER, 3, 1, 0⟩
def CIP_TAMPER_CGLITCH : Fld := ⟨adr_CIP_TAMPER, 2, 1, 0⟩
def CIP_TAMPER_VGLITCH : Fld := ⟨adr_CIP_TAMPER, 1, 1, 0⟩
def CIP_TAMPER_PIN : Fld := ⟨adr_CIP_TAMPER, 0, 1, 0⟩

/-- The address of CIP_KSSEL (06_encryption_and_lock_chamber). -/
def adr_CIP_KSSEL : Nat := 0x190010
def CIP_KSSEL_SLOT : Fld := ⟨adr_CIP_KSSEL, 0, 11, 0⟩

/-- The address of CIP_KSINFO (06_encryption_and_lock_chamber). -/
def adr_CIP_KSINFO : Nat := 0x190014
def CIP_KSINFO_STATE : Fld := ⟨adr_CIP_KSINFO, 30, 2, 0⟩
def CIP_KSINFO_ROLE : Fld := ⟨adr_CIP_KSINFO, 29, 1, 0⟩
def CIP_KSINFO_KEK : Fld := ⟨adr_CIP_KSINFO, 28, 1, 0⟩
def CIP_KSINFO_WARN : Fld := ⟨adr_CIP_KSINFO, 27, 1, 0⟩
def CIP_KSINFO_SPENT : Fld := ⟨adr_CIP_KSINFO, 26, 1, 0⟩

/-- The address of CIP_KSID (06_encryption_and_lock_chamber). -/
def adr_CIP_KSID : Nat := 0x190018
def CIP_KSID_KEYID : Fld := ⟨adr_CIP_KSID, 0, 32, 0⟩

/-- The address of CIP_KSCNTLO (06_encryption_and_lock_chamber). -/
def adr_CIP_KSCNTLO : Nat := 0x19001c
def CIP_KSCNTLO_COUNT : Fld := ⟨adr_CIP_KSCNTLO, 0, 32, 0⟩

/-- The address of CIP_KSCNTHI (06_encryption_and_lock_chamber). -/
def adr_CIP_KSCNTHI : Nat := 0x190020
def CIP_KSCNTHI_COUNT : Fld := ⟨adr_CIP_KSCNTHI, 0, 9, 0⟩

/-- The address of CIP_KEKBUF (06_encryption_and_lock_chamber). -/
def adr_CIP_KEKBUF (n : Nat) : Nat := 0x190040 + 0x4 * n
def CIP_KEKBUF_DATA (n : Nat) : Fld := ⟨adr_CIP_KEKBUF n, 0, 32, 0⟩

/-- The address of CIP_KEKCTL (06_encryption_and_lock_chamber). -/
def adr_CIP_KEKCTL : Nat := 0x190080
def CIP_KEKCTL_GO : Fld := ⟨adr_CIP_KEKCTL, 31, 1, 0⟩
def CIP_KEKCTL_PLAIN : Fld := ⟨adr_CIP_KEKCTL, 30, 1, 0⟩
def CIP_KEKCTL_WRAP : Fld := ⟨adr_CIP_KEKCTL, 4, 3, 0⟩
def CIP_KEKCTL_TARGET : Fld := ⟨adr_CIP_KEKCTL, 0, 3, 0⟩

/-- The address of CIP_KEKSTAT (06_encryption_and_lock_chamber). -/
def adr_CIP_KEKSTAT : Nat := 0x190084
def CIP_KEKSTAT_BUSY : Fld := ⟨adr_CIP_KEKSTAT, 31, 1, 0⟩
def CIP_KEKSTAT_RESULT : Fld := ⟨adr_CIP_KEKSTAT, 0, 8, 0⟩

/-- The address of FRM_C_STATUS (07_line_framing). -/
def adr_FRM_C_STATUS (n : Nat) : Nat := 0x1c0000 + 0x100 * n
def FRM_C_STATUS_SF (n : Nat) : Fld := ⟨adr_FRM_C_STATUS n, 31, 1, 1⟩
def FRM_C_STATUS_SD (n : Nat) : Fld := ⟨adr_FRM_C_STATUS n, 30, 1, 0⟩
def FRM_C_STATUS_DAPSM (n : Nat) : Fld := ⟨adr_FRM_C_STATUS n, 10, 1, 0⟩
def FRM_C_STATUS_DSIM (n : Nat) : Fld := ⟨adr_FRM_C_STATUS n, 9, 1, 0⟩
def FRM_C_STATUS_DDEG (n : Nat) : Fld := ⟨adr_FRM_C_STATUS n, 8, 1, 0⟩
def FRM_C_STATUS_FECSD (n : Nat) : Fld := ⟨adr_FRM_C_STATUS n, 7, 1, 0⟩
def FRM_C_STATUS_FECSF (n : Nat) : Fld := ⟨adr_FRM_C_STATUS n, 6, 1, 0⟩
def FRM_C_STATUS_DLOM (n : Nat) : Fld := ⟨adr_FRM_C_STATUS n, 5, 1, 0⟩
def FRM_C_STATUS_DLOF (n : Nat) : Fld := ⟨adr_FRM_C_STATUS n, 4, 1, 0⟩
def FRM_C_STATUS_DLOL (n : Nat) : Fld := ⟨adr_FRM_C_STATUS n, 3, 1, 0⟩
def FRM_C_STATUS_RBDI (n : Nat) : Fld := ⟨adr_FRM_C_STATUS n, 2, 1, 0⟩
def FRM_C_STATUS_UNAVF (n : Nat) : Fld := ⟨adr_FRM_C_STATUS n, 1, 1, 0⟩
def FRM_C_STATUS_UNAV (n : Nat) : Fld := ⟨adr_FRM_C_STATUS n, 0, 1, 0⟩

/-- The address of FRM_C_EVENT (07_line_framing). -/
def adr_FRM_C_EVENT (n : Nat) : Nat := 0x1c0004 + 0x100 * n
def FRM_C_EVENT_DAPSM (n : Nat) : Fld := ⟨adr_FRM_C_EVENT n, 10, 1, 0⟩
def FRM_C_EVENT_DSIM (n : Nat) : Fld := ⟨adr_FRM_C_EVENT n, 9, 1, 0⟩
def FRM_C_EVENT_DDEG (n : Nat) : Fld := ⟨adr_FRM_C_EVENT n, 8, 1, 0⟩
def FRM_C_EVENT_FECSD (n : Nat) : Fld := ⟨adr_FRM_C_EVENT n, 7, 1, 0⟩
def FRM_C_EVENT_FECSF (n : Nat) : Fld := ⟨adr_FRM_C_EVENT n, 6, 1, 0⟩
def FRM_C_EVENT_DLOM (n : Nat) : Fld := ⟨adr_FRM_C_EVENT n, 5, 1, 0⟩
def FRM_C_EVENT_DLOF (n : Nat) : Fld := ⟨adr_FRM_C_EVENT n, 4, 1, 0⟩
def FRM_C_EVENT_DLOL (n : Nat) : Fld := ⟨adr_FRM_C_EVENT n, 3, 1, 0⟩
def FRM_C_EVENT_RBDI (n : Nat) : Fld := ⟨adr_FRM_C_EVENT n, 2, 1, 0⟩
def FRM_C_EVENT_UNAVF (n : Nat) : Fld := ⟨adr_FRM_C_EVENT n, 1, 1, 0⟩
def FRM_C_EVENT_UNAV (n : Nat) : Fld := ⟨adr_FRM_C_EVENT n, 0, 1, 0⟩

/-- The address of FRM_C_ALIGN (07_line_framing). -/
def adr_FRM_C_ALIGN (n : Nat) : Nat := 0x1c0008 + 0x100 * n
def FRM_C_ALIGN_SYNC (n : Nat) : Fld := ⟨adr_FRM_C_ALIGN n, 31, 1, 0⟩
def FRM_C_ALIGN_MISS (n : Nat) : Fld := ⟨adr_FRM_C_ALIGN n, 28, 3, 0⟩
def FRM_C_ALIGN_HELD (n : Nat) : Fld := ⟨adr_FRM_C_ALIGN n, 24, 4, 0⟩
def FRM_C_ALIGN_FLEN (n : Nat) : Fld := ⟨adr_FRM_C_ALIGN n, 0, 19, 0⟩

/-- The address of FRM_C_CANDS (07_line_framing). -/
def adr_FRM_C_CANDS (n : Nat) : Nat := 0x1c000c + 0x100 * n
def FRM_C_CANDS_COUNT (n : Nat) : Fld := ⟨adr_FRM_C_CANDS n, 0, 32, 0⟩

/-- The address of FRM_C_OCORR (07_line_framing). -/
def adr_FRM_C_OCORR (n : Nat) : Nat := 0x1c0018 + 0x100 * n
def FRM_C_OCORR_COUNT (n : Nat) : Fld := ⟨adr_FRM_C_OCORR n, 0, 32, 0⟩

/-- The address of FRM_C_OUNC (07_line_framing). -/
def adr_FRM_C_OUNC (n : Nat) : Nat := 0x1c001c + 0x100 * n
def FRM_C_OUNC_COUNT (n : Nat) : Fld := ⟨adr_FRM_C_OUNC n, 0, 32, 0⟩

/-- The address of FRM_C_ES (07_line_framing). -/
def adr_FRM_C_ES (n : Nat) : Nat := 0x1c0020 + 0x100 * n
def FRM_C_ES_COUNT (n : Nat) : Fld := ⟨adr_FRM_C_ES n, 0, 32, 0⟩

/-- The address of FRM_C_SES (07_line_framing). -/
def adr_FRM_C_SES (n : Nat) : Nat := 0x1c0024 + 0x100 * n
def FRM_C_SES_COUNT (n : Nat) : Fld := ⟨adr_FRM_C_SES n, 0, 32, 0⟩

/-- The address of FRM_C_UAS (07_line_framing). -/
def adr_FRM_C_UAS (n : Nat) : Nat := 0x1c0028 + 0x100 * n
def FRM_C_UAS_COUNT (n : Nat) : Fld := ⟨adr_FRM_C_UAS n, 0, 32, 0⟩

/-- The address of FRM_C_FES (07_line_framing). -/
def adr_FRM_C_FES (n : Nat) : Nat := 0x1c002c + 0x100 * n
def FRM_C_FES_COUNT (n : Nat) : Fld := ⟨adr_FRM_C_FES n, 0, 32, 0⟩

/-- The address of FRM_C_FSES (07_line_framing). -/
def adr_FRM_C_FSES (n : Nat) : Nat := 0x1c0030 + 0x100 * n
def FRM_C_FSES_COUNT (n : Nat) : Fld := ⟨adr_FRM_C_FSES n, 0, 32, 0⟩

/-- The address of FRM_C_FUAS (07_line_framing). -/
def adr_FRM_C_FUAS (n : Nat) : Nat := 0x1c0034 + 0x100 * n
def FRM_C_FUAS_COUNT (n : Nat) : Fld := ⟨adr_FRM_C_FUAS n, 0, 32, 0⟩

/-- The address of FRM_C_DEG (07_line_framing). -/
def adr_FRM_C_DEG (n : Nat) : Nat := 0x1c0038 + 0x100 * n
def FRM_C_DEG_DEGM (n : Nat) : Fld := ⟨adr_FRM_C_DEG n, 24, 4, 7⟩
def FRM_C_DEG_DEGTHR (n : Nat) : Fld := ⟨adr_FRM_C_DEG n, 0, 20, 0x1e85⟩

/-- The address of FRM_C_APS (07_line_framing). -/
def adr_FRM_C_APS (n : Nat) : Nat := 0x1c003c + 0x100 * n
def FRM_C_APS_VALID (n : Nat) : Fld := ⟨adr_FRM_C_APS n, 31, 1, 0⟩
def FRM_C_APS_APS (n : Nat) : Fld := ⟨adr_FRM_C_APS n, 0, 8, 0⟩

/-- The address of FRM_C_RXSRCLO (07_line_framing). -/
def adr_FRM_C_RXSRCLO (n : Nat) : Nat := 0x1c0040 + 0x100 * n
def FRM_C_RXSRCLO_ID (n : Nat) : Fld := ⟨adr_FRM_C_RXSRCLO n, 0, 32, 0⟩

/-- The address of FRM_C_RXSRCHI (07_line_framing). -/
def adr_FRM_C_RXSRCHI (n : Nat) : Nat := 0x1c0044 + 0x100 * n
def FRM_C_RXSRCHI_ID (n : Nat) : Fld := ⟨adr_FRM_C_RXSRCHI n, 0, 32, 0⟩

/-- The address of FRM_C_EXPLO (07_line_framing). -/
def adr_FRM_C_EXPLO (n : Nat) : Nat := 0x1c0048 + 0x100 * n
def FRM_C_EXPLO_ID (n : Nat) : Fld := ⟨adr_FRM_C_EXPLO n, 0, 32, 0⟩

/-- The address of FRM_C_EXPHI (07_line_framing). -/
def adr_FRM_C_EXPHI (n : Nat) : Nat := 0x1c004c + 0x100 * n
def FRM_C_EXPHI_ID (n : Nat) : Fld := ⟨adr_FRM_C_EXPHI n, 0, 32, 0⟩

/-- The address of FRM_C_TXSRCLO (07_line_framing). -/
def adr_FRM_C_TXSRCLO (n : Nat) : Nat := 0x1c0050 + 0x100 * n
def FRM_C_TXSRCLO_ID (n : Nat) : Fld := ⟨adr_FRM_C_TXSRCLO n, 0, 32, 0⟩

/-- The address of FRM_C_TXSRCHI (07_line_framing). -/
def adr_FRM_C_TXSRCHI (n : Nat) : Nat := 0x1c0054 + 0x100 * n
def FRM_C_TXSRCHI_ID (n : Nat) : Fld := ⟨adr_FRM_C_TXSRCHI n, 0, 32, 0⟩

/-- The address of FRM_C_CTL (07_line_framing). -/
def adr_FRM_C_CTL (n : Nat) : Nat := 0x1c0058 + 0x100 * n
def FRM_C_CTL_SIMSF (n : Nat) : Fld := ⟨adr_FRM_C_CTL n, 0, 1, 0⟩

/-- The address of FRM_C_SFN (07_line_framing). -/
def adr_FRM_C_SFN (n : Nat) : Nat := 0x1c005c + 0x100 * n
def FRM_C_SFN_SFN (n : Nat) : Fld := ⟨adr_FRM_C_SFN n, 0, 32, 0⟩

/-- The address of FRM_CPG_STATUS (07_line_framing). -/
def adr_FRM_CPG_STATUS : Nat := 0x1c0200
def FRM_CPG_STATUS_REQ : Fld := ⟨adr_FRM_CPG_STATUS, 28, 4, 0⟩
def FRM_CPG_STATUS_SEL : Fld := ⟨adr_FRM_CPG_STATUS, 27, 1, 0⟩
def FRM_CPG_STATUS_WTR : Fld := ⟨adr_FRM_CPG_STATUS, 26, 1, 0⟩
def FRM_CPG_STATUS_DDX : Fld := ⟨adr_FRM_CPG_STATUS, 25, 1, 0⟩
def FRM_CPG_STATUS_BOTHFAIL : Fld := ⟨adr_FRM_CPG_STATUS, 24, 1, 0⟩
def FRM_CPG_STATUS_CMD : Fld := ⟨adr_FRM_CPG_STATUS, 20, 4, 0⟩
def FRM_CPG_STATUS_ACTIVE : Fld := ⟨adr_FRM_CPG_STATUS, 19, 1, 0⟩
def FRM_CPG_STATUS_APSV : Fld := ⟨adr_FRM_CPG_STATUS, 18, 1, 0⟩
def FRM_CPG_STATUS_APS : Fld := ⟨adr_FRM_CPG_STATUS, 10, 8, 0⟩
def FRM_CPG_STATUS_WTRLEFT : Fld := ⟨adr_FRM_CPG_STATUS, 0, 10, 0⟩

/-- The address of FRM_TP_STATUS (07_line_framing). -/
def adr_FRM_TP_STATUS (n : Nat) : Nat := 0x1d0000 + 0x10 * n
def FRM_TP_STATUS_REQ (n : Nat) : Fld := ⟨adr_FRM_TP_STATUS n, 28, 4, 0⟩
def FRM_TP_STATUS_SEL (n : Nat) : Fld := ⟨adr_FRM_TP_STATUS n, 27, 1, 0⟩
def FRM_TP_STATUS_WTR (n : Nat) : Fld := ⟨adr_FRM_TP_STATUS n, 26, 1, 0⟩
def FRM_TP_STATUS_DDX (n : Nat) : Fld := ⟨adr_FRM_TP_STATUS n, 25, 1, 0⟩
def FRM_TP_STATUS_BOTHFAIL (n : Nat) : Fld := ⟨adr_FRM_TP_STATUS n, 24, 1, 0⟩
def FRM_TP_STATUS_CMD (n : Nat) : Fld := ⟨adr_FRM_TP_STATUS n, 20, 4, 0⟩
def FRM_TP_STATUS_ACTIVE (n : Nat) : Fld := ⟨adr_FRM_TP_STATUS n, 19, 1, 0⟩
def FRM_TP_STATUS_APSV (n : Nat) : Fld := ⟨adr_FRM_TP_STATUS n, 18, 1, 0⟩
def FRM_TP_STATUS_APS (n : Nat) : Fld := ⟨adr_FRM_TP_STATUS n, 10, 8, 0⟩
def FRM_TP_STATUS_WTRLEFT (n : Nat) : Fld := ⟨adr_FRM_TP_STATUS n, 0, 10, 0⟩

/-- The address of FRM_CPG_DD (07_line_framing). -/
def adr_FRM_CPG_DD : Nat := 0x1c0204
def FRM_CPG_DD_DD : Fld := ⟨adr_FRM_CPG_DD, 0, 32, 0x80000000⟩

/-- The address of FRM_TP_DD (07_line_framing). -/
def adr_FRM_TP_DD (n : Nat) : Nat := 0x1d0004 + 0x10 * n
def FRM_TP_DD_DD (n : Nat) : Fld := ⟨adr_FRM_TP_DD n, 0, 32, 0x80000000⟩

/-- The address of FRM_CPG_SW (07_line_framing). -/
def adr_FRM_CPG_SW : Nat := 0x1c0208
def FRM_CPG_SW_COUNT : Fld := ⟨adr_FRM_CPG_SW, 0, 32, 0⟩

/-- The address of FRM_TP_SW (07_line_framing). -/
def adr_FRM_TP_SW (n : Nat) : Nat := 0x1d0008 + 0x10 * n
def FRM_TP_SW_COUNT (n : Nat) : Fld := ⟨adr_FRM_TP_SW n, 0, 32, 0⟩

/-- The address of FRM_CPG_EVENT (07_line_framing). -/
def adr_FRM_CPG_EVENT : Nat := 0x1c020c
def FRM_CPG_EVENT_APSM : Fld := ⟨adr_FRM_CPG_EVENT, 3, 1, 0⟩
def FRM_CPG_EVENT_DDX : Fld := ⟨adr_FRM_CPG_EVENT, 2, 1, 0⟩
def FRM_CPG_EVENT_BOTHFAIL : Fld := ⟨adr_FRM_CPG_EVENT, 1, 1, 0⟩
def FRM_CPG_EVENT_SWITCH : Fld := ⟨adr_FRM_CPG_EVENT, 0, 1, 0⟩

/-- The address of FRM_TP_EVENT (07_line_framing). -/
def adr_FRM_TP_EVENT (n : Nat) : Nat := 0x1d000c + 0x10 * n
def FRM_TP_EVENT_APSM (n : Nat) : Fld := ⟨adr_FRM_TP_EVENT n, 3, 1, 0⟩
def FRM_TP_EVENT_DDX (n : Nat) : Fld := ⟨adr_FRM_TP_EVENT n, 2, 1, 0⟩
def FRM_TP_EVENT_BOTHFAIL (n : Nat) : Fld := ⟨adr_FRM_TP_EVENT n, 1, 1, 0⟩
def FRM_TP_EVENT_SWITCH (n : Nat) : Fld := ⟨adr_FRM_TP_EVENT n, 0, 1, 0⟩

/-- The address of FEC_C_STATUS (08_forward_error_correction). -/
def adr_FEC_C_STATUS (n : Nat) : Nat := 0x200000 + 0x100 * n
def FEC_C_STATUS_LOCKED (n : Nat) : Fld := ⟨adr_FEC_C_STATUS n, 31, 1, 0⟩
def FEC_C_STATUS_NOSTATS (n : Nat) : Fld := ⟨adr_FEC_C_STATUS n, 30, 1, 1⟩
def FEC_C_STATUS_FECSF (n : Nat) : Fld := ⟨adr_FEC_C_STATUS n, 29, 1, 0⟩
def FEC_C_STATUS_FECSD (n : Nat) : Fld := ⟨adr_FEC_C_STATUS n, 28, 1, 0⟩
def FEC_C_STATUS_PROFILE (n : Nat) : Fld := ⟨adr_FEC_C_STATUS n, 26, 2, 0⟩
def FEC_C_STATUS_CAP (n : Nat) : Fld := ⟨adr_FEC_C_STATUS n, 21, 5, 0⟩
def FEC_C_STATUS_BUDGET (n : Nat) : Fld := ⟨adr_FEC_C_STATUS n, 13, 8, 0⟩
def FEC_C_STATUS_AVG (n : Nat) : Fld := ⟨adr_FEC_C_STATUS n, 5, 8, 0⟩

/-- The address of FEC_C_EVENT (08_forward_error_correction). -/
def adr_FEC_C_EVENT (n : Nat) : Nat := 0x200004 + 0x100 * n
def FEC_C_EVENT_SD (n : Nat) : Fld := ⟨adr_FEC_C_EVENT n, 3, 1, 0⟩
def FEC_C_EVENT_SF (n : Nat) : Fld := ⟨adr_FEC_C_EVENT n, 2, 1, 0⟩
def FEC_C_EVENT_STARVE (n : Nat) : Fld := ⟨adr_FEC_C_EVENT n, 1, 1, 0⟩
def FEC_C_EVENT_UNC (n : Nat) : Fld := ⟨adr_FEC_C_EVENT n, 0, 1, 0⟩

/-- The address of FEC_C_BER (08_forward_error_correction). -/
def adr_FEC_C_BER (n : Nat) : Nat := 0x200030 + 0x100 * n
def FEC_C_BER_BER (n : Nat) : Fld := ⟨adr_FEC_C_BER n, 0, 24, 0xffffff⟩

/-- The address of FEC_C_MARGIN (08_forward_error_correction). -/
def adr_FEC_C_MARGIN (n : Nat) : Nat := 0x200034 + 0x100 * n
def FEC_C_MARGIN_MARGIN (n : Nat) : Fld := ⟨adr_FEC_C_MARGIN n, 0, 16, 0x8000⟩

/-- The address of FEC_C_HISTSEL (08_forward_error_correction). -/
def adr_FEC_C_HISTSEL (n : Nat) : Nat := 0x200038 + 0x100 * n
def FEC_C_HISTSEL_BIN (n : Nat) : Fld := ⟨adr_FEC_C_HISTSEL n, 0, 5, 0⟩

/-- The address of FEC_C_HISTLO (08_forward_error_correction). -/
def adr_FEC_C_HISTLO (n : Nat) : Nat := 0x20003c + 0x100 * n
def FEC_C_HISTLO_COUNT (n : Nat) : Fld := ⟨adr_FEC_C_HISTLO n, 0, 32, 0⟩

/-- The address of FEC_C_HISTHI (08_forward_error_correction). -/
def adr_FEC_C_HISTHI (n : Nat) : Nat := 0x200040 + 0x100 * n
def FEC_C_HISTHI_COUNT (n : Nat) : Fld := ⟨adr_FEC_C_HISTHI n, 0, 16, 0⟩

/-- The address of FEC_C_SF (08_forward_error_correction). -/
def adr_FEC_C_SF (n : Nat) : Nat := 0x200044 + 0x100 * n
def FEC_C_SF_SFCLR (n : Nat) : Fld := ⟨adr_FEC_C_SF n, 8, 8, 8⟩
def FEC_C_SF_SFUNC (n : Nat) : Fld := ⟨adr_FEC_C_SF n, 0, 8, 8⟩

/-- The address of FEC_C_SD (08_forward_error_correction). -/
def adr_FEC_C_SD (n : Nat) : Nat := 0x200048 + 0x100 * n
def FEC_C_SD_SDTHR (n : Nat) : Fld := ⟨adr_FEC_C_SD n, 24, 8, 0x50⟩
def FEC_C_SD_SDCLR (n : Nat) : Fld := ⟨adr_FEC_C_SD n, 16, 8, 0x46⟩
def FEC_C_SD_SDUNC (n : Nat) : Fld := ⟨adr_FEC_C_SD n, 8, 8, 1⟩
def FEC_C_SD_SDWIN (n : Nat) : Fld := ⟨adr_FEC_C_SD n, 0, 4, 3⟩

/-- The address of FEC_C_CTL (08_forward_error_correction). -/
def adr_FEC_C_CTL (n : Nat) : Nat := 0x20004c + 0x100 * n
def FEC_C_CTL_CLR (n : Nat) : Fld := ⟨adr_FEC_C_CTL n, 0, 1, 0⟩

/-- The address of FEC_POOL (08_forward_error_correction). -/
def adr_FEC_POOL : Nat := 0x200800
def FEC_POOL_STEP : Fld := ⟨adr_FEC_POOL, 28, 4, 0⟩
def FEC_POOL_CORES : Fld := ⟨adr_FEC_POOL, 22, 6, 0x28⟩
def FEC_POOL_CAP : Fld := ⟨adr_FEC_POOL, 17, 5, 0x18⟩
def FEC_POOL_CAPACITY : Fld := ⟨adr_FEC_POOL, 0, 12, 0x910⟩

/-- The address of FEC_ALLOC (08_forward_error_correction). -/
def adr_FEC_ALLOC : Nat := 0x200804
def FEC_ALLOC_IMIN : Fld := ⟨adr_FEC_ALLOC, 8, 5, 6⟩
def FEC_ALLOC_HEAD : Fld := ⟨adr_FEC_ALLOC, 0, 4, 3⟩

/-- The address of FEC_SHARE (08_forward_error_correction). -/
def adr_FEC_SHARE : Nat := 0x200808
def FEC_SHARE_SHAREA : Fld := ⟨adr_FEC_SHARE, 16, 10, 0⟩
def FEC_SHARE_SHAREB : Fld := ⟨adr_FEC_SHARE, 0, 10, 0⟩

/-- The address of FEC_GEVENT (08_forward_error_correction). -/
def adr_FEC_GEVENT : Nat := 0x20080c
def FEC_GEVENT_STEPCHG : Fld := ⟨adr_FEC_GEVENT, 1, 1, 0⟩
def FEC_GEVENT_POOLSHORT : Fld := ⟨adr_FEC_GEVENT, 0, 1, 0⟩

/-- The address of DS_TXFMT (09_line_dsp). -/
def adr_DS_TXFMT (n : Nat) : Nat := 0x240000 + 0x40000 * n
def DS_TXFMT_MOD (n : Nat) : Fld := ⟨adr_DS_TXFMT n, 30, 2, 0⟩
def DS_TXFMT_ENT (n : Nat) : Fld := ⟨adr_DS_TXFMT n, 23, 7, 0⟩
def DS_TXFMT_ROLLOFF (n : Nat) : Fld := ⟨adr_DS_TXFMT n, 13, 10, 0⟩

/-- The address of DS_RXFMT (09_line_dsp). -/
def adr_DS_RXFMT (n : Nat) : Nat := 0x240004 + 0x40000 * n
def DS_RXFMT_MOD (n : Nat) : Fld := ⟨adr_DS_RXFMT n, 30, 2, 0⟩
def DS_RXFMT_ENT (n : Nat) : Fld := ⟨adr_DS_RXFMT n, 23, 7, 0⟩
def DS_RXFMT_FILLSYNC (n : Nat) : Fld := ⟨adr_DS_RXFMT n, 0, 1, 0⟩

/-- The address of DS_FILL (09_line_dsp). -/
def adr_DS_FILL (n : Nat) : Nat := 0x240008 + 0x40000 * n
def DS_FILL_TXFILL (n : Nat) : Fld := ⟨adr_DS_FILL n, 16, 16, 0⟩
def DS_FILL_RXFILL (n : Nat) : Fld := ⟨adr_DS_FILL n, 0, 16, 0⟩

/-- The address of DS_TXCTL (09_line_dsp). -/
def adr_DS_TXCTL (n : Nat) : Nat := 0x24000c + 0x40000 * n
def DS_TXCTL_SWING (n : Nat) : Fld := ⟨adr_DS_TXCTL n, 24, 8, 0x40⟩
def DS_TXCTL_PDOFF (n : Nat) : Fld := ⟨adr_DS_TXCTL n, 1, 1, 0⟩
def DS_TXCTL_PEOFF (n : Nat) : Fld := ⟨adr_DS_TXCTL n, 0, 1, 0⟩

/-- The address of DS_CDEST (09_line_dsp). -/
def adr_DS_CDEST (n : Nat) : Nat := 0x240010 + 0x40000 * n
def DS_CDEST_CD (n : Nat) : Fld := ⟨adr_DS_CDEST n, 12, 20, 0⟩
def DS_CDEST_SRC (n : Nat) : Fld := ⟨adr_DS_CDEST n, 10, 2, 0⟩

/-- The address of DS_PMD (09_line_dsp). -/
def adr_DS_PMD (n : Nat) : Nat := 0x240014 + 0x40000 * n
def DS_PMD_DGD (n : Nat) : Fld := ⟨adr_DS_PMD n, 20, 12, 0⟩
def DS_PMD_PDL (n : Nat) : Fld := ⟨adr_DS_PMD n, 12, 8, 0⟩
def DS_PMD_SOP (n : Nat) : Fld := ⟨adr_DS_PMD n, 0, 12, 0⟩

/-- The address of DS_SNR (09_line_dsp). -/
def adr_DS_SNR (n : Nat) : Nat := 0x240018 + 0x40000 * n
def DS_SNR_SNRX (n : Nat) : Fld := ⟨adr_DS_SNR n, 22, 10, 0⟩
def DS_SNR_SNRY (n : Nat) : Fld := ⟨adr_DS_SNR n, 12, 10, 0⟩
def DS_SNR_OSNR (n : Nat) : Fld := ⟨adr_DS_SNR n, 2, 10, 0⟩

/-- The address of DS_OSNRCAL (09_line_dsp). -/
def adr_DS_OSNRCAL (n : Nat) : Nat := 0x24001c + 0x40000 * n
def DS_OSNRCAL_SNRTRX (n : Nat) : Fld := ⟨adr_DS_OSNRCAL n, 0, 10, 0x190⟩

/-- The address of DS_FOFS (09_line_dsp). -/
def adr_DS_FOFS (n : Nat) : Nat := 0x240020 + 0x40000 * n
def DS_FOFS_FOFS (n : Nat) : Fld := ⟨adr_DS_FOFS n, 16, 16, 0⟩
def DS_FOFS_LSTSUM (n : Nat) : Fld := ⟨adr_DS_FOFS n, 0, 16, 0⟩

/-- The address of DS_LSTCTL (09_line_dsp). -/
def adr_DS_LSTCTL (n : Nat) : Nat := 0x240024 + 0x40000 * n
def DS_LSTCTL_LSTEN (n : Nat) : Fld := ⟨adr_DS_LSTCTL n, 31, 1, 1⟩
def DS_LSTCTL_GAIN (n : Nat) : Fld := ⟨adr_DS_LSTCTL n, 27, 4, 4⟩
def DS_LSTCTL_DEADBAND (n : Nat) : Fld := ⟨adr_DS_LSTCTL n, 19, 8, 5⟩
def DS_LSTCTL_MAXSTEP (n : Nat) : Fld := ⟨adr_DS_LSTCTL n, 12, 7, 0xa⟩
def DS_LSTCTL_PERIOD (n : Nat) : Fld := ⟨adr_DS_LSTCTL n, 4, 8, 0xa⟩
def DS_LSTCTL_LIMIT (n : Nat) : Fld := ⟨adr_DS_LSTCTL n, 0, 4, 5⟩

/-- The address of DS_EQCTL (09_line_dsp). -/
def adr_DS_EQCTL (n : Nat) : Nat := 0x240028 + 0x40000 * n
def DS_EQCTL_RESTART (n : Nat) : Fld := ⟨adr_DS_EQCTL n, 8, 1, 0⟩
def DS_EQCTL_FREEZE (n : Nat) : Fld := ⟨adr_DS_EQCTL n, 7, 1, 0⟩
def DS_EQCTL_MU (n : Nat) : Fld := ⟨adr_DS_EQCTL n, 4, 3, 2⟩
def DS_EQCTL_UPD (n : Nat) : Fld := ⟨adr_DS_EQCTL n, 0, 4, 0⟩

/-- The address of DS_EQSTAT (09_line_dsp). -/
def adr_DS_EQSTAT (n : Nat) : Nat := 0x24002c + 0x40000 * n
def DS_EQSTAT_REINIT (n : Nat) : Fld := ⟨adr_DS_EQSTAT n, 24, 8, 0⟩
def DS_EQSTAT_STATE (n : Nat) : Fld := ⟨adr_DS_EQSTAT n, 0, 2, 0⟩

/-- The address of DS_TAPSEL (09_line_dsp). -/
def adr_DS_TAPSEL (n : Nat) : Nat := 0x240030 + 0x40000 * n
def DS_TAPSEL_ELEM (n : Nat) : Fld := ⟨adr_DS_TAPSEL n, 6, 2, 0⟩
def DS_TAPSEL_TAP (n : Nat) : Fld := ⟨adr_DS_TAPSEL n, 0, 6, 0⟩

/-- The address of DS_TAPDATA (09_line_dsp). -/
def adr_DS_TAPDATA (n : Nat) : Nat := 0x240034 + 0x40000 * n
def DS_TAPDATA_RE (n : Nat) : Fld := ⟨adr_DS_TAPDATA n, 16, 16, 0⟩
def DS_TAPDATA_IM (n : Nat) : Fld := ⟨adr_DS_TAPDATA n, 0, 16, 0⟩

/-- The address of DS_NLC (09_line_dsp). -/
def adr_DS_NLC (n : Nat) : Nat := 0x240038 + 0x40000 * n
def DS_NLC_STEPS (n : Nat) : Fld := ⟨adr_DS_NLC n, 24, 8, 0⟩
def DS_NLC_GAIN (n : Nat) : Fld := ⟨adr_DS_NLC n, 16, 8, 0⟩
def DS_NLC_XI (n : Nat) : Fld := ⟨adr_DS_NLC n, 8, 8, 0x40⟩
def DS_NLC_XIAUTO (n : Nat) : Fld := ⟨adr_DS_NLC n, 7, 1, 1⟩

/-- The address of DS_CR (09_line_dsp). -/
def adr_DS_CR (n : Nat) : Nat := 0x24003c + 0x40000 * n
def DS_CR_AVG (n : Nat) : Fld := ⟨adr_DS_CR n, 0, 4, 7⟩

/-- The address of DS_CSLIP (09_line_dsp). -/
def adr_DS_CSLIP (n : Nat) : Nat := 0x240040 + 0x40000 * n
def DS_CSLIP_COUNT (n : Nat) : Fld := ⟨adr_DS_CSLIP n, 0, 32, 0⟩

/-- The address of DS_TIM (09_line_dsp). -/
def adr_DS_TIM (n : Nat) : Nat := 0x240044 + 0x40000 * n
def DS_TIM_RXPPM (n : Nat) : Fld := ⟨adr_DS_TIM n, 16, 16, 0⟩
def DS_TIM_TLOCK (n : Nat) : Fld := ⟨adr_DS_TIM n, 15, 1, 0⟩

/-- The address of DS_EVENT (09_line_dsp). -/
def adr_DS_EVENT (n : Nat) : Nat := 0x240048 + 0x40000 * n
def DS_EVENT_CDSTEP (n : Nat) : Fld := ⟨adr_DS_EVENT n, 5, 1, 0⟩
def DS_EVENT_TIMRANGE (n : Nat) : Fld := ⟨adr_DS_EVENT n, 4, 1, 0⟩
def DS_EVENT_LSTLIM (n : Nat) : Fld := ⟨adr_DS_EVENT n, 3, 1, 0⟩
def DS_EVENT_LSTSENT (n : Nat) : Fld := ⟨adr_DS_EVENT n, 2, 1, 0⟩
def DS_EVENT_CSLIP (n : Nat) : Fld := ⟨adr_DS_EVENT n, 1, 1, 0⟩
def DS_EVENT_EQREINIT (n : Nat) : Fld := ⟨adr_DS_EVENT n, 0, 1, 0⟩

/-- The address of ACQ_C_STATUS (10_acquisition). -/
def adr_ACQ_C_STATUS (n : Nat) : Nat := 0x2c0000 + 0x100 * n
def ACQ_C_STATUS_LOCKED (n : Nat) : Fld := ⟨adr_ACQ_C_STATUS n, 31, 1, 0⟩
def ACQ_C_STATUS_STAGE (n : Nat) : Fld := ⟨adr_ACQ_C_STATUS n, 28, 3, 0⟩
def ACQ_C_STATUS_PROF (n : Nat) : Fld := ⟨adr_ACQ_C_STATUS n, 25, 3, 7⟩
def ACQ_C_STATUS_QUEUED (n : Nat) : Fld := ⟨adr_ACQ_C_STATUS n, 23, 2, 0⟩
def ACQ_C_STATUS_LANES (n : Nat) : Fld := ⟨adr_ACQ_C_STATUS n, 16, 5, 0⟩
def ACQ_C_STATUS_STATE (n : Nat) : Fld := ⟨adr_ACQ_C_STATUS n, 0, 2, 0⟩

/-- The address of ACQ_C_FOFS (10_acquisition). -/
def adr_ACQ_C_FOFS (n : Nat) : Nat := 0x2c0004 + 0x100 * n
def ACQ_C_FOFS_FOFS (n : Nat) : Fld := ⟨adr_ACQ_C_FOFS n, 16, 16, 0⟩
def ACQ_C_FOFS_PPM (n : Nat) : Fld := ⟨adr_ACQ_C_FOFS n, 0, 16, 0⟩

/-- The address of ACQ_C_CDSCAN (10_acquisition). -/
def adr_ACQ_C_CDSCAN (n : Nat) : Nat := 0x2c0008 + 0x100 * n
def ACQ_C_CDSCAN_CD (n : Nat) : Fld := ⟨adr_ACQ_C_CDSCAN n, 12, 20, 0⟩

/-- The address of ACQ_C_METRIC (10_acquisition). -/
def adr_ACQ_C_METRIC (n : Nat) : Nat := 0x2c000c + 0x100 * n
def ACQ_C_METRIC_CUR (n : Nat) : Fld := ⟨adr_ACQ_C_METRIC n, 16, 16, 0x8000⟩
def ACQ_C_METRIC_RIVAL (n : Nat) : Fld := ⟨adr_ACQ_C_METRIC n, 0, 16, 0x8000⟩

/-- The address of ACQ_C_BLOCK (10_acquisition). -/
def adr_ACQ_C_BLOCK (n : Nat) : Nat := 0x2c0010 + 0x100 * n
def ACQ_C_BLOCK_SW (n : Nat) : Fld := ⟨adr_ACQ_C_BLOCK n, 24, 8, 0⟩
def ACQ_C_BLOCK_OFFSET (n : Nat) : Fld := ⟨adr_ACQ_C_BLOCK n, 0, 15, 0⟩

/-- The address of ACQ_C_LOCKS (10_acquisition). -/
def adr_ACQ_C_LOCKS (n : Nat) : Nat := 0x2c0014 + 0x100 * n
def ACQ_C_LOCKS_COUNT (n : Nat) : Fld := ⟨adr_ACQ_C_LOCKS n, 0, 32, 0⟩

/-- The address of ACQ_C_REJECT (10_acquisition). -/
def adr_ACQ_C_REJECT (n : Nat) : Nat := 0x2c0018 + 0x100 * n
def ACQ_C_REJECT_PILOT (n : Nat) : Fld := ⟨adr_ACQ_C_REJECT n, 24, 8, 0⟩
def ACQ_C_REJECT_FILL (n : Nat) : Fld := ⟨adr_ACQ_C_REJECT n, 16, 8, 0⟩
def ACQ_C_REJECT_BLOCK (n : Nat) : Fld := ⟨adr_ACQ_C_REJECT n, 8, 8, 0⟩
def ACQ_C_REJECT_CHECK (n : Nat) : Fld := ⟨adr_ACQ_C_REJECT n, 0, 8, 0⟩

/-- The address of ACQ_C_LOSS (10_acquisition). -/
def adr_ACQ_C_LOSS (n : Nat) : Nat := 0x2c001c + 0x100 * n
def ACQ_C_LOSS_LOST (n : Nat) : Fld := ⟨adr_ACQ_C_LOSS n, 16, 16, 0⟩
def ACQ_C_LOSS_PREEMPT (n : Nat) : Fld := ⟨adr_ACQ_C_LOSS n, 0, 16, 0⟩

/-- The address of ACQ_C_LOCKTIME (10_acquisition). -/
def adr_ACQ_C_LOCKTIME (n : Nat) : Nat := 0x2c0020 + 0x100 * n
def ACQ_C_LOCKTIME_TIME (n : Nat) : Fld := ⟨adr_ACQ_C_LOCKTIME n, 0, 32, 0⟩

/-- The address of ACQ_C_CTL (10_acquisition). -/
def adr_ACQ_C_CTL (n : Nat) : Nat := 0x2c0024 + 0x100 * n
def ACQ_C_CTL_RESTART (n : Nat) : Fld := ⟨adr_ACQ_C_CTL n, 1, 1, 0⟩
def ACQ_C_CTL_WATCHEN (n : Nat) : Fld := ⟨adr_ACQ_C_CTL n, 0, 1, 1⟩

/-- The address of ACQ_C_EVENT (10_acquisition). -/
def adr_ACQ_C_EVENT (n : Nat) : Nat := 0x2c0028 + 0x100 * n
def ACQ_C_EVENT_PROFBAD (n : Nat) : Fld := ⟨adr_ACQ_C_EVENT n, 5, 1, 0⟩
def ACQ_C_EVENT_PREEMPT (n : Nat) : Fld := ⟨adr_ACQ_C_EVENT n, 4, 1, 0⟩
def ACQ_C_EVENT_LOST (n : Nat) : Fld := ⟨adr_ACQ_C_EVENT n, 3, 1, 0⟩
def ACQ_C_EVENT_LOCK (n : Nat) : Fld := ⟨adr_ACQ_C_EVENT n, 2, 1, 0⟩
def ACQ_C_EVENT_REJECT (n : Nat) : Fld := ⟨adr_ACQ_C_EVENT n, 1, 1, 0⟩
def ACQ_C_EVENT_DETECT (n : Nat) : Fld := ⟨adr_ACQ_C_EVENT n, 0, 1, 0⟩

/-- The address of ACQ_PROF (10_acquisition). -/
def adr_ACQ_PROF (n : Nat) : Nat := 0x2c0400 + 0x4 * n
def ACQ_PROF_BAUD (n : Nat) : Fld := ⟨adr_ACQ_PROF n, 22, 10, 0⟩
def ACQ_PROF_NET (n : Nat) : Fld := ⟨adr_ACQ_PROF n, 17, 5, 0⟩
def ACQ_PROF_FEC (n : Nat) : Fld := ⟨adr_ACQ_PROF n, 15, 2, 0⟩
def ACQ_PROF_MOD (n : Nat) : Fld := ⟨adr_ACQ_PROF n, 13, 2, 0⟩

/-- The address of ACQ_THRESH (10_acquisition). -/
def adr_ACQ_THRESH : Nat := 0x2c0410
def ACQ_THRESH_DETTHR : Fld := ⟨adr_ACQ_THRESH, 24, 8, 0x28⟩
def ACQ_THRESH_CONFTHR : Fld := ⟨adr_ACQ_THRESH, 16, 8, 0x3c⟩
def ACQ_THRESH_WMARGIN : Fld := ⟨adr_ACQ_THRESH, 8, 8, 0x3c⟩
def ACQ_THRESH_SWTHR : Fld := ⟨adr_ACQ_THRESH, 0, 8, 0x66⟩

/-- The address of CNV_C_STATUS (11_converters_and_calibration). -/
def adr_CNV_C_STATUS (n : Nat) : Nat := 0x300000 + 0x100 * n
def CNV_C_STATUS_TXSYN (n : Nat) : Fld := ⟨adr_CNV_C_STATUS n, 31, 1, 0⟩
def CNV_C_STATUS_RXSYN (n : Nat) : Fld := ⟨adr_CNV_C_STATUS n, 30, 1, 0⟩
def CNV_C_STATUS_READY (n : Nat) : Fld := ⟨adr_CNV_C_STATUS n, 29, 1, 0⟩
def CNV_C_STATUS_UNCALTX (n : Nat) : Fld := ⟨adr_CNV_C_STATUS n, 28, 1, 1⟩
def CNV_C_STATUS_UNCALRX (n : Nat) : Fld := ⟨adr_CNV_C_STATUS n, 27, 1, 1⟩
def CNV_C_STATUS_TXRUN (n : Nat) : Fld := ⟨adr_CNV_C_STATUS n, 25, 2, 0⟩
def CNV_C_STATUS_RXRUN (n : Nat) : Fld := ⟨adr_CNV_C_STATUS n, 23, 2, 0⟩
def CNV_C_STATUS_TEMP (n : Nat) : Fld := ⟨adr_CNV_C_STATUS n, 0, 10, 0⟩

/-- The address of CNV_C_CALCTL (11_converters_and_calibration). -/
def adr_CNV_C_CALCTL (n : Nat) : Nat := 0x300004 + 0x100 * n
def CNV_C_CALCTL_PERIOD (n : Nat) : Fld := ⟨adr_CNV_C_CALCTL n, 24, 8, 0xa⟩
def CNV_C_CALCTL_TXEN (n : Nat) : Fld := ⟨adr_CNV_C_CALCTL n, 4, 1, 1⟩
def CNV_C_CALCTL_RXEN (n : Nat) : Fld := ⟨adr_CNV_C_CALCTL n, 3, 1, 1⟩
def CNV_C_CALCTL_VIEW (n : Nat) : Fld := ⟨adr_CNV_C_CALCTL n, 2, 1, 0⟩
def CNV_C_CALCTL_HOLD (n : Nat) : Fld := ⟨adr_CNV_C_CALCTL n, 1, 1, 0⟩

/-- The address of CNV_C_MAP (11_converters_and_calibration). -/
def adr_CNV_C_MAP (n : Nat) : Nat := 0x300008 + 0x100 * n
def CNV_C_MAP_RXSWAPY (n : Nat) : Fld := ⟨adr_CNV_C_MAP n, 11, 1, 0⟩
def CNV_C_MAP_RXSWAPX (n : Nat) : Fld := ⟨adr_CNV_C_MAP n, 10, 1, 0⟩
def CNV_C_MAP_TXSWAPY (n : Nat) : Fld := ⟨adr_CNV_C_MAP n, 9, 1, 0⟩
def CNV_C_MAP_TXSWAPX (n : Nat) : Fld := ⟨adr_CNV_C_MAP n, 8, 1, 0⟩
def CNV_C_MAP_RXINV (n : Nat) : Fld := ⟨adr_CNV_C_MAP n, 4, 4, 0⟩
def CNV_C_MAP_TXINV (n : Nat) : Fld := ⟨adr_CNV_C_MAP n, 0, 4, 0⟩

/-- The address of CNV_C_EVENT (11_converters_and_calibration). -/
def adr_CNV_C_EVENT (n : Nat) : Nat := 0x30000c + 0x100 * n
def CNV_C_EVENT_CLIP (n : Nat) : Fld := ⟨adr_CNV_C_EVENT n, 3, 1, 0⟩
def CNV_C_EVENT_RANGE (n : Nat) : Fld := ⟨adr_CNV_C_EVENT n, 2, 1, 0⟩
def CNV_C_EVENT_DISAGREE (n : Nat) : Fld := ⟨adr_CNV_C_EVENT n, 1, 1, 0⟩
def CNV_C_EVENT_ACCEPT (n : Nat) : Fld := ⟨adr_CNV_C_EVENT n, 0, 1, 0⟩

/-- The address of CNV_C_COUNT (11_converters_and_calibration). -/
def adr_CNV_C_COUNT (n : Nat) : Nat := 0x300010 + 0x100 * n
def CNV_C_COUNT_ACCEPTTX (n : Nat) : Fld := ⟨adr_CNV_C_COUNT n, 24, 8, 0⟩
def CNV_C_COUNT_ACCEPTRX (n : Nat) : Fld := ⟨adr_CNV_C_COUNT n, 16, 8, 0⟩
def CNV_C_COUNT_DISAGREE (n : Nat) : Fld := ⟨adr_CNV_C_COUNT n, 8, 8, 0⟩
def CNV_C_COUNT_RANGE (n : Nat) : Fld := ⟨adr_CNV_C_COUNT n, 0, 8, 0⟩

/-- The address of CNV_C_DIFF (11_converters_and_calibration). -/
def adr_CNV_C_DIFF (n : Nat) : Nat := 0x300014 + 0x100 * n
def CNV_C_DIFF_DIR (n : Nat) : Fld := ⟨adr_CNV_C_DIFF n, 31, 1, 0⟩
def CNV_C_DIFF_QTY (n : Nat) : Fld := ⟨adr_CNV_C_DIFF n, 28, 3, 0⟩
def CNV_C_DIFF_CONV (n : Nat) : Fld := ⟨adr_CNV_C_DIFF n, 26, 2, 0⟩
def CNV_C_DIFF_RATIO (n : Nat) : Fld := ⟨adr_CNV_C_DIFF n, 0, 16, 0⟩

/-- The address of CNV_C_TXSKEW (11_converters_and_calibration). -/
def adr_CNV_C_TXSKEW (c n : Nat) : Nat := 0x300020 + 0x100 * c + 0x4 * n
def CNV_C_TXSKEW_OFS (c n : Nat) : Fld := ⟨adr_CNV_C_TXSKEW c n, 19, 13, 0⟩
def CNV_C_TXSKEW_SKEW (c n : Nat) : Fld := ⟨adr_CNV_C_TXSKEW c n, 0, 13, 0⟩

/-- The address of CNV_C_RXSKEW (11_converters_and_calibration). -/
def adr_CNV_C_RXSKEW (c n : Nat) : Nat := 0x300030 + 0x100 * c + 0x4 * n
def CNV_C_RXSKEW_SKEW (c n : Nat) : Fld := ⟨adr_CNV_C_RXSKEW c n, 0, 13, 0⟩

/-- The address of CNV_C_TXIQ (11_converters_and_calibration). -/
def adr_CNV_C_TXIQ (n : Nat) : Nat := 0x300040 + 0x100 * n
def CNV_C_TXIQ_GX (n : Nat) : Fld := ⟨adr_CNV_C_TXIQ n, 22, 10, 0⟩
def CNV_C_TXIQ_GY (n : Nat) : Fld := ⟨adr_CNV_C_TXIQ n, 12, 10, 0⟩

/-- The address of CNV_C_RXIQ (11_converters_and_calibration). -/
def adr_CNV_C_RXIQ (n : Nat) : Nat := 0x300044 + 0x100 * n
def CNV_C_RXIQ_GX (n : Nat) : Fld := ⟨adr_CNV_C_RXIQ n, 22, 10, 0⟩
def CNV_C_RXIQ_GY (n : Nat) : Fld := ⟨adr_CNV_C_RXIQ n, 12, 10, 0⟩

/-- The address of CNV_C_RXPH (11_converters_and_calibration). -/
def adr_CNV_C_RXPH (n : Nat) : Nat := 0x300048 + 0x100 * n
def CNV_C_RXPH_PHX (n : Nat) : Fld := ⟨adr_CNV_C_RXPH n, 21, 11, 0⟩
def CNV_C_RXPH_PHY (n : Nat) : Fld := ⟨adr_CNV_C_RXPH n, 10, 11, 0⟩

/-- The address of CNV_C_TABSEL (11_converters_and_calibration). -/
def adr_CNV_C_TABSEL (n : Nat) : Nat := 0x300050 + 0x100 * n
def CNV_C_TABSEL_KIND (n : Nat) : Fld := ⟨adr_CNV_C_TABSEL n, 10, 1, 0⟩
def CNV_C_TABSEL_CONV (n : Nat) : Fld := ⟨adr_CNV_C_TABSEL n, 8, 2, 0⟩
def CNV_C_TABSEL_INDEX (n : Nat) : Fld := ⟨adr_CNV_C_TABSEL n, 0, 8, 0⟩

/-- The address of CNV_C_TABDATA (11_converters_and_calibration). -/
def adr_CNV_C_TABDATA (n : Nat) : Nat := 0x300054 + 0x100 * n
def CNV_C_TABDATA_VALUE (n : Nat) : Fld := ⟨adr_CNV_C_TABDATA n, 0, 16, 0⟩

/-- The address of CNV_SETS (11_converters_and_calibration). -/
def adr_CNV_SETS : Nat := 0x300800
def CNV_SETS_VALID : Fld := ⟨adr_CNV_SETS, 0, 32, 0⟩

/-- The address of CNV_BINSEL (11_converters_and_calibration). -/
def adr_CNV_BINSEL : Nat := 0x300804
def CNV_BINSEL_SET : Fld := ⟨adr_CNV_BINSEL, 3, 2, 0⟩
def CNV_BINSEL_BIN : Fld := ⟨adr_CNV_BINSEL, 0, 3, 0⟩

/-- The address of CNV_BININFO (11_converters_and_calibration). -/
def adr_CNV_BININFO : Nat := 0x300808
def CNV_BININFO_TEMP : Fld := ⟨adr_CNV_BININFO, 22, 10, 0⟩
def CNV_BININFO_VALID : Fld := ⟨adr_CNV_BININFO, 21, 1, 0⟩
def CNV_BININFO_STORED : Fld := ⟨adr_CNV_BININFO, 20, 1, 0⟩

/-- The address of CNV_MTP (11_converters_and_calibration). -/
def adr_CNV_MTP : Nat := 0x30080c
def CNV_MTP_SEQ : Fld := ⟨adr_CNV_MTP, 16, 16, 0⟩
def CNV_MTP_ACTIVE : Fld := ⟨adr_CNV_MTP, 14, 2, 0⟩
def CNV_MTP_STATE : Fld := ⟨adr_CNV_MTP, 11, 3, 0⟩
def CNV_MTP_RESULT : Fld := ⟨adr_CNV_MTP, 8, 3, 5⟩
def CNV_MTP_WORN : Fld := ⟨adr_CNV_MTP, 7, 1, 0⟩
def CNV_MTP_FAILEV : Fld := ⟨adr_CNV_MTP, 6, 1, 0⟩
def CNV_MTP_DONEEV : Fld := ⟨adr_CNV_MTP, 5, 1, 0⟩

/-- The address of CNV_STCTL (11_converters_and_calibration). -/
def adr_CNV_STCTL : Nat := 0x300810
def CNV_STCTL_STORE : Fld := ⟨adr_CNV_STCTL, 31, 1, 0⟩
def CNV_STCTL_AUTO : Fld := ⟨adr_CNV_STCTL, 30, 1, 1⟩
def CNV_STCTL_MININT : Fld := ⟨adr_CNV_STCTL, 0, 8, 0x18⟩

/-- The address of CNV_MTPCNT (11_converters_and_calibration). -/
def adr_CNV_MTPCNT : Nat := 0x300814
def CNV_MTPCNT_BANKB : Fld := ⟨adr_CNV_MTPCNT, 16, 16, 0⟩
def CNV_MTPCNT_BANKA : Fld := ⟨adr_CNV_MTPCNT, 0, 16, 0⟩

/-- The address of TIM_STATUS (12_timing_and_levee_ring). -/
def adr_TIM_STATUS : Nat := 0x50000
def TIM_STATUS_TSTAT : Fld := ⟨adr_TIM_STATUS, 29, 3, 0⟩
def TIM_STATUS_LOOP : Fld := ⟨adr_TIM_STATUS, 27, 2, 0⟩
def TIM_STATUS_SEL : Fld := ⟨adr_TIM_STATUS, 24, 3, 7⟩
def TIM_STATUS_BW : Fld := ⟨adr_TIM_STATUS, 21, 3, 0⟩
def TIM_STATUS_HOAVAIL : Fld := ⟨adr_TIM_STATUS, 20, 1, 0⟩
def TIM_STATUS_NOHIST : Fld := ⟨adr_TIM_STATUS, 19, 1, 0⟩
def TIM_STATUS_AMBIGUOUS : Fld := ⟨adr_TIM_STATUS, 18, 1, 0⟩
def TIM_STATUS_PULL : Fld := ⟨adr_TIM_STATUS, 17, 1, 0⟩
def TIM_STATUS_PUBLISHED : Fld := ⟨adr_TIM_STATUS, 16, 1, 0⟩

/-- The address of TIM_EVENT (12_timing_and_levee_ring). -/
def adr_TIM_EVENT : Nat := 0x50004
def TIM_EVENT_REALIGN : Fld := ⟨adr_TIM_EVENT, 7, 1, 0⟩
def TIM_EVENT_PULLDONE : Fld := ⟨adr_TIM_EVENT, 6, 1, 0⟩
def TIM_EVENT_AMBIG : Fld := ⟨adr_TIM_EVENT, 5, 1, 0⟩
def TIM_EVENT_FREERUN : Fld := ⟨adr_TIM_EVENT, 4, 1, 0⟩
def TIM_EVENT_HOLDOVER : Fld := ⟨adr_TIM_EVENT, 3, 1, 0⟩
def TIM_EVENT_WARN : Fld := ⟨adr_TIM_EVENT, 2, 1, 0⟩
def TIM_EVENT_DISQ : Fld := ⟨adr_TIM_EVENT, 1, 1, 0⟩
def TIM_EVENT_SWITCH : Fld := ⟨adr_TIM_EVENT, 0, 1, 0⟩

/-- The address of TIM_IN (12_timing_and_levee_ring). -/
def adr_TIM_IN (n : Nat) : Nat := 0x50010 + 0x4 * n
def TIM_IN_STATE (n : Nat) : Fld := ⟨adr_TIM_IN n, 30, 2, 0⟩
def TIM_IN_WARN (n : Nat) : Fld := ⟨adr_TIM_IN n, 29, 1, 0⟩
def TIM_IN_DEMOTED (n : Nat) : Fld := ⟨adr_TIM_IN n, 28, 1, 0⟩
def TIM_IN_CAUSE (n : Nat) : Fld := ⟨adr_TIM_IN n, 26, 2, 0⟩
def TIM_IN_QLEFT (n : Nat) : Fld := ⟨adr_TIM_IN n, 0, 12, 0⟩

/-- The address of TIM_DEV (12_timing_and_levee_ring). -/
def adr_TIM_DEV (n : Nat) : Nat := 0x50030 + 0x4 * n
def TIM_DEV_OFS (n : Nat) : Fld := ⟨adr_TIM_DEV n, 16, 16, 0⟩
def TIM_DEV_DEV (n : Nat) : Fld := ⟨adr_TIM_DEV n, 0, 16, 0⟩

/-- The address of TIM_HOLD (12_timing_and_levee_ring). -/
def adr_TIM_HOLD : Nat := 0x50050
def TIM_HOLD_EST : Fld := ⟨adr_TIM_HOLD, 16, 16, 0⟩
def TIM_HOLD_HIST : Fld := ⟨adr_TIM_HOLD, 0, 10, 0⟩

/-- The address of TIM_PULL (12_timing_and_levee_ring). -/
def adr_TIM_PULL : Nat := 0x50054
def TIM_PULL_REMAIN : Fld := ⟨adr_TIM_PULL, 16, 16, 0⟩

/-- The address of TIM_CTL (12_timing_and_levee_ring). -/
def adr_TIM_CTL : Nat := 0x50058
def TIM_CTL_PHLIM : Fld := ⟨adr_TIM_CTL, 16, 16, 0x64⟩
def TIM_CTL_XOU : Fld := ⟨adr_TIM_CTL, 8, 8, 5⟩

/-- The address of TIM_OUT (12_timing_and_levee_ring). -/
def adr_TIM_OUT : Nat := 0x5005c
def TIM_OUT_H0EN : Fld := ⟨adr_TIM_OUT, 31, 1, 0⟩
def TIM_OUT_H0FREQ : Fld := ⟨adr_TIM_OUT, 27, 4, 2⟩
def TIM_OUT_H1EN : Fld := ⟨adr_TIM_OUT, 26, 1, 0⟩
def TIM_OUT_H1FREQ : Fld := ⟨adr_TIM_OUT, 22, 4, 2⟩
def TIM_OUT_SQFR : Fld := ⟨adr_TIM_OUT, 21, 1, 0⟩
def TIM_OUT_FPOEN : Fld := ⟨adr_TIM_OUT, 20, 1, 1⟩

/-- The address of TIM_PHASE (12_timing_and_levee_ring). -/
def adr_TIM_PHASE : Nat := 0x50060
def TIM_PHASE_OFS : Fld := ⟨adr_TIM_PHASE, 0, 32, 0⟩

/-- The address of TIM_RINGPH (12_timing_and_levee_ring). -/
def adr_TIM_RINGPH : Nat := 0x50064
def TIM_RINGPH_OFS : Fld := ⟨adr_TIM_RINGPH, 0, 32, 0x80000000⟩

/-- The address of TIM_RINGCTL (12_timing_and_levee_ring). -/
def adr_TIM_RINGCTL : Nat := 0x50080
def TIM_RINGCTL_EN : Fld := ⟨adr_TIM_RINGCTL, 31, 1, 0⟩
def TIM_RINGCTL_MASTER : Fld := ⟨adr_TIM_RINGCTL, 30, 1, 0⟩
def TIM_RINGCTL_FALIGN : Fld := ⟨adr_TIM_RINGCTL, 29, 1, 0⟩
def TIM_RINGCTL_TODEN : Fld := ⟨adr_TIM_RINGCTL, 28, 1, 0⟩
def TIM_RINGCTL_ID : Fld := ⟨adr_TIM_RINGCTL, 24, 4, 0⟩
def TIM_RINGCTL_MID : Fld := ⟨adr_TIM_RINGCTL, 20, 4, 0⟩
def TIM_RINGCTL_LINKDLY : Fld := ⟨adr_TIM_RINGCTL, 0, 16, 0⟩

/-- The address of TIM_RINGSTAT (12_timing_and_levee_ring). -/
def adr_TIM_RINGSTAT : Nat := 0x50084
def TIM_RINGSTAT_WICKET : Fld := ⟨adr_TIM_RINGSTAT, 31, 1, 0⟩
def TIM_RINGSTAT_LINK : Fld := ⟨adr_TIM_RINGSTAT, 30, 1, 0⟩
def TIM_RINGSTAT_DUPID : Fld := ⟨adr_TIM_RINGSTAT, 29, 1, 0⟩
def TIM_RINGSTAT_LINKS : Fld := ⟨adr_TIM_RINGSTAT, 24, 5, 0⟩
def TIM_RINGSTAT_SHARE : Fld := ⟨adr_TIM_RINGSTAT, 0, 16, 0⟩

/-- The address of TIM_RINGERR (12_timing_and_levee_ring). -/
def adr_TIM_RINGERR : Nat := 0x50088
def TIM_RINGERR_CRC : Fld := ⟨adr_TIM_RINGERR, 16, 16, 0⟩
def TIM_RINGERR_CODE : Fld := ⟨adr_TIM_RINGERR, 0, 16, 0⟩

/-- The address of TIM_PEER (12_timing_and_levee_ring). -/
def adr_TIM_PEER (n : Nat) : Nat := 0x500c0 + 0x4 * n
def TIM_PEER_VALID (n : Nat) : Fld := ⟨adr_TIM_PEER n, 31, 1, 0⟩
def TIM_PEER_ASF (n : Nat) : Fld := ⟨adr_TIM_PEER n, 30, 1, 0⟩
def TIM_PEER_ASD (n : Nat) : Fld := ⟨adr_TIM_PEER n, 29, 1, 0⟩
def TIM_PEER_BSF (n : Nat) : Fld := ⟨adr_TIM_PEER n, 28, 1, 0⟩
def TIM_PEER_BSD (n : Nat) : Fld := ⟨adr_TIM_PEER n, 27, 1, 0⟩
def TIM_PEER_CPSEL (n : Nat) : Fld := ⟨adr_TIM_PEER n, 26, 1, 0⟩
def TIM_PEER_CPREQ (n : Nat) : Fld := ⟨adr_TIM_PEER n, 22, 4, 0⟩

/-- The address of MEM_BANK_STATUS (13_memory_and_ecc). -/
def adr_MEM_BANK_STATUS (n : Nat) : Nat := 0x60000 + 0x4 * n
def MEM_BANK_STATUS_OWNER (n : Nat) : Fld := ⟨adr_MEM_BANK_STATUS n, 24, 8, 0⟩
def MEM_BANK_STATUS_RETIRED (n : Nat) : Fld := ⟨adr_MEM_BANK_STATUS n, 23, 1, 0⟩
def MEM_BANK_STATUS_RETPEND (n : Nat) : Fld := ⟨adr_MEM_BANK_STATUS n, 22, 1, 0⟩
def MEM_BANK_STATUS_CHKFAIL (n : Nat) : Fld := ⟨adr_MEM_BANK_STATUS n, 21, 1, 0⟩
def MEM_BANK_STATUS_TESTING (n : Nat) : Fld := ⟨adr_MEM_BANK_STATUS n, 20, 1, 0⟩
def MEM_BANK_STATUS_HARD (n : Nat) : Fld := ⟨adr_MEM_BANK_STATUS n, 19, 1, 0⟩
def MEM_BANK_STATUS_SPARES (n : Nat) : Fld := ⟨adr_MEM_BANK_STATUS n, 15, 4, 0⟩
def MEM_BANK_STATUS_BUCKET (n : Nat) : Fld := ⟨adr_MEM_BANK_STATUS n, 8, 7, 0⟩

/-- The address of MEM_FREE (13_memory_and_ecc). -/
def adr_MEM_FREE : Nat := 0x60400
def MEM_FREE_RETIRED : Fld := ⟨adr_MEM_FREE, 16, 8, 0⟩
def MEM_FREE_RETPEND : Fld := ⟨adr_MEM_FREE, 8, 8, 0⟩
def MEM_FREE_FREE : Fld := ⟨adr_MEM_FREE, 0, 8, 0⟩

/-- The address of MEM_CLAIM (13_memory_and_ecc). -/
def adr_MEM_CLAIM : Nat := 0x60404
def MEM_CLAIM_GO : Fld := ⟨adr_MEM_CLAIM, 31, 1, 0⟩
def MEM_CLAIM_REL : Fld := ⟨adr_MEM_CLAIM, 30, 1, 0⟩
def MEM_CLAIM_BANK : Fld := ⟨adr_MEM_CLAIM, 0, 8, 0⟩

/-- The address of MEM_CLAIMSTAT (13_memory_and_ecc). -/
def adr_MEM_CLAIMSTAT : Nat := 0x60408
def MEM_CLAIMSTAT_BUSY : Fld := ⟨adr_MEM_CLAIMSTAT, 31, 1, 0⟩
def MEM_CLAIMSTAT_RESULT : Fld := ⟨adr_MEM_CLAIMSTAT, 0, 2, 0⟩

/-- The address of MEM_ACCCTL (13_memory_and_ecc). -/
def adr_MEM_ACCCTL : Nat := 0x60410
def MEM_ACCCTL_GO : Fld := ⟨adr_MEM_ACCCTL, 31, 1, 0⟩
def MEM_ACCCTL_WRITE : Fld := ⟨adr_MEM_ACCCTL, 30, 1, 0⟩
def MEM_ACCCTL_POISON : Fld := ⟨adr_MEM_ACCCTL, 29, 1, 0⟩
def MEM_ACCCTL_BANK : Fld := ⟨adr_MEM_ACCCTL, 16, 8, 0⟩
def MEM_ACCCTL_WORD : Fld := ⟨adr_MEM_ACCCTL, 0, 16, 0⟩

/-- The address of MEM_ACCDLO (13_memory_and_ecc). -/
def adr_MEM_ACCDLO : Nat := 0x60414
def MEM_ACCDLO_DATA : Fld := ⟨adr_MEM_ACCDLO, 0, 32, 0⟩

/-- The address of MEM_ACCDHI (13_memory_and_ecc). -/
def adr_MEM_ACCDHI : Nat := 0x60418
def MEM_ACCDHI_DATA : Fld := ⟨adr_MEM_ACCDHI, 0, 32, 0⟩

/-- The address of MEM_ACCSTAT (13_memory_and_ecc). -/
def adr_MEM_ACCSTAT : Nat := 0x6041c
def MEM_ACCSTAT_BUSY : Fld := ⟨adr_MEM_ACCSTAT, 31, 1, 0⟩
def MEM_ACCSTAT_DENIED : Fld := ⟨adr_MEM_ACCSTAT, 4, 1, 0⟩
def MEM_ACCSTAT_COLL : Fld := ⟨adr_MEM_ACCSTAT, 3, 1, 0⟩
def MEM_ACCSTAT_POISON : Fld := ⟨adr_MEM_ACCSTAT, 2, 1, 0⟩
def MEM_ACCSTAT_UE : Fld := ⟨adr_MEM_ACCSTAT, 1, 1, 0⟩
def MEM_ACCSTAT_CE : Fld := ⟨adr_MEM_ACCSTAT, 0, 1, 0⟩

/-- The address of MEM_SCRUB (13_memory_and_ecc). -/
def adr_MEM_SCRUB : Nat := 0x60420
def MEM_SCRUB_EN : Fld := ⟨adr_MEM_SCRUB, 31, 1, 1⟩
def MEM_SCRUB_PERIOD : Fld := ⟨adr_MEM_SCRUB, 0, 16, 0xa⟩

/-- The address of MEM_BIST (13_memory_and_ecc). -/
def adr_MEM_BIST : Nat := 0x60424
def MEM_BIST_EN : Fld := ⟨adr_MEM_BIST, 31, 1, 1⟩
def MEM_BIST_PERIOD : Fld := ⟨adr_MEM_BIST, 0, 16, 0xa8⟩

/-- The address of MEM_COLL (13_memory_and_ecc). -/
def adr_MEM_COLL : Nat := 0x60428
def MEM_COLL_COUNT : Fld := ⟨adr_MEM_COLL, 0, 32, 0⟩

/-- The address of ECC_EVENT (13_memory_and_ecc). -/
def adr_ECC_EVENT : Nat := 0x70000
def ECC_EVENT_HOSTPOIS : Fld := ⟨adr_ECC_EVENT, 7, 1, 0⟩
def ECC_EVENT_LOGFULL : Fld := ⟨adr_ECC_EVENT, 6, 1, 0⟩
def ECC_EVENT_SELFTEST : Fld := ⟨adr_ECC_EVENT, 5, 1, 0⟩
def ECC_EVENT_RETIRE : Fld := ⟨adr_ECC_EVENT, 4, 1, 0⟩
def ECC_EVENT_REPAIR : Fld := ⟨adr_ECC_EVENT, 3, 1, 0⟩
def ECC_EVENT_HARD : Fld := ⟨adr_ECC_EVENT, 2, 1, 0⟩
def ECC_EVENT_BURST : Fld := ⟨adr_ECC_EVENT, 1, 1, 0⟩
def ECC_EVENT_UE : Fld := ⟨adr_ECC_EVENT, 0, 1, 0⟩

/-- The address of ECC_CECNT (13_memory_and_ecc). -/
def adr_ECC_CECNT : Nat := 0x70004
def ECC_CECNT_COUNT : Fld := ⟨adr_ECC_CECNT, 0, 32, 0⟩

/-- The address of ECC_UECNT (13_memory_and_ecc). -/
def adr_ECC_UECNT : Nat := 0x70008
def ECC_UECNT_COUNT : Fld := ⟨adr_ECC_UECNT, 0, 32, 0⟩

/-- The address of ECC_PCONS (13_memory_and_ecc). -/
def adr_ECC_PCONS : Nat := 0x7000c
def ECC_PCONS_LOCK : Fld := ⟨adr_ECC_PCONS, 24, 8, 0⟩
def ECC_PCONS_TSI : Fld := ⟨adr_ECC_PCONS, 16, 8, 0⟩
def ECC_PCONS_SLU : Fld := ⟨adr_ECC_PCONS, 8, 8, 0⟩
def ECC_PCONS_MGT : Fld := ⟨adr_ECC_PCONS, 0, 8, 0⟩

/-- The address of ECC_LAST (13_memory_and_ecc). -/
def adr_ECC_LAST : Nat := 0x70010
def ECC_LAST_BANK : Fld := ⟨adr_ECC_LAST, 24, 8, 0⟩
def ECC_LAST_UE : Fld := ⟨adr_ECC_LAST, 23, 1, 0⟩
def ECC_LAST_BIT : Fld := ⟨adr_ECC_LAST, 16, 7, 0⟩
def ECC_LAST_WORD : Fld := ⟨adr_ECC_LAST, 0, 16, 0⟩

/-- The address of ECC_BUCKET (13_memory_and_ecc). -/
def adr_ECC_BUCKET : Nat := 0x70014
def ECC_BUCKET_THRESH : Fld := ⟨adr_ECC_BUCKET, 24, 7, 0x10⟩
def ECC_BUCKET_LEAK : Fld := ⟨adr_ECC_BUCKET, 0, 16, 0x3e8⟩

/-- The address of ECC_INJ (13_memory_and_ecc). -/
def adr_ECC_INJ : Nat := 0x70018
def ECC_INJ_ARM : Fld := ⟨adr_ECC_INJ, 31, 1, 0⟩
def ECC_INJ_DOUBLE : Fld := ⟨adr_ECC_INJ, 30, 1, 0⟩
def ECC_INJ_BIT1 : Fld := ⟨adr_ECC_INJ, 16, 7, 0⟩
def ECC_INJ_BIT2 : Fld := ⟨adr_ECC_INJ, 8, 7, 0⟩
def ECC_INJ_BANK : Fld := ⟨adr_ECC_INJ, 0, 8, 0⟩

/-- The address of ECC_SELFTEST (13_memory_and_ecc). -/
def adr_ECC_SELFTEST : Nat := 0x7001c
def ECC_SELFTEST_DONE : Fld := ⟨adr_ECC_SELFTEST, 31, 1, 0⟩
def ECC_SELFTEST_FIXEDFAIL : Fld := ⟨adr_ECC_SELFTEST, 30, 1, 0⟩
def ECC_SELFTEST_FAILED : Fld := ⟨adr_ECC_SELFTEST, 0, 8, 0⟩

/-- The address of ECC_LOGCTL (13_memory_and_ecc). -/
def adr_ECC_LOGCTL : Nat := 0x70020
def ECC_LOGCTL_CLR : Fld := ⟨adr_ECC_LOGCTL, 31, 1, 0⟩
def ECC_LOGCTL_FULL : Fld := ⟨adr_ECC_LOGCTL, 30, 1, 0⟩
def ECC_LOGCTL_PEND : Fld := ⟨adr_ECC_LOGCTL, 29, 1, 0⟩
def ECC_LOGCTL_ENTRIES : Fld := ⟨adr_ECC_LOGCTL, 0, 9, 0⟩

/-- The address of ECC_LOGSEL (13_memory_and_ecc). -/
def adr_ECC_LOGSEL : Nat := 0x70024
def ECC_LOGSEL_ENTRY : Fld := ⟨adr_ECC_LOGSEL, 0, 8, 0⟩

/-- The address of ECC_LOGDLO (13_memory_and_ecc). -/
def adr_ECC_LOGDLO : Nat := 0x70028
def ECC_LOGDLO_TIME : Fld := ⟨adr_ECC_LOGDLO, 0, 32, 0⟩

/-- The address of ECC_LOGDHI (13_memory_and_ecc). -/
def adr_ECC_LOGDHI : Nat := 0x7002c
def ECC_LOGDHI_BANK : Fld := ⟨adr_ECC_LOGDHI, 24, 8, 0⟩
def ECC_LOGDHI_KIND : Fld := ⟨adr_ECC_LOGDHI, 22, 2, 0⟩
def ECC_LOGDHI_CAUSE : Fld := ⟨adr_ECC_LOGDHI, 18, 4, 0⟩
def ECC_LOGDHI_SECTOR : Fld := ⟨adr_ECC_LOGDHI, 14, 4, 0⟩
def ECC_LOGDHI_BIT : Fld := ⟨adr_ECC_LOGDHI, 7, 7, 0⟩

/-- The address of PWR_PD_STATUS (14_polders_and_supplies). -/
def adr_PWR_PD_STATUS (n : Nat) : Nat := 0x20000 + 0x10 * n
def PWR_PD_STATUS_STATE (n : Nat) : Fld := ⟨adr_PWR_PD_STATUS n, 30, 2, 0⟩
def PWR_PD_STATUS_GATED (n : Nat) : Fld := ⟨adr_PWR_PD_STATUS n, 29, 1, 0⟩
def PWR_PD_STATUS_NEEDED (n : Nat) : Fld := ⟨adr_PWR_PD_STATUS n, 28, 1, 0⟩
def PWR_PD_STATUS_HOLD (n : Nat) : Fld := ⟨adr_PWR_PD_STATUS n, 26, 2, 0⟩
def PWR_PD_STATUS_TARGET (n : Nat) : Fld := ⟨adr_PWR_PD_STATUS n, 24, 2, 0⟩
def PWR_PD_STATUS_WAKE (n : Nat) : Fld := ⟨adr_PWR_PD_STATUS n, 0, 16, 0⟩

/-- The address of PWR_PD_LTOL (14_polders_and_supplies). -/
def adr_PWR_PD_LTOL (n : Nat) : Nat := 0x20004 + 0x10 * n
def PWR_PD_LTOL_LTOL (n : Nat) : Fld := ⟨adr_PWR_PD_LTOL n, 0, 32, 0xffffffff⟩

/-- The address of PWR_PD_EVENT (14_polders_and_supplies). -/
def adr_PWR_PD_EVENT (n : Nat) : Nat := 0x20008 + 0x10 * n
def PWR_PD_EVENT_REPLAY (n : Nat) : Fld := ⟨adr_PWR_PD_EVENT n, 2, 1, 0⟩
def PWR_PD_EVENT_WOKE (n : Nat) : Fld := ⟨adr_PWR_PD_EVENT n, 1, 1, 0⟩
def PWR_PD_EVENT_ENTERED (n : Nat) : Fld := ⟨adr_PWR_PD_EVENT n, 0, 1, 0⟩

/-- The address of PWR_PD_WAKES (14_polders_and_supplies). -/
def adr_PWR_PD_WAKES (n : Nat) : Nat := 0x2000c + 0x10 * n
def PWR_PD_WAKES_ENTRIES (n : Nat) : Fld := ⟨adr_PWR_PD_WAKES n, 16, 16, 0⟩
def PWR_PD_WAKES_WAKES (n : Nat) : Fld := ⟨adr_PWR_PD_WAKES n, 0, 16, 0⟩

/-- The address of PWR_CTL (14_polders_and_supplies). -/
def adr_PWR_CTL : Nat := 0x20400
def PWR_CTL_WHOLD : Fld := ⟨adr_PWR_CTL, 8, 8, 0xa⟩
def PWR_CTL_DWELL : Fld := ⟨adr_PWR_CTL, 0, 8, 0xa⟩

/-- The address of PWR_SEQ (14_polders_and_supplies). -/
def adr_PWR_SEQ : Nat := 0x20404
def PWR_SEQ_CNVFIRST : Fld := ⟨adr_PWR_SEQ, 31, 1, 0⟩
def PWR_SEQ_ORDER : Fld := ⟨adr_PWR_SEQ, 30, 1, 0⟩
def PWR_SEQ_LATE : Fld := ⟨adr_PWR_SEQ, 29, 1, 0⟩
def PWR_SEQ_GOOD : Fld := ⟨adr_PWR_SEQ, 0, 6, 0⟩

/-- The address of PWR_TIMER (14_polders_and_supplies). -/
def adr_PWR_TIMER : Nat := 0x20408
def PWR_TIMER_MS : Fld := ⟨adr_PWR_TIMER, 0, 32, 0⟩

/-- The address of PWR_OFFACC (14_polders_and_supplies). -/
def adr_PWR_OFFACC : Nat := 0x2040c
def PWR_OFFACC_COUNT : Fld := ⟨adr_PWR_OFFACC, 0, 32, 0⟩

/-- The address of PWR_LASTWAKE (14_polders_and_supplies). -/
def adr_PWR_LASTWAKE : Nat := 0x20410
def PWR_LASTWAKE_SRC : Fld := ⟨adr_PWR_LASTWAKE, 24, 8, 0⟩
def PWR_LASTWAKE_POLDER : Fld := ⟨adr_PWR_LASTWAKE, 0, 6, 0⟩

/-- The address of MGT_TIME_STATUS (14_polders_and_supplies). -/
def adr_MGT_TIME_STATUS : Nat := 0x90028
def MGT_TIME_STATUS_DISCONTINUOUS : Fld := ⟨adr_MGT_TIME_STATUS, 31, 1, 0⟩
def MGT_TIME_STATUS_XOLOST : Fld := ⟨adr_MGT_TIME_STATUS, 30, 1, 0⟩
def MGT_TIME_STATUS_UCLR : Fld := ⟨adr_MGT_TIME_STATUS, 29, 1, 0⟩
def MGT_TIME_STATUS_SRC : Fld := ⟨adr_MGT_TIME_STATUS, 0, 2, 3⟩

/-- The address of MGT_TIME_UNCERT (14_polders_and_supplies). -/
def adr_MGT_TIME_UNCERT : Nat := 0x9002c
def MGT_TIME_UNCERT_UNCERT : Fld := ⟨adr_MGT_TIME_UNCERT, 0, 32, 0⟩

/-- The address of THM_STATUS (15_thermal_management). -/
def adr_THM_STATUS : Nat := 0x30000
def THM_STATUS_STEP : Fld := ⟨adr_THM_STATUS, 28, 4, 0⟩
def THM_STATUS_FLOOR : Fld := ⟨adr_THM_STATUS, 25, 3, 0⟩
def THM_STATUS_TRIP : Fld := ⟨adr_THM_STATUS, 24, 1, 0⟩
def THM_STATUS_UNANCHORED : Fld := ⟨adr_THM_STATUS, 23, 1, 0⟩
def THM_STATUS_SEEDED : Fld := ⟨adr_THM_STATUS, 22, 1, 0⟩
def THM_STATUS_WINDOW : Fld := ⟨adr_THM_STATUS, 21, 1, 0⟩
def THM_STATUS_HELD : Fld := ⟨adr_THM_STATUS, 20, 1, 0⟩
def THM_STATUS_HOTZONE : Fld := ⟨adr_THM_STATUS, 16, 4, 0⟩
def THM_STATUS_HOTTEMP : Fld := ⟨adr_THM_STATUS, 0, 11, 0⟩

/-- The address of THM_EVENT (15_thermal_management). -/
def adr_THM_EVENT : Nat := 0x30004
def THM_EVENT_REINST : Fld := ⟨adr_THM_EVENT, 7, 1, 0⟩
def THM_EVENT_UNANCH : Fld := ⟨adr_THM_EVENT, 6, 1, 0⟩
def THM_EVENT_HELD : Fld := ⟨adr_THM_EVENT, 5, 1, 0⟩
def THM_EVENT_TRIPCLR : Fld := ⟨adr_THM_EVENT, 4, 1, 0⟩
def THM_EVENT_TRIP : Fld := ⟨adr_THM_EVENT, 3, 1, 0⟩
def THM_EVENT_DIODE : Fld := ⟨adr_THM_EVENT, 2, 1, 0⟩
def THM_EVENT_DOWN : Fld := ⟨adr_THM_EVENT, 1, 1, 0⟩
def THM_EVENT_UP : Fld := ⟨adr_THM_EVENT, 0, 1, 0⟩

/-- The address of THM_ZONE (15_thermal_management). -/
def adr_THM_ZONE (n : Nat) : Nat := 0x30010 + 0x4 * n
def THM_ZONE_EST (n : Nat) : Fld := ⟨adr_THM_ZONE n, 21, 11, 0⟩
def THM_ZONE_GUARD (n : Nat) : Fld := ⟨adr_THM_ZONE n, 20, 1, 0⟩
def THM_ZONE_PWR (n : Nat) : Fld := ⟨adr_THM_ZONE n, 0, 16, 0⟩

/-- The address of THM_DIODE (15_thermal_management). -/
def adr_THM_DIODE (n : Nat) : Nat := 0x30050 + 0x4 * n
def THM_DIODE_READ (n : Nat) : Fld := ⟨adr_THM_DIODE n, 21, 11, 0⟩
def THM_DIODE_STATE (n : Nat) : Fld := ⟨adr_THM_DIODE n, 18, 3, 0⟩
def THM_DIODE_CORR (n : Nat) : Fld := ⟨adr_THM_DIODE n, 10, 8, 0⟩

/-- The address of THM_CTL (15_thermal_management). -/
def adr_THM_CTL : Nat := 0x30080
def THM_CTL_TSTEP : Fld := ⟨adr_THM_CTL, 24, 8, 0x64⟩
def THM_CTL_HYST : Fld := ⟨adr_THM_CTL, 20, 4, 5⟩
def THM_CTL_GUARD : Fld := ⟨adr_THM_CTL, 16, 4, 4⟩

/-- The address of THM_PWR (15_thermal_management). -/
def adr_THM_PWR : Nat := 0x30084
def THM_PWR_PTOT : Fld := ⟨adr_THM_PWR, 16, 16, 0⟩
def THM_PWR_PLIM : Fld := ⟨adr_THM_PWR, 0, 16, 0x410⟩

/-- The address of THM_DWELL (15_thermal_management). -/
def adr_THM_DWELL : Nat := 0x30088
def THM_DWELL_RELDWELL : Fld := ⟨adr_THM_DWELL, 16, 16, 0x3e8⟩
def THM_DWELL_ENTDWELL : Fld := ⟨adr_THM_DWELL, 0, 16, 0x64⟩

/-- The address of THM_DIODECTL (15_thermal_management). -/
def adr_THM_DIODECTL : Nat := 0x3008c
def THM_DIODECTL_REINSTATE : Fld := ⟨adr_THM_DIODECTL, 0, 12, 0⟩

/-- The address of THM_COUNT (15_thermal_management). -/
def adr_THM_COUNT : Nat := 0x30090
def THM_COUNT_ENTRIES : Fld := ⟨adr_THM_COUNT, 16, 16, 0⟩
def THM_COUNT_TRIPS : Fld := ⟨adr_THM_COUNT, 0, 16, 0⟩

/-- The address of GLB_STATUS (16_reset_and_bring_up). -/
def adr_GLB_STATUS : Nat := 0x4
def GLB_STATUS_READY : Fld := ⟨adr_GLB_STATUS, 31, 1, 0⟩
def GLB_STATUS_LIMITED : Fld := ⟨adr_GLB_STATUS, 30, 1, 0⟩
def GLB_STATUS_DEBUG : Fld := ⟨adr_GLB_STATUS, 29, 1, 0⟩
def GLB_STATUS_BOOT : Fld := ⟨adr_GLB_STATUS, 26, 3, 0⟩

/-- The address of GLB_CTL (16_reset_and_bring_up). -/
def adr_GLB_CTL : Nat := 0x8
def GLB_CTL_RELEASE : Fld := ⟨adr_GLB_CTL, 0, 1, 0⟩

/-- The address of RST_STATUS (16_reset_and_bring_up). -/
def adr_RST_STATUS : Nat := 0x10000
def RST_STATUS_CAUSE : Fld := ⟨adr_RST_STATUS, 28, 4, 0⟩
def RST_STATUS_FALLBACK : Fld := ⟨adr_RST_STATUS, 27, 1, 0⟩
def RST_STATUS_TRIM_VALID : Fld := ⟨adr_RST_STATUS, 26, 1, 0⟩
def RST_STATUS_TRIMERR : Fld := ⟨adr_RST_STATUS, 25, 1, 0⟩
def RST_STATUS_NOXO : Fld := ⟨adr_RST_STATUS, 24, 1, 0⟩
def RST_STATUS_WARMPROMOTED : Fld := ⟨adr_RST_STATUS, 23, 1, 0⟩

/-- The address of RST_CTL (16_reset_and_bring_up). -/
def adr_RST_CTL : Nat := 0x10004
def RST_CTL_KEY : Fld := ⟨adr_RST_CTL, 16, 16, 0⟩
def RST_CTL_REQ : Fld := ⟨adr_RST_CTL, 0, 2, 0⟩

/-- The address of RST_STRAP (16_reset_and_bring_up). -/
def adr_RST_STRAP : Nat := 0x10008
def RST_STRAP_FORCED : Fld := ⟨adr_RST_STRAP, 4, 1, 0⟩
def RST_STRAP_CLK_MODE : Fld := ⟨adr_RST_STRAP, 2, 2, 0⟩
def RST_STRAP_BOOT_SRC : Fld := ⟨adr_RST_STRAP, 0, 2, 0⟩

/-- The address of RST_TRIM (16_reset_and_bring_up). -/
def adr_RST_TRIM : Nat := 0x1000c
def RST_TRIM_FAILREC : Fld := ⟨adr_RST_TRIM, 24, 8, 0⟩
def RST_TRIM_PASSES : Fld := ⟨adr_RST_TRIM, 16, 8, 0⟩
def RST_TRIM_RECORDS : Fld := ⟨adr_RST_TRIM, 0, 9, 0⟩

/-- The address of RST_CRIT (16_reset_and_bring_up). -/
def adr_RST_CRIT : Nat := 0x10010
def RST_CRIT_UNIT : Fld := ⟨adr_RST_CRIT, 28, 4, 0⟩
def RST_CRIT_KEPT : Fld := ⟨adr_RST_CRIT, 27, 1, 0⟩
def RST_CRIT_DBL : Fld := ⟨adr_RST_CRIT, 26, 1, 0⟩

/-- The address of RST_COUNT (16_reset_and_bring_up). -/
def adr_RST_COUNT : Nat := 0x10014
def RST_COUNT_WARM : Fld := ⟨adr_RST_COUNT, 24, 8, 0⟩
def RST_COUNT_COLD : Fld := ⟨adr_RST_COUNT, 16, 8, 0⟩
def RST_COUNT_CRIT : Fld := ⟨adr_RST_COUNT, 8, 8, 0⟩

/-- The address of HKA_CTL (17_housekeeping_adc). -/
def adr_HKA_CTL : Nat := 0x40000
def HKA_CTL_EN : Fld := ⟨adr_HKA_CTL, 31, 1, 0⟩
def HKA_CTL_MODE : Fld := ⟨adr_HKA_CTL, 30, 1, 0⟩
def HKA_CTL_GO : Fld := ⟨adr_HKA_CTL, 29, 1, 0⟩
def HKA_CTL_PRESET : Fld := ⟨adr_HKA_CTL, 24, 3, 2⟩
def HKA_CTL_AVG : Fld := ⟨adr_HKA_CTL, 20, 4, 4⟩
def HKA_CTL_SHIFT : Fld := ⟨adr_HKA_CTL, 16, 4, 4⟩
def HKA_CTL_CHAN : Fld := ⟨adr_HKA_CTL, 0, 5, 0⟩

/-- The address of HKA_SCAN (17_housekeeping_adc). -/
def adr_HKA_SCAN : Nat := 0x40004
def HKA_SCAN_MASK : Fld := ⟨adr_HKA_SCAN, 0, 25, 0⟩

/-- The address of HKA_STATUS (17_housekeeping_adc). -/
def adr_HKA_STATUS : Nat := 0x40008
def HKA_STATUS_BUSY : Fld := ⟨adr_HKA_STATUS, 31, 1, 0⟩
def HKA_STATUS_SETTLING : Fld := ⟨adr_HKA_STATUS, 30, 1, 0⟩
def HKA_STATUS_NOCLK : Fld := ⟨adr_HKA_STATUS, 29, 1, 0⟩
def HKA_STATUS_CUR : Fld := ⟨adr_HKA_STATUS, 0, 5, 0⟩

/-- The address of HKA_DATA (17_housekeeping_adc). -/
def adr_HKA_DATA : Nat := 0x4000c
def HKA_DATA_VALID : Fld := ⟨adr_HKA_DATA, 31, 1, 0⟩
def HKA_DATA_CHAN : Fld := ⟨adr_HKA_DATA, 24, 5, 0⟩
def HKA_DATA_RESULT : Fld := ⟨adr_HKA_DATA, 0, 24, 0⟩

/-- The address of HKA_EVENT (17_housekeeping_adc). -/
def adr_HKA_EVENT : Nat := 0x40010
def HKA_EVENT_BADCH : Fld := ⟨adr_HKA_EVENT, 7, 1, 0⟩
def HKA_EVENT_NOCLK : Fld := ⟨adr_HKA_EVENT, 6, 1, 0⟩
def HKA_EVENT_OVR : Fld := ⟨adr_HKA_EVENT, 5, 1, 0⟩
def HKA_EVENT_DONE : Fld := ⟨adr_HKA_EVENT, 4, 1, 0⟩
def HKA_EVENT_ALARM : Fld := ⟨adr_HKA_EVENT, 0, 4, 0⟩

/-- The address of HKA_ALM (17_housekeeping_adc). -/
def adr_HKA_ALM (n : Nat) : Nat := 0x40020 + 0x8 * n
def HKA_ALM_EN (n : Nat) : Fld := ⟨adr_HKA_ALM n, 31, 1, 0⟩
def HKA_ALM_CHAN (n : Nat) : Fld := ⟨adr_HKA_ALM n, 8, 5, 0⟩
def HKA_ALM_PERSIST (n : Nat) : Fld := ⟨adr_HKA_ALM n, 0, 8, 0⟩

/-- The address of HKA_ALMLIM (17_housekeeping_adc). -/
def adr_HKA_ALMLIM (n : Nat) : Nat := 0x40024 + 0x8 * n
def HKA_ALMLIM_HIGH (n : Nat) : Fld := ⟨adr_HKA_ALMLIM n, 16, 16, 0xffff⟩
def HKA_ALMLIM_LOW (n : Nat) : Fld := ⟨adr_HKA_ALMLIM n, 0, 16, 0⟩

/-- The address of HKA_RES (17_housekeeping_adc). -/
def adr_HKA_RES (n : Nat) : Nat := 0x40040 + 0x4 * n
def HKA_RES_FRESH (n : Nat) : Fld := ⟨adr_HKA_RES n, 31, 1, 0⟩
def HKA_RES_MEAN (n : Nat) : Fld := ⟨adr_HKA_RES n, 0, 16, 0⟩

/-- The address of GLB_INT (18_management_interfaces). -/
def adr_GLB_INT : Nat := 0x10
def GLB_INT_DROP : Fld := ⟨adr_GLB_INT, 3, 1, 0⟩
def GLB_INT_MBX : Fld := ⟨adr_GLB_INT, 2, 1, 0⟩
def GLB_INT_EVTHR : Fld := ⟨adr_GLB_INT, 1, 1, 0⟩
def GLB_INT_EVQ : Fld := ⟨adr_GLB_INT, 0, 1, 0⟩

/-- The address of GLB_INTEN (18_management_interfaces). -/
def adr_GLB_INTEN : Nat := 0x14
def GLB_INTEN_DROP : Fld := ⟨adr_GLB_INTEN, 3, 1, 0⟩
def GLB_INTEN_MBX : Fld := ⟨adr_GLB_INTEN, 2, 1, 0⟩
def GLB_INTEN_EVTHR : Fld := ⟨adr_GLB_INTEN, 1, 1, 0⟩
def GLB_INTEN_EVQ : Fld := ⟨adr_GLB_INTEN, 0, 1, 0⟩

/-- The address of GLB_I2CADDR (18_management_interfaces). -/
def adr_GLB_I2CADDR : Nat := 0x18
def GLB_I2CADDR_ADDR : Fld := ⟨adr_GLB_I2CADDR, 0, 7, 0x5c⟩

/-- The address of GLB_OPTCTL (18_management_interfaces). -/
def adr_GLB_OPTCTL : Nat := 0x30
def GLB_OPTCTL_LSRA : Fld := ⟨adr_GLB_OPTCTL, 31, 1, 0⟩
def GLB_OPTCTL_MUTEA : Fld := ⟨adr_GLB_OPTCTL, 30, 1, 1⟩
def GLB_OPTCTL_LSRB : Fld := ⟨adr_GLB_OPTCTL, 29, 1, 0⟩
def GLB_OPTCTL_MUTEB : Fld := ⟨adr_GLB_OPTCTL, 28, 1, 1⟩
def GLB_OPTCTL_PINS : Fld := ⟨adr_GLB_OPTCTL, 24, 4, 5⟩
def GLB_OPTCTL_SEQA : Fld := ⟨adr_GLB_OPTCTL, 8, 6, 0⟩
def GLB_OPTCTL_SEQB : Fld := ⟨adr_GLB_OPTCTL, 0, 6, 0⟩

/-- The address of GLB_BOOTERR (18_management_interfaces). -/
def adr_GLB_BOOTERR : Nat := 0x34
def GLB_BOOTERR_CAUSE : Fld := ⟨adr_GLB_BOOTERR, 28, 4, 0⟩
def GLB_BOOTERR_BANK : Fld := ⟨adr_GLB_BOOTERR, 26, 2, 0⟩

/-- The address of MGT_MBXIN (18_management_interfaces). -/
def adr_MGT_MBXIN (n : Nat) : Nat := 0x90100 + 0x4 * n
def MGT_MBXIN_DATA (n : Nat) : Fld := ⟨adr_MGT_MBXIN n, 0, 32, 0⟩

/-- The address of MGT_MBXOUT (18_management_interfaces). -/
def adr_MGT_MBXOUT (n : Nat) : Nat := 0x90140 + 0x4 * n
def MGT_MBXOUT_DATA (n : Nat) : Fld := ⟨adr_MGT_MBXOUT n, 0, 32, 0⟩

/-- The address of MGT_EVQ_REC (18_management_interfaces). -/
def adr_MGT_EVQ_REC (n : Nat) : Nat := 0x90200 + 0x4 * n
def MGT_EVQ_REC_DATA (n : Nat) : Fld := ⟨adr_MGT_EVQ_REC n, 0, 32, 0⟩

/-- The address of MGT_MBXCTL (18_management_interfaces). -/
def adr_MGT_MBXCTL : Nat := 0x90180
def MGT_MBXCTL_POST : Fld := ⟨adr_MGT_MBXCTL, 31, 1, 0⟩
def MGT_MBXCTL_ACK : Fld := ⟨adr_MGT_MBXCTL, 30, 1, 0⟩

/-- The address of MGT_MBXSTAT (18_management_interfaces). -/
def adr_MGT_MBXSTAT : Nat := 0x90184
def MGT_MBXSTAT_RESP : Fld := ⟨adr_MGT_MBXSTAT, 31, 1, 0⟩
def MGT_MBXSTAT_RESULT : Fld := ⟨adr_MGT_MBXSTAT, 16, 8, 0⟩
def MGT_MBXSTAT_DEPTH : Fld := ⟨adr_MGT_MBXSTAT, 0, 5, 0⟩

/-- The address of MGT_EVQ_STAT (18_management_interfaces). -/
def adr_MGT_EVQ_STAT : Nat := 0x90210
def MGT_EVQ_STAT_DROP : Fld := ⟨adr_MGT_EVQ_STAT, 16, 16, 0⟩
def MGT_EVQ_STAT_COUNT : Fld := ⟨adr_MGT_EVQ_STAT, 0, 13, 0⟩

/-- The address of MGT_EVQ_CTL (18_management_interfaces). -/
def adr_MGT_EVQ_CTL : Nat := 0x90214
def MGT_EVQ_CTL_POP : Fld := ⟨adr_MGT_EVQ_CTL, 0, 1, 0⟩

/-- The address of PMC_CNTLO (19_performance_counters). -/
def adr_PMC_CNTLO (n : Nat) : Nat := 0xa0000 + 0x10 * n
def PMC_CNTLO_COUNT (n : Nat) : Fld := ⟨adr_PMC_CNTLO n, 0, 32, 0⟩

/-- The address of PMC_CNTHI (19_performance_counters). -/
def adr_PMC_CNTHI (n : Nat) : Nat := 0xa0004 + 0x10 * n
def PMC_CNTHI_COUNT (n : Nat) : Fld := ⟨adr_PMC_CNTHI n, 0, 16, 0⟩

/-- The address of PMC_SEL (19_performance_counters). -/
def adr_PMC_SEL (n : Nat) : Nat := 0xa0008 + 0x10 * n
def PMC_SEL_EN (n : Nat) : Fld := ⟨adr_PMC_SEL n, 31, 1, 0⟩
def PMC_SEL_MODE (n : Nat) : Fld := ⟨adr_PMC_SEL n, 30, 1, 0⟩
def PMC_SEL_CLR (n : Nat) : Fld := ⟨adr_PMC_SEL n, 29, 1, 0⟩
def PMC_SEL_SIG (n : Nat) : Fld := ⟨adr_PMC_SEL n, 16, 8, 0⟩
def PMC_SEL_INST (n : Nat) : Fld := ⟨adr_PMC_SEL n, 0, 5, 0⟩

/-- The address of PMC_CTL (19_performance_counters). -/
def adr_PMC_CTL : Nat := 0xa0400
def PMC_CTL_RUN : Fld := ⟨adr_PMC_CTL, 31, 1, 0⟩
def PMC_CTL_FREEZE : Fld := ⟨adr_PMC_CTL, 30, 1, 0⟩
def PMC_CTL_CLRALL : Fld := ⟨adr_PMC_CTL, 29, 1, 0⟩

/-- The address of PMC_OVFLO (19_performance_counters). -/
def adr_PMC_OVFLO : Nat := 0xa0404
def PMC_OVFLO_OVF : Fld := ⟨adr_PMC_OVFLO, 0, 32, 0⟩

/-- The address of PMC_OVFHI (19_performance_counters). -/
def adr_PMC_OVFHI : Nat := 0xa0408
def PMC_OVFHI_OVF : Fld := ⟨adr_PMC_OVFHI, 0, 32, 0⟩

/-- The address of PMC_ACCESS (19_performance_counters). -/
def adr_PMC_ACCESS : Nat := 0xa0410
def PMC_ACCESS_WR : Fld := ⟨adr_PMC_ACCESS, 4, 4, 0⟩
def PMC_ACCESS_RD : Fld := ⟨adr_PMC_ACCESS, 0, 4, 0⟩

/-- The address of GLB_SCRATCH (20_register_summary). -/
def adr_GLB_SCRATCH : Nat := 0xc
def GLB_SCRATCH_DATA : Fld := ⟨adr_GLB_SCRATCH, 0, 32, 0⟩

/-- The address of HLN_GRP_CORRLO (04_host_lanes). -/
def adr_HLN_GRP_CORRLO (n : Nat) : Nat := 0x10100c + 0x20 * n
def HLN_GRP_CORRLO_COUNT (n : Nat) : Fld := ⟨adr_HLN_GRP_CORRLO n, 0, 32, 0⟩

/-- The address of HLN_GRP_CORRHI (04_host_lanes). -/
def adr_HLN_GRP_CORRHI (n : Nat) : Nat := 0x101010 + 0x20 * n
def HLN_GRP_CORRHI_COUNT (n : Nat) : Fld := ⟨adr_HLN_GRP_CORRHI n, 0, 16, 0⟩

/-- The address of HLN_GRP_UNCLO (04_host_lanes). -/
def adr_HLN_GRP_UNCLO (n : Nat) : Nat := 0x101014 + 0x20 * n
def HLN_GRP_UNCLO_COUNT (n : Nat) : Fld := ⟨adr_HLN_GRP_UNCLO n, 0, 32, 0⟩

/-- The address of HLN_GRP_UNCHI (04_host_lanes). -/
def adr_HLN_GRP_UNCHI (n : Nat) : Nat := 0x101018 + 0x20 * n
def HLN_GRP_UNCHI_COUNT (n : Nat) : Fld := ⟨adr_HLN_GRP_UNCHI n, 0, 16, 0⟩

/-- The address of FRM_C_EFLO (07_line_framing). -/
def adr_FRM_C_EFLO (n : Nat) : Nat := 0x1c0010 + 0x100 * n
def FRM_C_EFLO_COUNT (n : Nat) : Fld := ⟨adr_FRM_C_EFLO n, 0, 32, 0⟩

/-- The address of FRM_C_EFHI (07_line_framing). -/
def adr_FRM_C_EFHI (n : Nat) : Nat := 0x1c0014 + 0x100 * n
def FRM_C_EFHI_COUNT (n : Nat) : Fld := ⟨adr_FRM_C_EFHI n, 0, 16, 0⟩

/-- The address of FEC_C_C1LO (08_forward_error_correction). -/
def adr_FEC_C_C1LO (n : Nat) : Nat := 0x200008 + 0x100 * n
def FEC_C_C1LO_COUNT (n : Nat) : Fld := ⟨adr_FEC_C_C1LO n, 0, 32, 0⟩

/-- The address of FEC_C_C1HI (08_forward_error_correction). -/
def adr_FEC_C_C1HI (n : Nat) : Nat := 0x20000c + 0x100 * n
def FEC_C_C1HI_COUNT (n : Nat) : Fld := ⟨adr_FEC_C_C1HI n, 0, 16, 0⟩

/-- The address of FEC_C_C0LO (08_forward_error_correction). -/
def adr_FEC_C_C0LO (n : Nat) : Nat := 0x200010 + 0x100 * n
def FEC_C_C0LO_COUNT (n : Nat) : Fld := ⟨adr_FEC_C_C0LO n, 0, 32, 0⟩

/-- The address of FEC_C_C0HI (08_forward_error_correction). -/
def adr_FEC_C_C0HI (n : Nat) : Nat := 0x200014 + 0x100 * n
def FEC_C_C0HI_COUNT (n : Nat) : Fld := ⟨adr_FEC_C_C0HI n, 0, 16, 0⟩

/-- The address of FEC_C_BLKLO (08_forward_error_correction). -/
def adr_FEC_C_BLKLO (n : Nat) : Nat := 0x200018 + 0x100 * n
def FEC_C_BLKLO_COUNT (n : Nat) : Fld := ⟨adr_FEC_C_BLKLO n, 0, 32, 0⟩

/-- The address of FEC_C_BLKHI (08_forward_error_correction). -/
def adr_FEC_C_BLKHI (n : Nat) : Nat := 0x20001c + 0x100 * n
def FEC_C_BLKHI_COUNT (n : Nat) : Fld := ⟨adr_FEC_C_BLKHI n, 0, 16, 0⟩

/-- The address of FEC_C_UNCLO (08_forward_error_correction). -/
def adr_FEC_C_UNCLO (n : Nat) : Nat := 0x200020 + 0x100 * n
def FEC_C_UNCLO_COUNT (n : Nat) : Fld := ⟨adr_FEC_C_UNCLO n, 0, 32, 0⟩

/-- The address of FEC_C_UNCHI (08_forward_error_correction). -/
def adr_FEC_C_UNCHI (n : Nat) : Nat := 0x200024 + 0x100 * n
def FEC_C_UNCHI_COUNT (n : Nat) : Fld := ⟨adr_FEC_C_UNCHI n, 0, 16, 0⟩

/-- The address of FEC_C_CUTLO (08_forward_error_correction). -/
def adr_FEC_C_CUTLO (n : Nat) : Nat := 0x200028 + 0x100 * n
def FEC_C_CUTLO_COUNT (n : Nat) : Fld := ⟨adr_FEC_C_CUTLO n, 0, 32, 0⟩

/-- The address of FEC_C_CUTHI (08_forward_error_correction). -/
def adr_FEC_C_CUTHI (n : Nat) : Nat := 0x20002c + 0x100 * n
def FEC_C_CUTHI_COUNT (n : Nat) : Fld := ⟨adr_FEC_C_CUTHI n, 0, 16, 0⟩

/-- The address of MGT_TIMELO (14_polders_and_supplies). -/
def adr_MGT_TIMELO : Nat := 0x90020
def MGT_TIMELO_TIME : Fld := ⟨adr_MGT_TIMELO, 0, 32, 0⟩

/-- The address of MGT_TIMEHI (14_polders_and_supplies). -/
def adr_MGT_TIMEHI : Nat := 0x90024
def MGT_TIMEHI_TIME : Fld := ⟨adr_MGT_TIMEHI, 0, 32, 0⟩

end Sys2Proof.Machine.Reg
end

