-- ==== Sys2Proof/Machine/State.lean ====
section
/-! DEFINITION. The state of the block as plain data, why a step stops, and the state right after reset. -/

namespace Sys2Proof.Machine

/-- The frame clock (R240, R401): whether it has started, superframe number and frame number of the next frame, and whether the
superframe boundary before it has been taken. -/
structure FrameClock where
  runs : Bool := false
  sfn : Nat := 0
  fnum : Nat := 0
  boundaryDone : Bool := false
deriving DecidableEq, Repr

/-- Everything the spec gives the block. Register fields stand in `flds` (each at its reset value until written);
the other fields hold what no register shows. -/
structure State where
  /-- Commands waiting, first in, first out. -/
  pending : List Instr := []
  /-- Fuses: the part is a DRU4812-B0-X (R1, R2). -/
  gradeX : Bool := false
  /-- Register fields that have been written, by key. -/
  flds : List (Nat × Nat) := []
  /-- Upper words captured by a read of the lower word (R5), by the upper address. -/
  shadow : List (Nat × Nat) := []
  mem : Mem := {}
  evq : Evq := {}
  clk : Clocks := {}
  polders : List (Nat × Polder) := []
  rails : Rails := {}
  rst : ResetCtl := {}
  mtp : Mtp := {}
  cip : Cipher := {}
  carA : Carrier := {}
  carB : Carrier := {}
  frameClk : FrameClock := {}
  pairProt : Protect := {}
  /-- Tributaries by 2 × index + direction (0 transmit, 1 receive). -/
  tribs : List (Nat × Trib) := []
  /-- Bound seal policies, by index: descriptor words (R70). -/
  policies : List (Nat × List Nat) := []
  /-- The reference set in force: descriptor words (R71). -/
  refset : Option (List Nat) := none
  /-- Polder descriptors applied by POWER, by polder (R73, R458). -/
  powerDescs : List (Nat × List Nat) := []
  /-- The latest refusal code of each object, by handle (R61). -/
  refusals : List (Nat × Nat) := []
  lanes : List (Nat × Lane) := []
  groups : List (Nat × Group) := []
  poolA : Pool := {}
  poolB : Pool := {}
  engines : List (Nat × Engine) := []
  mgt : Core := {}
  thm : Thermal := {}
  adc : Adc := {}
  ports : Ports := {}
  lineA : Line := {}
  lineB : Line := {}
  acqA : Acq := {}
  acqB : Acq := {}
  cnv : Cnv := {}
  tim : Tim := {}
  /-- The model's own counter: which free value comes next (log entry 3). -/
  freeN : Nat := 0
deriving DecidableEq, Repr

/-- Why the block stops with a fault. -/
inductive Fault where
  /-- A command whose operand cannot occur: a list of the wrong length or a number outside the range of its place
  (WellFormed). Raised by the meanings that take such an operand. Safe: no effect is claimed for it. -/
  | illFormed
deriving DecidableEq, Repr

/-- Why a command has no meaning here. -/
inductive Refusal where
  /-- The command has no meaning in this model yet. Raised by its arm in Dispatch. Safe. -/
  | notModelled (mnemonic : String)
deriving DecidableEq, Repr

/-- What a meaning answers. -/
abbrev Outcome := Host.Outcome State Fault Refusal

/-- The field values at power-on reset that differ from the reset value of their own entry in the register tables:
HOLD 1 of AON, MGT, SLU and MEM23 (R457) and the fixed owners of banks 187 to 191 (R27, R445). -/
def resetFields : List (Nat × Nat) :=
  [((Reg.PWR_PD_STATUS_HOLD 0).key, 1), ((Reg.PWR_PD_STATUS_HOLD 1).key, 1),
   ((Reg.PWR_PD_STATUS_HOLD 2).key, 1), ((Reg.PWR_PD_STATUS_HOLD 39).key, 1),
   ((Reg.MEM_BANK_STATUS_OWNER 187).key, 2), ((Reg.MEM_BANK_STATUS_OWNER 188).key, 1),
   ((Reg.MEM_BANK_STATUS_OWNER 189).key, 1), ((Reg.MEM_BANK_STATUS_OWNER 190).key, 1),
   ((Reg.MEM_BANK_STATUS_OWNER 191).key, 1)]

/-- The block right after power-on reset of a part as supplied (R492, R494, R611): every register at its power-on
value, READY 0, no command waiting. -/
def State.reset : State := { flds := resetFields }

end Sys2Proof.Machine
end

