-- ==== Sys2Proof/Machine/Ops.lean ====
section
/-! DEFINITION. The named operations over registers, objects, engines and events that every meaning uses. -/

namespace Sys2Proof.Machine

open Reg

/-! ## Register fields -/

/-- The value of a field: what was last put there, or its reset value (R8, R11). -/
def State.get (s : State) (f : Fld) : Nat := Assoc.get f.rst f.key s.flds

/-- Put a value into a field, reduced to the field's width (R4). -/
def State.set (s : State) (f : Fld) (v : Nat) : State :=
  { s with flds := Assoc.put f.key (v % 2 ^ f.width) s.flds }

/-- A one-bit field reads 1. -/
def State.on (s : State) (f : Fld) : Bool := s.get f == 1

/-- Put a bit into a one-bit field. -/
def State.setB (s : State) (f : Fld) (b : Bool) : State := s.set f b.toNat

/-- Put a signed value into a field, in two's complement. -/
def State.setI (s : State) (f : Fld) (i : Int) : State := s.set f (encSigned f.width i)

/-- A field read as two's complement. -/
def State.getI (s : State) (f : Fld) : Int := signedOf f.width (s.get f)

/-- Put into a field what a register write carries at the field's place (R4). -/
def State.wr (s : State) (v : Nat) (f : Fld) : State := s.set f (fieldOf v f.lo f.width)

/-- Write several fields of one register from a written word. -/
def State.wrs (s : State) (v : Nat) (l : List Fld) : State := l.foldl (fun s f => s.wr v f) s

/-- What a written word carries for a field. -/
def Fld.of (f : Fld) (v : Nat) : Nat := fieldOf v f.lo f.width

/-- Set bit `i` of a field. -/
def State.setBit (s : State) (f : Fld) (i : Nat) : State := s.set f (setBitN (s.get f) i)

/-- Clear bit `i` of a field. -/
def State.clrBit (s : State) (f : Fld) (i : Nat) : State := s.set f (clrBitN (s.get f) i)

/-- Bit `i` of a field. -/
def State.bit (s : State) (f : Fld) (i : Nat) : Bool := bitOf (s.get f) i == 1

/-- Add to a saturating count. -/
def State.bump (s : State) (f : Fld) (n : Nat) : State := s.set f (satAdd f.width (s.get f) n)

/-- Add to a count held in two registers that wraps at 2^48 (R139, R140, R267, R300). -/
def State.bump48 (s : State) (lo hi : Fld) (n : Nat) : State :=
  let v := (s.get hi * 2 ^ 32 + s.get lo + n) % 2 ^ 48
  (s.set lo (v % 2 ^ 32)).set hi (v / 2 ^ 32)

/-- Set several fields to 0. -/
def State.zero (s : State) (l : List Fld) : State := l.foldl (fun s f => s.set f 0) s

/-- READY is set: the device answers (R499). -/
def State.ready (s : State) : Bool := s.on GLB_STATUS_READY

/-! ## Polders -/

/-- A polder beside its registers. -/
def State.pd (s : State) (n : Nat) : Polder := Assoc.get {} n s.polders

/-- Replace a polder. -/
def State.setPd (s : State) (n : Nat) (p : Polder) : State := { s with polders := Assoc.put n p s.polders }

/-- A polder is fully on (R452); HLN0 to HLN3 are held as off while VSRD is below its good level (R507). -/
def State.pdOn (s : State) (n : Nat) : Bool :=
  (s.pd n).st == .on && !(decide (9 ≤ n ∧ n ≤ 12) && !(s.rails.good.contains 1))

/-- The quad of a host lane (R12). -/
def quadOf (lane : Nat) : Nat := lane / 7

/-- The quad's polder (R53). -/
def hlnPolder (lane : Nat) : Nat := 9 + quadOf lane

/-- The polder of a bank (R12, R53). -/
def memPolder (bank : Nat) : Nat := 16 + bank / 8

/-- The polders any of which serves an address (R454): the program-store window follows MEM23, and the global registers of
CNV and ACQ either LINE polder. -/
def polderOfAddr (a : Nat) : List Nat :=
  let b := a / 0x10000
  if 0x100 ≤ b ∧ b < 0x120 then [39]
  else if b < 8 then [0]
  else if b = 8 then [2]
  else if b < 12 then [1]
  else if 0x10 ≤ b ∧ b < 0x14 then
    (if a < 0x100700 then [hlnPolder ((a - 0x100000) / 0x40)] else [7])
  else if 0x14 ≤ b ∧ b < 0x18 then [7]
  else if 0x18 ≤ b ∧ b < 0x1C then [8]
  else if 0x1C ≤ b ∧ b < 0x20 then [6]
  else if 0x20 ≤ b ∧ b < 0x24 then [5]
  else if 0x24 ≤ b ∧ b < 0x28 then [3]
  else if 0x28 ≤ b ∧ b < 0x2C then [4]
  else if 0x2C ≤ b ∧ b < 0x34 then
    (let o := a % 0x40000
     if o < 0x100 then [3] else if o < 0x200 then [4] else [3, 4])
  else [0]

/-- The polder of a register is on, so that the register answers (R454). -/
def State.regOn (s : State) (a : Nat) : Bool := (polderOfAddr a).any s.pdOn

/-- An access to a register whose polder is not on counts in PWR_OFFACC (R454). -/
def State.offAccess (s : State) : State := s.bump PWR_OFFACC_COUNT 1

/-- The effect of a register write that reaches its register: after READY (R499), and only while the polder is on
(R454). -/
def State.gated (s : State) (a : Nat) (f : State → State) : State :=
  if s.ready then (if s.regOn a then f s else s.offAccess) else s

/-- The management core's polder is on. -/
def State.mgtOn (s : State) : Bool := s.pdOn 1

/-- The management core serves its queues: not in debug halt (R505). -/
def State.mgtServes (s : State) : Bool := s.mgtOn && !s.on GLB_STATUS_DEBUG

/-! ## Carriers, tributaries, engines, lanes -/

/-- A carrier (R12: A is 0). -/
def State.car (s : State) (c : Nat) : Carrier := if c = 0 then s.carA else s.carB

/-- Replace a carrier. -/
def State.setCar (s : State) (c : Nat) (x : Carrier) : State :=
  if c = 0 then { s with carA := x } else { s with carB := x }

/-- Replace the transmit side of a carrier. -/
def State.setCarTx (s : State) (c : Nat) (x : CarTx) : State := s.setCar c { s.car c with tx := x }

/-- Replace the receive side of a carrier. -/
def State.setCarRx (s : State) (c : Nat) (x : CarRx) : State := s.setCar c { s.car c with rx := x }

/-- A directional tributary: direction 0 transmit, 1 receive. -/
def State.trib (s : State) (d n : Nat) : Trib := Assoc.get {} (2 * n + d) s.tribs

/-- Replace a directional tributary. -/
def State.setTrib (s : State) (d n : Nat) (t : Trib) : State := { s with tribs := Assoc.put (2 * n + d) t s.tribs }

/-- Replace the transmit side of a tributary. -/
def State.setTribTx (s : State) (n : Nat) (x : TribTx) : State := s.setTrib 0 n { s.trib 0 n with tx := x }

/-- Replace the receive side of a tributary. -/
def State.setTribRx (s : State) (n : Nat) (x : TribRx) : State := s.setTrib 1 n { s.trib 1 n with rx := x }

/-- A decoder pool. -/
def State.pool (s : State) (c : Nat) : Pool := if c = 0 then s.poolA else s.poolB

/-- Replace a decoder pool. -/
def State.setPool (s : State) (c : Nat) (p : Pool) : State := if c = 0 then { s with poolA := p } else { s with poolB := p }

/-- The signal processing of a carrier. -/
def State.line (s : State) (c : Nat) : Line := if c = 0 then s.lineA else s.lineB

/-- Replace the signal processing of a carrier. -/
def State.setLine (s : State) (c : Nat) (p : Line) : State := if c = 0 then { s with lineA := p } else { s with lineB := p }

/-- Acquisition of a carrier. -/
def State.acq (s : State) (c : Nat) : Acq := if c = 0 then s.acqA else s.acqB

/-- Replace acquisition of a carrier. -/
def State.setAcq (s : State) (c : Nat) (p : Acq) : State := if c = 0 then { s with acqA := p } else { s with acqB := p }

/-- An engine. -/
def State.eng (s : State) (e : Nat) : Engine := Assoc.get {} e s.engines

/-- Replace an engine. -/
def State.setEng (s : State) (e : Nat) (x : Engine) : State := { s with engines := Assoc.put e x s.engines }

/-- The state code of an engine (R82): 0 OFF, 1 IDLE, 2 RUN, 3 DRAIN, 4 HALTED, 5 FAULTED. -/
def State.engState (s : State) (e : Nat) : Nat := s.get (SLU_ENG_STATUS_STATE e)

/-- A host lane. -/
def State.lane (s : State) (n : Nat) : Lane := Assoc.get {} n s.lanes

/-- Replace a host lane. -/
def State.setLane (s : State) (n : Nat) (x : Lane) : State := { s with lanes := Assoc.put n x s.lanes }

/-- A host group. -/
def State.group (s : State) (n : Nat) : Group := Assoc.get {} n s.groups

/-- Replace a host group. -/
def State.setGroup (s : State) (n : Nat) (x : Group) : State := { s with groups := Assoc.put n x s.groups }

/-- Every tributary listed, as (direction, index). -/
def State.tribList (s : State) : List (Nat × Nat) := s.tribs.map (fun p => (p.1 % 2, p.1 / 2))

/-- ENABLED (STOPPED included) (R60). -/
def Trib.enabled (t : Trib) : Bool := t.ost == .enabled

/-- ENABLED or DRAINING. -/
def Trib.active (t : Trib) : Bool := t.ost == .enabled || t.ost == .draining

/-- ENABLED or DRAINING. -/
def Carrier.active (t : Carrier) : Bool := t.ost == .enabled || t.ost == .draining

/-! ## Handles and descriptors -/

/-- Handles of R52. -/
def hCarrier (c : Nat) : Nat := 0x1000 + c
def hTrib (d n : Nat) : Nat := 0x2000 + (if d = 0 then 0x400 else 0x800) + n
def hPolicy (i : Nat) : Nat := 0x3000 + i
def hRefset : Nat := 0x4000
def hPolder (n : Nat) : Nat := 0x5000 + n
def hGroup (g : Nat) : Nat := 0x6000 + g
def hKey (k : Nat) : Nat := 0x7000 + k
def hBank (b : Nat) : Nat := 0x8000 + b

/-- A field of a descriptor: word, lowest bit, width (R64 to R73). -/
def dfld (desc : List Nat) (w lo width : Nat) : Nat := fieldOf (desc.getD w 0) lo width

/-- The descriptor held for a handle. -/
def State.descOf (s : State) (h : Nat) : Option (List Nat) :=
  let i := h % 0x1000
  let nonempty (d : List Nat) : Option (List Nat) := if d.isEmpty then none else some d
  match h / 0x1000 with
  | 1 => nonempty (s.car i).desc
  | 2 => nonempty (s.trib (if i / 0x400 = 1 then 0 else 1) (i % 0x400)).desc
  | 3 => Assoc.find i s.policies
  | 4 => s.refset
  | 5 => Assoc.find i s.powerDescs
  | _ => none

/-! ## Performance counters -/

/-- A counter takes an occurrence of a signal of an instance (R556, R557): it counts while EN, RUN and not FREEZE, with
MODE 0, and MGT is on. -/
def State.pmcTakes (s : State) (sig inst k : Nat) : Bool :=
  s.on (PMC_SEL_EN k) && (s.get (PMC_SEL_MODE k) == 0) && (s.get (PMC_SEL_SIG k) == sig)
    && (s.get (PMC_SEL_INST k) == inst)

/-- Add to counter `k`, wrapping at 2^48 and noting the overflow (R560). -/
def State.pmcAdd (s : State) (k n : Nat) : State :=
  let v := s.get (PMC_CNTHI_COUNT k) * 2 ^ 32 + s.get (PMC_CNTLO_COUNT k) + n
  let s := (s.set (PMC_CNTLO_COUNT k) (v % 2 ^ 32)).set (PMC_CNTHI_COUNT k) (v / 2 ^ 32)
  if v < 2 ^ 48 then s
  else if k < 32 then s.setBit PMC_OVFLO_OVF k else s.setBit PMC_OVFHI_OVF (k - 32)

/-- Counting is possible at all (R556). -/
def State.pmcRuns (s : State) : Bool := s.mgtOn && s.on PMC_CTL_RUN && !s.on PMC_CTL_FREEZE

/-- `n` occurrences of a signal of an instance (R557, R559). -/
def State.pmc (s : State) (sig inst n : Nat) : State :=
  if n = 0 ∨ s.pmcRuns = false then s
  else ((List.range 64).filter (fun k => s.pmcTakes sig inst k)).foldl (fun s k => s.pmcAdd k n) s

/-! ## Engines: waits and retirement -/

/-- The engine's working register (R42). -/
def Engine.reg (x : Engine) (r : Nat) : Nat := if r = 0 then 0 else Assoc.get 0 r x.regs

/-- Write a working register: w0 discards (R42). -/
def Engine.setReg (x : Engine) (r v : Nat) : Engine :=
  if r = 0 then x else { x with regs := Assoc.put r (v % 2 ^ 64) x.regs }

/-- The handle an entry names, if it names one. -/
def Entry.handle (en : Entry) : Option Nat :=
  if namesHandle (opOf en.word) then some (namedHandle en.word en.a) else none

/-- The register accesses of an engine. -/
def accessesReg (op : Nat) : Bool := op == 0x1C || op == 0x1D

/-- An entry names an object of a handle (R91). -/
def Entry.names (en : Entry) (h : Nat) : Bool :=
  match en.handle with
  | some g => sameObject g h
  | none => false

/-- The condition of a fence holds (R90): of the entries before it, all, those that name its object, or the register accesses
have completed. A faulted one never does, even once it has left. -/
def fenceDone (faults : List FaultNote) (before : List Entry) (f : Entry) : Bool :=
  let op := opOf f.word
  let h := f.handle.getD 0
  if op = 0x80 then before.all (fun en => en.completed) && !(faults.any (fun n => decide (n.pc < f.pc)))
  else if op = 0x81 then before.all (fun en => en.completed || !(en.names h))
    && !(faults.any (fun n => decide (n.pc < f.pc) && sameObject n.handle h))
  else before.all (fun en => en.completed || !(accessesReg (opOf en.word)))

/-- The fences in flight complete whose condition holds (R87): `before` stands in front. -/
def settleFences (faults : List FaultNote) : List Entry → List Entry → List Entry
  | _, [] => []
  | before, f :: t =>
    let f := if isFence (opOf f.word) && fenceDone faults before f then { f with completed := true } else f
    f :: settleFences faults (before ++ [f]) t

/-- An entry stands at or behind a fault: it does not retire (R86, R102). -/
def behindFault (faults : List FaultNote) (e : Entry) : Bool := faults.any (fun f => decide (f.pc ≤ e.pc))

/-- Take entries that have finished from the old end, in order (R86), counting those that retire. Behind a fault note those
that completed (R102); a fence there whose condition cannot hold any more (R90) goes without having completed. -/
def popDone (faults : List FaultNote) : List Entry → List Nat → Nat → List Entry × List Nat × Nat
  | [], done, k => ([], done, k)
  | e :: t, done, k =>
    if e.completed || isFence (opOf e.word) then
      popDone faults t (if behindFault faults e && e.completed && !e.faulted then done ++ [e.pc] else done)
        (if behindFault faults e then k else k + 1)
    else (e :: t, done, k)

/-- Retire what can retire in an engine (R86). A HALT that is the oldest in flight retires, and a running engine enters
HALTED (R45, R81); behind a fault it goes without having completed. -/
def State.retireEng (s : State) (e : Nat) : State :=
  let x := s.eng e
  match popDone x.faults (settleFences x.faults [] x.entries) x.doneMask 0 with
  | (es, done, k) =>
    let halts := match es with
      | h :: _ => opOf h.word == 0x01
      | [] => false
    let s := (s.setEng e { x with entries := if halts then [] else es, doneMask := done }).pmc 0x20 e
      (k + (halts && x.faults.isEmpty).toNat)
    if halts && s.get (SLU_ENG_STATUS_STATE e) == 2 then s.set (SLU_ENG_STATUS_STATE e) 4 else s

/-- Remove a wait from an entry, completing it with a result for w[D] when nothing is left to wait for. -/
def Entry.finish (w : Wait) (en : Entry) : Entry :=
  if en.waits.contains w then
    let ws := en.waits.filter (fun v => !(v == w))
    { en with waits := ws, completed := ws.isEmpty }
  else en

/-- The registers after the entries that a wait's end completes have written their results. -/
def Engine.finish (w : Wait) (res : Nat) (x : Engine) : Engine :=
  let hit := x.entries.filter (fun en => en.waits.contains w && (en.waits.all (fun v => v == w)))
  let x := hit.foldl (fun x en => if writesD (opOf en.word) then x.setReg (dOf en.word) res else x) x
  { x with entries := x.entries.map (Entry.finish w) }

/-- What an instruction of any engine waited for has come about (R87): those with nothing left to wait for complete,
write their result, and retire in order. -/
def State.finishWait (s : State) (w : Wait) (res : Nat) : State :=
  [0, 1, 2, 3].foldl (fun s e =>
    if (s.eng e).entries.any (fun en => en.waits.contains w) then
      (s.setEng e ((s.eng e).finish w res)).retireEng e
    else s) s

/-! ## Events -/

/-- A source of events. -/
def State.source (s : State) (src : Nat) : Source := Assoc.get {} src s.evq.sources

/-- Replace a source. -/
def State.setSource (s : State) (src : Nat) (x : Source) : State :=
  { s with evq := { s.evq with sources := Assoc.put src x s.evq.sources } }

/-- The shutter step in force (R34, R536). -/
def State.shutter (s : State) : Nat := s.get THM_STATUS_STEP

/-- How many continuation records an event with so many item words has (R536). -/
def contOf (items : List Nat) : Nat := (items.length - 1 + 3) / 4

/-- Four words in one record, the first the most significant (R6). -/
def packWords (l : List Nat) : Nat := (List.range 4).foldl (fun a i => a * 2 ^ 32 + l.getD i 0 % 2 ^ 32) 0

/-- The records of an event (R536). -/
def eventRecords (time src code step seq handle : Nat) (lost : Bool) (items : List Nat) : List Nat :=
  let flags := contOf items * 64 + lost.toNat * 32 + step % 8 * 4
  let head := ((((((time % 2 ^ 48) * 2 ^ 8 + src % 256) * 2 ^ 8 + code % 256) * 2 ^ 8 + flags) * 2 ^ 8 + seq % 256) * 2 ^ 16
    + handle % 65536) * 2 ^ 32 + items.getD 0 0 % 2 ^ 32
  head :: (List.range (contOf items)).map (fun i => packWords (items.drop (1 + 4 * i)))

/-- An event is discarded: counted, and noted for the source's next event (R539, R607). -/
def State.dropEvent (s : State) (src : Nat) (x : Source) : State :=
  (((s.setSource src { x with lost := true }).bump MGT_EVQ_STAT_DROP 1).setB GLB_INT_DROP true).pmc 0x34 0 1

/-- Write an event's records to the queue if there is room for the whole event (R539). -/
def State.writeEvent (s : State) (src time code step seq handle : Nat) (lost : Bool) (items : List Nat) : State :=
  if s.evq.recs.length + 1 + contOf items ≤ 4096 then
    { s with evq := { s.evq with recs := s.evq.recs ++ eventRecords time src code step seq handle lost items } }
  else s.dropEvent src (s.source src)

/-- A source produces an event (R33, R536, R539, R606): it goes to the queue while MGT is on, otherwise the source
holds up to 16, each with the LOST flag that was pending when it was held. -/
def State.produce (s : State) (src code handle : Nat) (items : List Nat) : State :=
  let x := s.source src
  let x' := { x with seq := (x.seq + 1) % 256 }
  if s.mgtOn then
    (s.setSource src { x' with lost := false }).writeEvent src s.clk.dev code s.shutter x.seq handle x.lost items
  else if x.held.length < 16 then
    s.setSource src { x' with lost := false, held := x.held ++
      [⟨if s.clk.asleep then none else some s.clk.dev, code, handle, items, s.shutter, x.seq, s.clk.nx, s.clk.no, x.lost⟩] }
  else s.dropEvent src x'

/-- Post an event (R537): the TAG of the object's descriptor first, then the payload items; an EVWAIT on the source that
started earlier completes with 1 (R47). -/
def State.post (s : State) (src code handle : Nat) (items : List Nat) : State :=
  let tag : List Nat := match (if handle = 0 then none else s.descOf handle) with
    | some d => [dfld d 0 0 32]
    | none => []
  (s.produce src code handle (tag ++ items)).finishWait (.event src) 1

/-- A signed item word (R537). -/
def iw (i : Int) : Nat := encSigned 32 i

/-- The source codes of R538. -/
def srcRST : Nat := 0x01
def srcPWR : Nat := 0x02
def srcTHM : Nat := 0x03
def srcHKA : Nat := 0x04
def srcTIM : Nat := 0x05
def srcMEM : Nat := 0x06
def srcSLU : Nat := 0x08
def srcMGT : Nat := 0x09
def srcHLN : Nat := 0x10
def srcTRB : Nat := 0x14
def srcCIP : Nat := 0x18
def srcFRM : Nat := 0x1C
def srcFEC : Nat := 0x20
def srcDS (c : Nat) : Nat := 0x24 + 4 * c
def srcACQ : Nat := 0x2C
def srcCNV : Nat := 0x30
def srcProgram (e : Nat) : Nat := 0x80 + e

/-- The running PM counts of an object in this second (R107, R534): up to four of them. -/
def State.pmCount (s : State) (h i n : Nat) : State :=
  let m := Assoc.modify [] h (fun l => (List.range 4).map (fun j => l.getD j 0 + (if j = i then n else 0))) s.mgt.counts
  { s with mgt := { s.mgt with counts := m } }

/-- Add to a count register of a directional tributary that PM counts as its item `i` (R107, R534). -/
def State.bumpPm (s : State) (f : Fld) (d n i k : Nat) : State := (s.bump f k).pmCount (hTrib d n) i k

/-- Whole seconds of device time, bits [31:0]. -/
def State.seconds (s : State) : Nat := s.clk.dev / 1000000000 % 2 ^ 32

/-- Take the next free value of the model (log entry 3). -/
def State.free (s : State) : Nat × State := (Config.freeValue s.freeN, { s with freeN := s.freeN + 1 })

/-- Every meaning that cannot fail answers a next state. -/
def answer (s : State) : Outcome := .next s

/-- A meaning whose operand has to be well formed. -/
def answerIf (wf : Bool) (s : State) : Outcome := if wf then .next s else .fault .illFormed

end Sys2Proof.Machine
end

