-- ==== Sys2Proof/Machine/Desc.lean ====
section
/-! DEFINITION. The fields of the descriptors (R65 to R73) and what follows from them. -/

namespace Sys2Proof.Machine

/-! ## Carrier descriptor (R65) -/

def cdEn (d : List Nat) : Bool := dfld d 0 47 1 == 1
def cdBaud (d : List Nat) : Nat := dfld d 1 48 16
def cdNet (d : List Nat) : Nat := dfld d 1 40 8
def cdMod (d : List Nat) : Nat := dfld d 1 36 4
def cdFec (d : List Nat) : Nat := dfld d 1 26 2
def cdRolloff (d : List Nat) : Nat := dfld d 1 16 10
def cdTxCd (d : List Nat) : Int := signedOf 20 (dfld d 2 44 20)
def cdCdHint (d : List Nat) : Int := signedOf 20 (dfld d 2 24 20)
def cdHintV (d : List Nat) : Bool := dfld d 2 23 1 == 1
def cdNlcSpans (d : List Nat) : Nat := dfld d 2 16 7
def cdRxBaudRaw (d : List Nat) : Nat := dfld d 3 48 16
def cdRxNetRaw (d : List Nat) : Nat := dfld d 3 40 8
def cdRxFecRaw (d : List Nat) : Nat := dfld d 3 38 2
def cdAcqProf (d : List Nat) : Nat := dfld d 3 32 4
def cdLsrAuto (d : List Nat) : Bool := dfld d 4 63 1 == 1
def cdMuteAuto (d : List Nat) : Bool := dfld d 4 62 1 == 1
def cdCprot (d : List Nat) : Nat := dfld d 4 60 2
def cdRevert (d : List Nat) : Bool := dfld d 4 59 1 == 1
def cdHoldoff (d : List Nat) : Nat := dfld d 4 48 11
def cdWtr (d : List Nat) : Nat := dfld d 4 36 12

/-- Receive symbol rate, net rate and FEC profile after the defaults of R65. -/
def cdRxBaud (d : List Nat) : Nat := if cdRxBaudRaw d = 0 then cdBaud d else cdRxBaudRaw d
def cdRxNet (d : List Nat) : Nat := if cdRxNetRaw d = 0 then cdNet d else cdRxNetRaw d
def cdRxFec (d : List Nat) : Nat := if cdRxFecRaw d = 0 then cdFec d else cdRxFecRaw d - 1

/-- The receive profile of a carrier (R338, code 4). -/
def rxProfile (d : List Nat) : Profile := ⟨4, cdRxBaud d, cdRxNet d, cdRxFec d, cdMod d⟩

/-- The transmit format of a carrier: code and E (R308). -/
def txFormat (d : List Nat) : Option (Nat × Nat) := formatOf (cdNet d) (cdFec d) (cdBaud d) (cdMod d)

/-- The format of a profile. -/
def Profile.format (p : Profile) : Option (Nat × Nat) := formatOf p.net p.fec p.baud p.mod

/-- The profile the receive direction runs: the locked one (R349), or the receive profile. -/
def State.rxRun (s : State) (c : Nat) : Profile :=
  match (s.acq c).lock with
  | some l => l.prof
  | none => rxProfile (s.car c).desc

/-! ## Tributary descriptor (R68) -/

def tdEn (d : List Nat) : Bool := dfld d 0 47 1 == 1
def tdSlots (d : List Nat) : Nat := dfld d 1 48 16
def tdClient (d : List Nat) : Nat := dfld d 1 44 4
def tdCarrier (d : List Nat) : Nat := dfld d 1 42 2
def tdPin (d : List Nat) : Bool := dfld d 1 41 1 == 1
def tdTprot (d : List Nat) : Nat := dfld d 1 38 3
def tdRevert (d : List Nat) : Bool := dfld d 1 37 1 == 1
def tdHoldoff (d : List Nat) : Nat := dfld d 1 26 11
def tdWtr (d : List Nat) : Nat := dfld d 1 14 12
def tdHgrp (d : List Nat) : Nat := dfld d 2 59 5
def tdHlane0 (d : List Nat) : Nat := dfld d 2 54 5
def tdHlanes (d : List Nat) : Nat := dfld d 2 50 4
def tdTxPre (d : List Nat) : Nat := dfld d 2 49 1
def tdRxPre (d : List Nat) : Nat := dfld d 2 48 1
def tdChid (d : List Nat) : Nat := dfld d 2 38 10
def tdKeyslot (d : List Nat) : Nat := dfld d 3 48 11
def tdSealpol (d : List Nat) : Nat := dfld d 3 42 6

/-- The client is Ethernet. -/
def tdEthernet (d : List Nat) : Bool := tdClient d != 0

/-! ## Seal policy (R70) -/

/-- RELEASE 1: early release. -/
def State.polEarly (s : State) (i : Nat) : Bool := dfld (Assoc.get [] i s.policies) 1 62 2 == 1

/-- MAXSEAL in µs, 20 when the field is 0 (R145). -/
def State.polMax (s : State) (i : Nat) : Nat :=
  let m := dfld (Assoc.get [] i s.policies) 1 48 5
  if m = 0 then 20 else m

/-- B of R145 for S slots and a bound of M µs. -/
def sealUnits (sl m : Nat) : Nat := sl * m * 25 / 32

/-- P of R146 in kb/s, rounded down: S × 100 Mb/s × (1 − 1.5 / B). -/
def payloadKbps (sl b : Nat) : Nat := if b = 0 then 0 else sl * 100000 * (2 * b - 3) / (2 * b)

/-- P reaches N × 200 Gb/s × 257/256 × 1.0002 (R147), in exact arithmetic. -/
def carriesEthernet (n sl b : Nat) : Bool :=
  decide (n * 200000000 * 257 * 10002 * 2 * b ≤ sl * 100000 * (2 * b - 3) * 256 * 10000)

/-- The smallest S that carries an Ethernet client under a bound of M µs (R147). -/
def fewestSlots (client m : Nat) : Nat :=
  let n := 2 ^ (client - 1)
  ((List.range 24577).find? (fun sl => decide (2 ≤ sealUnits sl m) && carriesEthernet n sl (sealUnits sl m))).getD 24577

/-- The slots a tributary takes: its SLOTS, or the fewest that carry its client (R68, R147). -/
def State.tribSlots (s : State) (d : List Nat) : Nat :=
  if tdSlots d = 0 then fewestSlots (tdClient d) (s.polMax (tdSealpol d)) else tdSlots d

end Sys2Proof.Machine
end

