-- ==== Sys2Proof/Machine/Memory.lean ====
section
/-! DEFINITION. The bytes of the banks in canonical form: addresses strictly rising, no listed byte equal to the 0 that an
unlisted address reads as (R26, R424: a bank enters service cleared). The byte of offset `o` of bank `b` is listed under
b × 524,288 + o, in the byte order of R76. -/

namespace Sys2Proof.Machine

/-- What an unlisted address reads as. -/
def Memory.blank : Byte := 0

/-- The byte at an address. -/
def Memory.read (m : List Host.Cell) (a : Nat) : Byte := Assoc.get Memory.blank a m

/-- Store a byte, keeping the canonical form. -/
def Memory.write (m : List Host.Cell) (a : Nat) (v : Byte) : List Host.Cell :=
  if v = Memory.blank then Assoc.drop a m else Assoc.put a v m

/-- The canonical form. -/
def Memory.wf (m : List Host.Cell) : Bool := Assoc.rising m && m.all (fun c => c.2 != Memory.blank)

/-- The address of byte `j` of a word, in the order in which R76 numbers the bytes of a structure. -/
def wordByte (w j : Nat) : Nat := 8 * w + j

/-- The bits of a 64-bit word that byte `j` holds (R76). -/
def byteShift (j : Nat) : Nat := if j < 4 then 24 - 8 * j else 56 - 8 * (j - 4)

/-- The data of a word. -/
def readWord (m : List Host.Cell) (w : Nat) : Nat :=
  ((List.range 8).map (fun j => (Memory.read m (wordByte w j)).toNat * 2 ^ byteShift j)).sum

/-- Store the data of a word. -/
def writeWord (m : List Host.Cell) (w v : Nat) : List Host.Cell :=
  (List.range 8).foldl (fun m j => Memory.write m (wordByte w j) (BitVec.ofNat 8 (v / 2 ^ byteShift j))) m

/-- Zero a range of words. -/
def zeroWords (m : List Host.Cell) (first last : Nat) : List Host.Cell :=
  m.filter (fun c => decide (c.1 < 8 * first ∨ 8 * (last + 1) ≤ c.1))

/-- The words of a bank. -/
def bankWord (bank w : Nat) : Nat := bank * 65536 + w

/-- Replace the memory. -/
def State.setMem (s : State) (m : Mem) : State := { s with mem := m }

/-- The data of a word as stored, without its flips. -/
def State.wordData (s : State) (w : Nat) : Nat := readWord s.mem.bytes w

/-- The POISON of a word: 1 throughout a fixed bank whose checker failed (R441). -/
def State.wordPoison (s : State) (w : Nat) : Bool :=
  s.mem.poison.contains w || (decide (187 * 65536 ≤ w) && s.on (Reg.MEM_BANK_STATUS_CHKFAIL (w / 65536)))

/-- Insert into a rising list. -/
def insertNat (k : Nat) : List Nat → List Nat
  | [] => [k]
  | a :: t => if k < a then k :: a :: t else if k = a then a :: t else a :: insertNat k t

/-- Store a word with its POISON (R421): whatever was flipped there is gone. -/
def State.storeWord (s : State) (w v : Nat) (poison : Bool) : State :=
  s.setMem { s.mem with
    bytes := writeWord s.mem.bytes w v
    poison := if poison then insertNat w s.mem.poison else s.mem.poison.filter (fun x => x != w)
    flips := Assoc.drop w s.mem.flips }

end Sys2Proof.Machine
end

