-- ==== Sys2Proof/Machine/Mem.lean ====
section
/-! DEFINITION. Memory banks and error correction: owners, placement, the checker, scrubbing, leaky buckets, transparent
tests, retirement, host access (R26 to R28, R419 to R446, R609, R610). -/

namespace Sys2Proof.Machine

open Reg

/-! ## Owners (R423, R424) -/

def ownFREE : Nat := 0x00
def ownLOCK : Nat := 0x03
def ownDDB : Nat := 0x04
def ownHOST : Nat := 0x08
def ownCLEAR : Nat := 0x09
def ownRETIRED : Nat := 0x0A

/-- A bank's owner. -/
def State.owner (s : State) (b : Nat) : Nat := s.get (MEM_BANK_STATUS_OWNER b)

/-- Set a bank's owner. -/
def State.setOwner (s : State) (b o : Nat) : State := s.set (MEM_BANK_STATUS_OWNER b) o

/-- A bank that never changes owner. -/
def fixedBank (b : Nat) : Bool := decide (187 ≤ b)

/-- A bank's group is on. -/
def State.bankOn (s : State) (b : Nat) : Bool := s.pdOn (memPolder b)

/-- The owner releases a bank: clearing starts (R424), and an injection armed there is cancelled (R442). -/
def State.releaseBank (s : State) (b : Nat) : State :=
  let s := s.setOwner b ownCLEAR
  if s.on ECC_INJ_ARM && s.get ECC_INJ_BANK == b then s.setB ECC_INJ_ARM false else s

/-- A bank is zero throughout, with nothing poisoned or flipped. -/
def State.zeroBank (s : State) (b : Nat) : State :=
  let inside (w : Nat) : Bool := w / 65536 == b
  s.setMem { s.mem with
    bytes := zeroWords s.mem.bytes (bankWord b 0) (bankWord b 65535)
    poison := s.mem.poison.filter (fun w => !(inside w))
    flips := s.mem.flips.filter (fun e => !(inside e.1)) }

/-! ## The MTP write window (R379, R488) -/

/-- A zone's estimate in 0.25 °C, with its guard. -/
def State.zoneEst (s : State) (z : Nat) : Int := s.getI (THM_ZONE_EST z)

/-- A zone's estimate without its guard. -/
def State.zoneBare (s : State) (z : Nat) : Int :=
  s.zoneEst z - (if s.on (THM_ZONE_GUARD z) then 4 * (s.get THM_CTL_GUARD : Int) else 0)

/-- Every estimate lies within 0 °C to 95 °C, as R488 compares them. -/
def State.windowTemp (s : State) : Bool :=
  s.on THM_STATUS_SEEDED && (List.range 16).all (fun z => decide (s.zoneEst z ≤ 380) && decide (0 ≤ s.zoneBare z))

/-- The write window is met. -/
def State.mtpWindow (s : State) : Bool := s.windowTemp && s.rails.aon3v

/-- THM_STATUS.WINDOW follows the window (R488). -/
def State.showWindow (s : State) : State := s.setB THM_STATUS_WINDOW s.mtpWindow

/-! ## Class 3 of the management core (R106) -/

/-- The class 3 jobs that some function wants done now; the tamper count only inside the write window (R204). -/
def State.jobsWanted (s : State) : List MtpJob :=
  (if s.get CNV_MTP_STATE = 0 then [] else [.store]) ++ (if s.cip.lcs.isSome then [.lcs] else [])
    ++ (match s.cip.kek with
      | some o => if o.plain then [.root] else []
      | none => [])
    ++ (if s.cip.pendingCount ≠ 0 ∧ s.mtpWindow = true then [.tamper] else []) ++ List.replicate s.mem.log.length .log

/-- A queue without the jobs that nothing wants any more, followed by those wanted that it lacks. -/
def mergeJobs : List MtpJob → List MtpJob → List MtpJob
  | [], wanted => wanted
  | j :: t, wanted => if wanted.contains j then j :: mergeJobs t (wanted.erase j) else mergeJobs t wanted

/-- Queue what is wanted, at most 8 jobs: what finds no place is tried again here when a job leaves (R106). -/
def State.queueJobs (s : State) : State :=
  { s with mgt := { s.mgt with jobs := (mergeJobs s.mgt.jobs s.jobsWanted).take 8 } }

/-- The job at the head of class 3 leaves. -/
def State.popJob (s : State) : State := ({ s with mgt := { s.mgt with jobs := s.mgt.jobs.drop 1 } } : State).queueJobs

/-- It is a class 3 job's turn: the core serves, no lower class has work, and the job is at the head (R106). -/
def State.class3Turn (s : State) (j : MtpJob) : Bool :=
  s.mgtServes && s.mgt.unwraps.isEmpty && s.mgt.mail.isEmpty && s.mgt.seconds.isEmpty && s.mgt.jobs.head? == some j

/-! ## Retirement (R439, R440) -/

/-- Queue an entry for the retirement log: PEND until it is written. A full log takes none (R440). -/
def State.queueLog (s : State) (e : LogEntry) : State :=
  if 256 ≤ s.mtp.log.length + s.mem.log.length then s
  else ((s.setMem { s.mem with log := s.mem.log ++ [e] }).setB ECC_LOGCTL_PEND true).queueJobs

/-- Retire a bank (R439): at once, after its clear, pending, or beside a fixed owner. -/
def State.retireBank (s : State) (b cause sector bit : Nat) : State :=
  if s.on (MEM_BANK_STATUS_RETIRED b) || s.on (MEM_BANK_STATUS_RETPEND b) then s
  else
    let o := s.owner b
    let done := fixedBank b || o == ownFREE
    let s := s.queueLog ⟨b, 1, cause, sector, bit, s.seconds⟩
    let s := (s.setB ECC_EVENT_RETIRE true).post srcMEM 0x05 (hBank b) [cause, (!done).toNat]
    if fixedBank b then s.setB (MEM_BANK_STATUS_RETIRED b) true
    else if o = ownFREE then (s.setOwner b ownRETIRED).setB (MEM_BANK_STATUS_RETIRED b) true
    else
      let s := s.setB (MEM_BANK_STATUS_RETPEND b) true
      if o = ownHOST then s.releaseBank b else s

/-- Clearing of a bank ends (R424): every word zero, and the bank is FREE, or RETIRED when that was pending. -/
def State.clearDone (s : State) (b : Nat) : State :=
  if s.owner b = ownCLEAR then
    let s := s.zeroBank b
    let s := if s.on (MEM_BANK_STATUS_RETPEND b) then
      ((s.setOwner b ownRETIRED).setB (MEM_BANK_STATUS_RETPEND b) false).setB (MEM_BANK_STATUS_RETIRED b) true
      else s.setOwner b ownFREE
    let s := if s.mem.clearing.contains b then
      (s.setMem { s.mem with clearing := s.mem.clearing.filter (fun x => x != b) }).setB MEM_CLAIMSTAT_BUSY false else s
    s.finishWait (.retire b) 0
  else s

/-! ## Placement (R610) -/

/-- Gaps of a bank between used stretches sorted by start. -/
def gapsFrom (at_ : Nat) : List (Nat × Nat) → List (Nat × Nat)
  | [] => if at_ < 65536 then [(at_, 65536 - at_)] else []
  | (st, k) :: t => if at_ < st then (at_, st - at_) :: gapsFrom (st + k) t else gapsFrom (max at_ (st + k)) t

/-- The unused words of a bank, as (start, words). -/
def State.gaps (s : State) (b : Nat) : List (Nat × Nat) :=
  gapsFrom 0 (((s.mem.allocs.filter (fun a => a.bank == b)).map (fun a => (a.start, a.words))).mergeSort (fun x y => x.1 ≤ y.1))

/-- Banks that placement may use for an owner: those it holds and that have not left placement, and FREE ones. -/
def State.heldBanks (s : State) (role : Nat) : List Nat :=
  (List.range 187).filter (fun b => s.owner b == role && !(s.on (MEM_BANK_STATUS_RETPEND b)))
def State.freeBanks (s : State) : List Nat :=
  (List.range 187).filter (fun b => s.owner b == ownFREE && !(s.on (MEM_BANK_STATUS_RETPEND b)))

/-- FREE banks that an owner may still take: the lock chamber holds at most 48 (R27). -/
def State.mayTake (s : State) (role : Nat) : Nat :=
  if role = ownLOCK then 48 - ((List.range 187).filter (fun b => s.owner b == role)).length else 187

/-- Unused words that placement has for an owner. -/
def State.roomFor (s : State) (role : Nat) : Nat :=
  ((s.heldBanks role ++ s.freeBanks.take (s.mayTake role)).flatMap s.gaps).foldl (fun k g => k + g.2) 0

/-- The banks in the order in which the nth placement takes them: which order is not specified (R610). -/
def State.placeOrder (s : State) (role : Nat) : List Nat :=
  let n := s.mem.placed
  let sort (l : List Nat) := l.mergeSort (fun x y => decide (Config.bankRank n x ≤ Config.bankRank n y))
  let free := (sort s.freeBanks).take (s.mayTake role)
  if Config.fillFirst n then sort (s.heldBanks role) ++ free else free ++ sort (s.heldBanks role)

/-- Take words from gaps until the need is met. -/
def takeGaps (role obj part : Nat) : Nat → List (Nat × Nat × Nat) → List Alloc
  | 0, _ => []
  | _, [] => []
  | need, (b, st, k) :: t =>
    if need ≤ k then [⟨b, role, obj, st, need, part⟩] else ⟨b, role, obj, st, k, part⟩ :: takeGaps role obj part (need - k) t

/-- Place so many words for a part of an object in given banks, in their order. -/
def State.placeOn (s : State) (role obj part need : Nat) (banks : List Nat) : State :=
  let new := takeGaps role obj part need (banks.flatMap (fun b => (s.gaps b).map (fun g => (b, g.1, g.2))))
  new.foldl (fun s a => s.setOwner a.bank role)
    (s.setMem { s.mem with allocs := s.mem.allocs ++ new, placed := s.mem.placed + 1 })

/-- Place so many words for an object under an owner; none when the need exceeds what R610 counts. -/
def State.place (s : State) (role obj need : Nat) : Option State :=
  if s.roomFor role < need then none
  else some (s.placeOn role obj 0 need (s.placeOrder role))

/-- Words of one copy of a connection-memory page: 24,576 entries of 32 bits (R165). -/
def pageWords : Nat := 12288

/-- The banks of a bank group that placement may use for the connection memory, and the unused words in them. -/
def State.connBanks (s : State) (g : Nat) : List Nat := (s.placeOrder 0x05).filter (fun b => b / 8 == g)
def State.connRoom (s : State) (g : Nat) : Nat := ((s.connBanks g).flatMap s.gaps).foldl (fun k g => k + g.2) 0

/-- The bank groups with room for a copy of a page, those with most room first. -/
def State.connGroups (s : State) : List Nat :=
  (((List.range 24).map (fun g => (s.connRoom g, g))).filter (fun p => decide (pageWords ≤ p.1))).mergeSort
    (fun x y => decide (y.1 ≤ x.1)) |>.map (fun p => p.2)

/-- Place one page of a carrier: two copies in banks of two bank groups (R425); none where no two groups have room. -/
def State.placePage (s : State) (obj page : Nat) : Option State :=
  match s.connGroups with
  | a :: b :: _ => some ((s.placeOn 0x05 obj (2 * page) pageWords (s.connBanks a)).placeOn 0x05 obj (2 * page + 1) pageWords (s.connBanks b))
  | _ => none

/-- Place the connection memory of a carrier: its transmit pages 0 and 1 and its receive pages 2 and 3 (R165, R425). -/
def State.placeConn (s : State) (obj : Nat) : Option State :=
  [0, 1, 2, 3].foldl (fun s p => s.bind (fun s => s.placePage obj p)) (some s)

/-- Everything placed for an object under an owner goes: banks left with nothing are released (R424, R610). -/
def State.unplace (s : State) (role obj : Nat) : State :=
  let banks := ((s.mem.allocs.filter (fun a => a.role == role && a.obj == obj)).map (fun a => a.bank)).eraseDups
  let s := s.setMem { s.mem with allocs := s.mem.allocs.filter (fun a => !(a.role == role && a.obj == obj)) }
  banks.foldl (fun s b =>
    if s.owner b == role && !(s.mem.allocs.any (fun a => a.bank == b)) then s.releaseBank b else s) s

/-! ## The checker (R419, R420, R432 to R434) -/

/-- What the checker makes of the flipped bits of a word: clean, bit corrected, or uncorrectable. The spec states one and
two flips; for more, the verdict is free: uncorrectable, unnoticed, or one bit "corrected". -/
inductive Check where
  | clean
  | corrected (bit : Nat)
  | uncorrectable
deriving DecidableEq, Repr

/-- The checker's verdict on a mask of flipped bits. -/
def checkFlips (w mask : Nat) : Check :=
  let k := popCount 73 mask
  if k = 0 then .clean
  else if k = 1 then .corrected ((lowBit 73 mask).getD 0)
  else if k = 2 then .uncorrectable
  else
    let v := Config.eccMany w mask % 75
    if v = 0 then .uncorrectable else if v = 1 then .clean else .corrected (v - 2)

/-- The sector of a word (R434). -/
def sectorOf (w : Nat) : Nat := w % 65536 / 4096

/-- A column: sector × 73 + bit, under its bank. -/
def State.hardCol (s : State) (b sector bit : Nat) : Bool := s.mem.hardCols.contains (b, sector * 73 + bit)

/-- A test of a bank covers a word. -/
def State.testCovers (s : State) (b w : Nat) : Bool :=
  s.mem.tests.any (fun t => t.bank == b && decide (t.next ≤ w % 65536 ∧ w % 65536 ≤ t.last))

/-- A hard fault: reported, and a test of its sector starts at once unless a test covers it (R434, R442). -/
def State.hardFault (s : State) (b w bit : Nat) : State :=
  let sec := sectorOf w
  let s := (s.setB ECC_EVENT_HARD true).post srcMEM 0x03 (hBank b) [sec, bit]
  if s.testCovers b w then s
  else
    (s.setMem { s.mem with tests := s.mem.tests ++ [⟨b, sec * 4096, sec * 4096 + 4095, true, false, false⟩] }).setB
      (MEM_BANK_STATUS_TESTING b) true

/-- The bucket of a bank rises by 1 (R433). -/
def State.bucketUp (s : State) (b : Nat) : State :=
  let l := min 127 (s.get (MEM_BANK_STATUS_BUCKET b) + 1)
  let s := s.set (MEM_BANK_STATUS_BUCKET b) l
  if s.get ECC_BUCKET_THRESH ≤ l ∧ s.mem.burst.contains b = false then
    ((s.setMem { s.mem with burst := b :: s.mem.burst }).setB ECC_EVENT_BURST true).post srcMEM 0x02 (hBank b) [l]
  else s

/-- A correctable error at a word and bit: counted, written back, and a hard fault when it recurs (R420, R432 to R434). -/
def State.correctable (s : State) (w bit : Nat) : State :=
  let b := w / 65536
  let s := (s.bump ECC_CECNT_COUNT 1).pmc 0x31 0 1
  let s := ((s.set ECC_LAST_BANK b).set ECC_LAST_UE 0).set ECC_LAST_BIT bit
  let s := s.set ECC_LAST_WORD (w % 65536)
  let s := if s.hardCol b (sectorOf w) bit then s else s.bucketUp b
  let seen := Assoc.get 0 w s.mem.seen
  let s := s.setMem { s.mem with flips := Assoc.drop w s.mem.flips, seen := Assoc.put w (setBitN seen bit) s.mem.seen }
  if bitOf seen bit = 1 ∧ s.hardCol b (sectorOf w) bit = false then s.hardFault b w bit else s

/-- An uncorrectable error at a word: the data as read is written back with POISON 1 (R420, R432, R434). -/
def State.uncorrectable (s : State) (w mask : Nat) : State :=
  let b := w / 65536
  let s := ((s.bump ECC_UECNT_COUNT 1).setB ECC_EVENT_UE true).post srcMEM 0x01 (hBank b) [w % 65536]
  let s := ((s.set ECC_LAST_BANK b).set ECC_LAST_UE 1).set ECC_LAST_BIT 0x7F
  let s := s.set ECC_LAST_WORD (w % 65536)
  let seen := Assoc.get 0 w s.mem.seen
  let s := s.setMem { s.mem with
    bytes := writeWord s.mem.bytes w (Nat.xor (readWord s.mem.bytes w) (mask % 2 ^ 64))
    poison := insertNat w s.mem.poison
    flips := Assoc.drop w s.mem.flips, seen := Assoc.put w (setBitN seen 73) s.mem.seen }
  if bitOf seen 73 = 1 then s.hardFault b w 0x7F else s

/-- What a reader of a word gets (R420): data and POISON. -/
structure WordRead where
  data : Nat
  poison : Bool
  check : Check
deriving DecidableEq, Repr

/-- A reader reads a word (R420). Flips that the checker does not notice make another word of it. -/
def State.readMem (s : State) (w : Nat) : WordRead × State :=
  let mask := Assoc.get 0 w s.mem.flips
  let d := s.wordData w
  match checkFlips w mask with
  | .clean =>
    let d' := Nat.xor d (mask % 2 ^ 64)
    let p := s.wordPoison w != (bitOf mask 64 == 1)
    (⟨d', p, .clean⟩, if mask = 0 then s else s.setMem { s.mem with
      bytes := writeWord s.mem.bytes w d'
      poison := if p then insertNat w s.mem.poison else s.mem.poison.filter (fun x => x != w)
      flips := Assoc.drop w s.mem.flips })
  | .corrected bit =>
    let left := Nat.xor mask (2 ^ bit)
    let d' := Nat.xor d (left % 2 ^ 64)
    let p := s.wordPoison w != (bitOf left 64 == 1)
    let s := s.setMem { s.mem with
      bytes := writeWord s.mem.bytes w d'
      poison := if p then insertNat w s.mem.poison else s.mem.poison.filter (fun x => x != w) }
    (⟨d', p, .corrected bit⟩, s.correctable w bit)
  | .uncorrectable => (⟨Nat.xor d (mask % 2 ^ 64), true, .uncorrectable⟩, s.uncorrectable w mask)

/-- Bits of a stored word turn over. -/
def State.upset (s : State) (w mask : Nat) : State :=
  if mask = 0 then s
  else s.setMem { s.mem with flips := Assoc.put w (Nat.xor (Assoc.get 0 w s.mem.flips) mask) s.mem.flips }

/-- A consumer takes in a poisoned word (R438): counted in its byte of ECC_PCONS, 3 LOCK, 2 TSI, 1 SLU, 0 MGT (log entry 14), and posted if it is
the first of its seal, record or access. -/
def State.consume (s : State) (w consumer : Nat) (event : Bool := true) : State :=
  let f := if consumer = 3 then ECC_PCONS_LOCK else if consumer = 2 then ECC_PCONS_TSI
    else if consumer = 1 then ECC_PCONS_SLU else ECC_PCONS_MGT
  if event then (s.bump f 1).post srcMEM 0x06 (hBank (w / 65536)) [w % 65536, consumer] else s.bump f 1

/-! ## Transparent tests (R435 to R437) -/

/-- The bank's first test in progress. -/
def State.testOf (s : State) (b : Nat) : Option TestJob := s.mem.tests.find? (fun t => t.bank == b)

/-- Replace or end the first test of a bank. -/
def State.setTest (s : State) (b : Nat) (t : Option TestJob) : State :=
  let rec go : List TestJob → List TestJob
    | [] => []
    | x :: r => if x.bank = b then (match t with | some y => y :: r | none => r) else x :: go r
  s.setMem { s.mem with tests := go s.mem.tests }

/-- A test ends with the result of R50. -/
def State.endTest (s : State) (b res : Nat) (whole : Bool) : State :=
  let s := s.setTest b none
  let s := if (s.testOf b).isNone then s.setB (MEM_BANK_STATUS_TESTING b) false else s
  if whole then s.finishWait (.mtest b) res else s

/-- A test of a bank fails (R436): its columns are marked hard and the bank is retired. -/
def State.failTest (s : State) (t : TestJob) (sector fails : Nat) : State :=
  let b := t.bank
  let cols := ((List.range 73).filter (fun i => bitOf fails i == 1)).map (fun i => (b, sector * 73 + i))
  let s := s.setMem { s.mem with hardCols := s.mem.hardCols ++ cols }
  let s := s.setB (MEM_BANK_STATUS_HARD b) true
  let bit := (lowBit 73 fails).getD 0
  let s := s.retireBank b (if t.hard then 3 else 2) (if t.hard then sector else 0) (if t.hard then bit else 0)
  s.endTest b 2 (!t.hard)

/-- A transparent test processes its next block of 64 words (R435, R436); `fails` are the bit positions that failed. -/
def State.testBlock (s : State) (b fails : Nat) : State :=
  match s.testOf b with
  | none => s
  | some t =>
    if s.bankOn b = false ∨ (t.background = true ∧ s.shutter = 7) then s
    else
      let sector := t.next / 4096
      let whole := !t.hard
      let k := popCount 73 fails
      let spares := s.get (MEM_BANK_STATUS_SPARES b)
      let next (s : State) (rep : Bool) : State :=
        if t.last < t.next + 64 then s.endTest b (if rep then 1 else 0) whole
        else s.setTest b (some { t with next := t.next + 64, repaired := rep })
      if k = 0 then next s t.repaired
      else if k = 1 ∧ spares ≠ 0 then
        let bit := (lowBit 73 fails).getD 0
        let s := (s.set (MEM_BANK_STATUS_SPARES b) (spares - 1)).setB ECC_EVENT_REPAIR true
        let s := s.post srcMEM 0x04 (hBank b) [sector, bit, spares - 1]
        next (s.queueLog ⟨b, 0, (if t.hard then 3 else 2), sector, bit, s.seconds⟩) true
      else s.failTest t sector fails

/-- A test of a whole bank starts, unless one is running whose result serves (R437, R442). -/
def State.startTest (s : State) (b : Nat) (background : Bool) : State :=
  if s.mem.tests.any (fun t => t.bank == b && !t.hard) then
    s.setMem { s.mem with tests := s.mem.tests.map (fun t =>
      if t.bank == b && !t.hard then { t with background := t.background && background } else t) }
  else (s.setMem { s.mem with tests := s.mem.tests ++ [⟨b, 0, 65535, false, background, false⟩] }).setB
    (MEM_BANK_STATUS_TESTING b) true

/-- MRETIRE ends a background test of its bank first (R442). -/
def State.mretire (s : State) (b : Nat) : State :=
  let bg := s.mem.tests.any (fun t => t.bank == b && t.background)
  let s := if bg then
    (let s := s.setMem { s.mem with tests := s.mem.tests.filter (fun t => !(t.bank == b && t.background)) }
     if (s.testOf b).isNone then s.setB (MEM_BANK_STATUS_TESTING b) false else s) else s
  s.retireBank b 1 0 0

/-! ## Host access (R426, R427, R443) -/

/-- A claim by the host (R426). -/
def State.memClaim (s : State) (b : Nat) : State :=
  let s := (s.set MEM_CLAIM_BANK b).set MEM_CLAIM_REL 0
  if 191 < b then s.set MEM_CLAIMSTAT_RESULT 2
  else if s.owner b = ownFREE then (s.setOwner b ownHOST).set MEM_CLAIMSTAT_RESULT 0
  else s.set MEM_CLAIMSTAT_RESULT 1

/-- A release by the host (R426): the claim status is BUSY until the bank is cleared. -/
def State.memRelease (s : State) (b : Nat) : State :=
  let s := (s.set MEM_CLAIM_BANK b).set MEM_CLAIM_REL 1
  if 191 < b then s.set MEM_CLAIMSTAT_RESULT 2
  else if s.owner b = ownHOST then
    let s := s.releaseBank b
    ((s.setMem { s.mem with clearing := b :: s.mem.clearing }).setB MEM_CLAIMSTAT_BUSY true).set MEM_CLAIMSTAT_RESULT 0
  else s.set MEM_CLAIMSTAT_RESULT 1

/-- The fields of MEM_ACCCTL as written. -/
def State.accFields (s : State) (v : Nat) : State :=
  s.wrs v [MEM_ACCCTL_WRITE, MEM_ACCCTL_POISON, MEM_ACCCTL_BANK, MEM_ACCCTL_WORD]

/-- An access is denied: nothing takes place (R427). -/
def State.accDenied (s : State) : State :=
  (s.zero [MEM_ACCSTAT_COLL, MEM_ACCSTAT_POISON, MEM_ACCSTAT_UE, MEM_ACCSTAT_CE]).setB MEM_ACCSTAT_DENIED true

/-- MEM_ACC writes one word of a HOST bank, with any injection armed there (R427, R429, R443). -/
def State.accWrite (s : State) (coll : Bool) : State :=
  let b := s.get MEM_ACCCTL_BANK
  if b < 192 ∧ s.owner b = ownHOST then
    let w := bankWord b (s.get MEM_ACCCTL_WORD)
    let s := s.storeWord w (s.get MEM_ACCDHI_DATA * 2 ^ 32 + s.get MEM_ACCDLO_DATA) (s.on MEM_ACCCTL_POISON)
    let inj := s.on ECC_INJ_ARM && s.get ECC_INJ_BANK == b
    let one (i : Nat) : Nat := if i < 73 then 2 ^ i else 0
    let mask := Nat.xor (one (s.get ECC_INJ_BIT1)) (if s.on ECC_INJ_DOUBLE then one (s.get ECC_INJ_BIT2) else 0)
    let s := if inj then (s.upset w mask).setB ECC_INJ_ARM false else s
    let s := if coll then s.bump MEM_COLL_COUNT 1 else s
    (s.zero [MEM_ACCSTAT_DENIED, MEM_ACCSTAT_POISON, MEM_ACCSTAT_UE, MEM_ACCSTAT_CE]).setB MEM_ACCSTAT_COLL coll
  else s.accDenied

/-- MEM_ACC reads one word of a HOST bank (R427, R438). -/
def State.accRead (s : State) (mask : Nat) : State :=
  let b := s.get MEM_ACCCTL_BANK
  if b < 192 ∧ s.owner b = ownHOST then
    let w := bankWord b (s.get MEM_ACCCTL_WORD)
    match (s.upset w mask).readMem w with
    | (r, s) =>
      let s := (s.set MEM_ACCDHI_DATA (r.data / 2 ^ 32)).set MEM_ACCDLO_DATA (r.data % 2 ^ 32)
      let s := if r.poison then s.consume w 1 else s
      let s := s.zero [MEM_ACCSTAT_DENIED, MEM_ACCSTAT_COLL]
      let s := (s.setB MEM_ACCSTAT_POISON r.poison).setB MEM_ACCSTAT_UE (r.check == .uncorrectable)
      s.setB MEM_ACCSTAT_CE (match r.check with | .corrected _ => true | _ => false)
  else s.accDenied

/-- ECC_INJ is written (R443): ARM takes effect on a HOST bank. -/
def State.injWrite (s : State) (v : Nat) : State :=
  let s := s.wrs v [ECC_INJ_DOUBLE, ECC_INJ_BIT1, ECC_INJ_BIT2, ECC_INJ_BANK]
  let b := s.get ECC_INJ_BANK
  if ECC_INJ_ARM.of v = 1 ∧ b < 192 ∧ s.owner b = ownHOST then s.setB ECC_INJ_ARM true else s

/-- ECC_LOGSEL captures a log entry (R446). -/
def State.logSelWrite (s : State) (v : Nat) : State :=
  let i := ECC_LOGSEL_ENTRY.of v
  let s := s.set ECC_LOGSEL_ENTRY i
  let e := (s.mtp.log[i]?).getD ⟨0, 0, 0, 0, 0, 0⟩
  let s := ((s.set ECC_LOGDHI_BANK e.bank).set ECC_LOGDHI_KIND e.kind).set ECC_LOGDHI_CAUSE e.cause
  ((s.set ECC_LOGDHI_SECTOR e.sector).set ECC_LOGDHI_BIT e.bit).set ECC_LOGDLO_TIME e.time

/-- ECC_LOGCTL.CLR empties the log while the life-cycle state is MANUFACTURE (R440). -/
def State.logClear (s : State) : State :=
  if s.mtp.lcs = 0 then
    let s := { s with mtp := { s.mtp with log := [] } }
    (s.set ECC_LOGCTL_ENTRIES 0).setB ECC_LOGCTL_FULL false
  else s

/-- The word of a MEM_ACCCTL write. -/
def accWord (write poison : Bool) (bank : BitVec 8) (word : BitVec 16) : Nat :=
  write.toNat * 2 ^ 30 + poison.toNat * 2 ^ 29 + bank.toNat * 2 ^ 16 + word.toNat

/-! ## Commands -/

/-! ## Bank 187 (R107, R438, R539) -/

/-- The two words of bank 187 that hold the event record at a place of the queue (log entry 91). -/
def evqWords (pos : Nat) : List Nat := [bankWord 187 (2 * (pos % 4096)), bankWord 187 (2 * (pos % 4096) + 1)]

/-- The words of bank 187 that hold the snapshot of a second: one of eight places after the event queue (log entry 91). -/
def inSnapshot (label w : Nat) : Bool := w / 4096 == bankWord 187 0 / 4096 + 2 + label % 8

/-- A word of bank 187 holds nothing now: what is written there next replaces it. -/
def State.idleWord (s : State) (w : Nat) : Bool :=
  w / 65536 == 187
    && !((List.range s.evq.recs.length).any (fun k => (evqWords (s.evq.pos + k)).contains w))
    && !(s.mgt.seconds.any (fun x => inSnapshot x.label w))

/-- Words lose their POISON: they are written anew. -/
def State.unpoison (s : State) (ok : Nat → Bool) : State :=
  s.setMem { s.mem with poison := s.mem.poison.filter (fun w => !(ok w)) }

/-- Records at the head of the event queue that read poisoned are discarded (R438), up to `k` of them. -/
def State.evqClean (s : State) : Nat → State
  | 0 => s
  | k + 1 =>
    match s.evq.recs, (evqWords s.evq.pos).find? (fun w => s.wordPoison w) with
    | _ :: t, some w =>
      let s := s.unpoison (fun w => (evqWords s.evq.pos).contains w)
      State.evqClean (State.consume { s with evq := { s.evq with recs := t, pos := (s.evq.pos + 1) % 4096 } } w 0) k
    | _, _ => s

/-- SCRUB_READ (R432, R484): below shutter step 7 the scrubber reads a word, in which the bits of `upset` have turned over. -/
def execScrubRead (b : Fin 192) (word : BitVec 16) (upset : BitVec 73) (s : State) : Outcome :=
  answer (if s.on MEM_SCRUB_EN && s.bankOn b && decide (s.shutter < 7) then
    (let w := bankWord b word.toNat
     let s := ((s.upset w upset.toNat).readMem w).2
     if s.idleWord w then s.unpoison (fun x => x == w) else s) else s)

/-- TEST_BLOCK (R435): `fails` are the bit positions that fail in the block. -/
def execTestBlock (b : Fin 192) (fails : BitVec 73) (s : State) : Outcome := answer (s.testBlock b fails.toNat)

/-- BUCKET_LEAK (R433). -/
def execBucketLeak (b : Fin 192) (s : State) : Outcome :=
  let l := s.get (MEM_BANK_STATUS_BUCKET b) - 1
  let s := s.set (MEM_BANK_STATUS_BUCKET b) l
  answer (if l ≤ s.get ECC_BUCKET_THRESH / 2 then
    s.setMem { s.mem with burst := s.mem.burst.filter (fun x => x != b.val) } else s)

/-- BIST_START (R437): the background test of a bank that is on. -/
def execBistStart (b : Fin 192) (s : State) : Outcome :=
  answer (if s.on MEM_BIST_EN && s.bankOn b && decide (s.shutter < 7) then s.startTest b true else s)

/-- MEM_CLAIM (R426): MEM_CLAIM written with GO 1 and REL 0. -/
def execMemClaim (b : BitVec 8) (s : State) : Outcome := answer (s.gated adr_MEM_CLAIM (fun s => s.memClaim b.toNat))

/-- MEM_RELEASE (R426): MEM_CLAIM written with GO 1 and REL 1. -/
def execMemRelease (b : BitVec 8) (s : State) : Outcome := answer (s.gated adr_MEM_CLAIM (fun s => s.memRelease b.toNat))

/-- ACC_WRITE (R427): MEM_ACCCTL written with GO 1 and WRITE 1; `coll` says that the write lost a collision (R429). -/
def execAccWrite (b : BitVec 8) (word : BitVec 16) (poison coll : Bool) (s : State) : Outcome :=
  answer (s.gated adr_MEM_ACCCTL (fun s => (s.accFields (accWord true poison b word)).accWrite coll))

/-- ACC_READ (R427): MEM_ACCCTL written with GO 1 and WRITE 0; the bits of `upset` have turned over in the word. -/
def execAccRead (b : BitVec 8) (word : BitVec 16) (upset : BitVec 73) (s : State) : Outcome :=
  answer (s.gated adr_MEM_ACCCTL (fun s => (s.accFields (accWord false false b word)).accRead upset.toNat))

/-- LOG_CLR (R440): ECC_LOGCTL written with CLR 1. -/
def execLogClr (s : State) : Outcome := answer (s.gated adr_ECC_LOGCTL (fun s => s.logClear))

/-- INJ_ARM (R443): ECC_INJ written with ARM 1 and these fields. -/
def execInjArm (v : W32) (s : State) : Outcome := answer (s.gated adr_ECC_INJ (fun s => s.injWrite (setBitN v.toNat 31)))

/-- LOGSEL_WRITE (R446). -/
def execLogselWrite (v : W32) (s : State) : Outcome := answer (s.gated adr_ECC_LOGSEL (fun s => s.logSelWrite v.toNat))

end Sys2Proof.Machine
end

