-- ==== Sys2Proof/Machine/Cipher.lean ====
section
/-! DEFINITION. The seals (R180 to R229): keys, transmit seals unit by unit, the lock chamber, verdicts and release. -/

namespace Sys2Proof.Machine

open Reg

/-! ## Keys -/

/-- The key in a slot, if it holds one. -/
def State.key (s : State) (k : Nat) : Option Key := Assoc.find k s.cip.keys

/-- Put a key into a slot. -/
def State.setKey (s : State) (k : Nat) (v : Key) : State :=
  { s with cip := { s.cip with keys := Assoc.put k v s.cip.keys } }

/-- Empty a slot (R201). -/
def State.dropKey (s : State) (k : Nat) : State := { s with cip := { s.cip with keys := Assoc.drop k s.cip.keys } }

/-- The count that warns (R190) and the limit (R191). -/
def warnCount : Nat := 2 ^ 40 - 2 ^ 32
def spentCount : Nat := 2 ^ 40

/-- The slot is the current key of an enabled tributary, in either direction (R62). -/
def State.keyCurrent (s : State) (k : Nat) : Bool :=
  s.tribList.any (fun p => (s.trib p.1 p.2).active && s.get (CIP_T_KEY_CURRENT p.1 p.2) == k)

/-- The slot is the staged key of an enabled tributary (R62). -/
def State.keyStaged (s : State) (k : Nat) : Bool :=
  s.tribList.any (fun p => (s.trib p.1 p.2).active && s.on (CIP_T_KEY_STV p.1 p.2)
    && s.get (CIP_T_KEY_STAGED p.1 p.2) == k)

/-- The state of a key slot (R61, R232): 0 empty, 1 loaded, 2 current, 3 staged. -/
def State.keyState (s : State) (k : Nat) : Nat :=
  match s.key k with
  | none => 0
  | some _ => if s.keyCurrent k then 2 else if s.keyStaged k then 3 else 1

/-- A 56-bit seal counter from its two registers (R231). -/
def State.ctr (s : State) (d n : Nat) : Nat := s.get (CIP_T_CTRHI_CTR d n) * 2 ^ 32 + s.get (CIP_T_CTRLO_CTR d n)

/-- Put a 56-bit seal counter into its registers. -/
def State.setCtr (s : State) (d n v : Nat) : State :=
  (s.set (CIP_T_CTRLO_CTR d n) (v % 2 ^ 32)).set (CIP_T_CTRHI_CTR d n) (v / 2 ^ 32)

/-- The nonce of R184. -/
def nonce (epoch role trib ctr : Nat) : Nat :=
  epoch % 2 ^ 24 * 2 ^ 72 + role % 2 * 2 ^ 71 + trib % 1024 * 2 ^ 56 + ctr % 2 ^ 56

/-- The seal header of R182 as a 64-bit number. -/
def sealHeader (kph nkph epoch ctr : Nat) : Nat :=
  (kph % 2 * 128 + nkph % 2 * 64) * 2 ^ 56 + epoch % 2 ^ 24 * 2 ^ 32 + ctr % 2 ^ 32

/-- Multiply by a power of the hash key. -/
def ghashShift (key : Nat) (v : Nat) : Nat → Nat
  | 0 => v
  | k + 1 => ghashShift key (Aes.gmul v (Aes.enc key 0)) k

/-- The final GHASH value of a seal of B units from the value over its B − 1 ciphertext blocks: the header is the only
additional data (R180), entered by linearity, then the lengths block. -/
def sealHash (key b header acc : Nat) : Nat :=
  let lens := 64 * 2 ^ 64 + (16 * b - 24) * 8
  Nat.xor (Aes.ghashStep key acc lens) (ghashShift key (header * 2 ^ 64) (b + 1))

/-- The tag of a seal. -/
def sealTag (key iv b header acc : Nat) : Nat := Aes.tagOf key iv (sealHash key b header acc)

/-! ## STOPPED -/

/-- A tributary enters STOPPED with a cause: 1 seal limit, 2 counter limit, 3 wipe (R60, R188, R191, R206, R230). -/
def State.stopTrib (s : State) (d n cause : Nat) : State :=
  let t := s.trib d n
  let s := s.setTrib d n { t with stop := cause, tx := { t.tx with opened := none } }
  (s.setB (CIP_T_EVENT_STOPPED d n) true).post srcCIP 0x06 (hTrib d n) [cause]

/-! ## Transmit: client bytes -/

/-- What fills the stream when no client byte is ready (R23, R150, R152, R153, R177): bytes and what they count in INS. -/
def fillBytes (ethernet : Bool) (f : TxFill) : List Byte × Nat :=
  match f with
  | .client => if ethernet then (Client.pack (List.replicate 32 Client.idle), 32) else (Client.fillerCell 0, 1)
  | .hostFail => if ethernet then (Client.pack (List.replicate 32 Client.localFault), 0) else (Client.fillerCell 3, 1)
  | .filler => if ethernet then (Client.pack (List.replicate 32 Client.idle), 32) else (Client.fillerCell 0, 1)

/-- How many waiting client blocks may go: whole frames, so that idles fall between frames only (R150); all of them once the
buffer is full (DESIGN CHOICE, log entry 85: the spec does not say how long a frame waits). -/
def readyBlocks (t : TribTx) : Nat :=
  if Config.txBlocks ≤ t.blocks.length then t.blocks.length else (Client.gapPlace t.outFrame t.blocks).getD 0

/-- Client blocks that wait go out, with idles between frames completing their group of 32 (R149, R150). A frame that has
begun and has nothing left is ended by an error block, and the rest of it is discarded (log entry 85). -/
def takeBlocks (t : TribTx) : TribTx × Nat :=
  let bs := t.blocks.take (min 32 (readyBlocks t))
  let rest := t.blocks.drop bs.length
  let n := 32 - bs.length
  let put (all blocks : List Client.Block) (skip : Bool) : TribTx := { t with
    blocks := blocks, skipping := skip, outFrame := all.foldl Client.inFrameAfter t.outFrame
    buf := t.buf ++ (Client.pack all).map (fun b => ⟨b, false, false⟩) }
  match (if n = 0 then some 32 else Client.gapPlace t.outFrame bs) with
  | some g => (put (bs.take g ++ List.replicate n Client.idle ++ bs.drop g) rest t.skipping, n)
  | none =>
    let next := rest.dropWhile (fun b => !(Client.isStart b))
    (put (bs ++ Client.errorBlock :: List.replicate (n - 1) Client.idle) next (next.isEmpty), n - 1)

/-- INS of a transmit tributary, with the PM count beside it (R178, R534). -/
def State.insCount (s : State) (n k : Nat) : State := s.bumpPm (TRB_T_INS_COUNT 0 n) 0 n 2 k

/-- Make sure that the cipher finds the k bytes that it needs (R23, R153). -/
def State.topUp (s : State) (n k : Nat) : State :=
  let t := (s.trib 0 n).tx
  if k ≤ t.buf.length then s
  else
    let eth := tdEthernet (s.trib 0 n).desc
    if eth && t.fill == .client then
      let r := takeBlocks t
      (s.setTribTx n r.1).insCount n r.2
    else
      let r := fillBytes eth t.fill
      (s.setTribTx n { t with buf := t.buf ++ r.1.map (fun b => ⟨b, false, false⟩) }).insCount n r.2

/-! ## Transmit: seals -/

/-- Start the tributary's next seal under its current key (R184, R187, R190). In STOPPED or with no key no seal is made (R192); at the
counter's end (R188), or under a spent key, the tributary enters STOPPED. -/
def State.openSeal (s : State) (n : Nat) : State :=
  let t := s.trib 0 n
  let slot := s.get (CIP_T_KEY_CURRENT 0 n)
  match s.key slot with
  | none => s.setTribTx n { t.tx with opened := none }
  | some k =>
    if t.stop ≠ 0 then s.setTribTx n { t.tx with opened := none }
    else if t.tx.ctrEnd then s.stopTrib 0 n 2
    else if spentCount ≤ k.count then s.stopTrib 0 n 1
    else
      let c := s.ctr 0 n
      let kph := s.get (CIP_T_KEY_KPH 0 n)
      let s := s.setTribTx n { t.tx with
        ctrEnd := decide (c = 2 ^ 56 - 1)
        opened := some ⟨slot, k.key, k.role, s.get CIP_EPOCH_EPOCH, c, kph, kph, s.get (CIP_T_SEAL_UNITS 0 n), 0, 0,
          false, false⟩ }
      let s := if c = 2 ^ 56 - 1 then s else s.setCtr 0 n (c + 1)
      s.setKey slot { k with count := k.count + 1 }

/-- The staged key becomes current (R225, R226). -/
def State.rollKey (s : State) (d n : Nat) : State :=
  let slot := s.get (CIP_T_KEY_STAGED d n)
  let s := (s.set (CIP_T_KEY_CURRENT d n) slot).set (CIP_T_KEY_KPH d n) (1 - s.get (CIP_T_KEY_KPH d n))
  let s := (s.setB (CIP_T_KEY_STV d n) false).setB (CIP_T_EVENT_ROLLED d n) true
  s.post srcCIP 0x05 (hTrib d n) [slot]

/-- A transmit tributary rolls: nothing of a KEYROLL pends any longer (R225, R228). -/
def State.rollTx (s : State) (n : Nat) : State :=
  ((s.setTribTx n { (s.trib 0 n).tx with rollDue := false, rollArmed := false }).setB (CIP_T_KEY_PEND 0 n) false).rollKey 0 n

/-- What is left of the superframe: the units of a tributary of S slots from unit `k` of frame FNUM on. -/
def unitsLeft (fnum sl k : Nat) : Nat := (256 - fnum) * sl - k

/-- The current key of a transmit tributary has reached its limit (R191). -/
def State.keySpent (s : State) (n : Nat) : Bool :=
  match s.key (s.get (CIP_T_KEY_CURRENT 0 n)) with
  | some k => decide (spentCount ≤ k.count)
  | none => false

/-- The next seal: with a spent key the tributary rolls at once if a key is staged (R191). -/
def State.startSeal (s : State) (n : Nat) : State :=
  (if (s.trib 0 n).stop = 0 ∧ s.keySpent n = true ∧ s.on (CIP_T_KEY_STV 0 n) = true then s.rollTx n else s).openSeal n

/-- What is left of the line cell, or of the 257 bytes of blocks, that has begun to leave a buffer. -/
def cellRest (d : List Nat) (buf : List RxByte) : List RxByte := buf.take (buf.length % (if tdEthernet d then 257 else 129))

/-- After a seal has ended: it counts, a roll its header announced takes place, a drain turns to filler, and the next seal
starts (R145, R174, R188, R191, R225, R130). -/
def State.sealBoundary (s : State) (n : Nat) : State :=
  let t := s.trib 0 n
  match t.tx.opened with
  | none => s
  | some sl =>
    if sl.unit < sl.b then s
    else
      let s := if sl.void then s else s.bumpPm (CIP_T_OK_COUNT 0 n) 0 n 0 1
      let s := s.setTribTx n { (s.trib 0 n).tx with opened := none }
      let s := if sl.nkph ≠ sl.kph ∧ s.on (CIP_T_KEY_STV 0 n) = true then s.rollTx n else s
      let s := if t.tx.drain then
        s.setTribTx n { (s.trib 0 n).tx with
          fill := .filler, removing := true, drain := false, blocks := [], buf := cellRest t.desc t.tx.buf }
        else if t.tx.resume then s.setTribTx n { (s.trib 0 n).tx with fill := .client, resume := false } else s
      if t.stop ≠ 0 then s else s.startSeal n

/-- The words that placement gave an object for a role, in order: a block's word address (R610, R213). -/
def areaWord (allocs : List Alloc) (role obj : Nat) (w : Nat) : Option Nat :=
  (allocs.foldl (fun (p : Option Nat × Nat) a =>
    if a.role = role ∧ a.obj = obj ∧ p.1 = none then
      (if p.2 < a.words then (some (a.bank * 65536 + a.start + p.2), p.2) else (none, p.2 - a.words))
    else p) (none, w)).1

/-- A consumer takes in some words (R420, R438): flipped bits go through the checker; the places among them of the poisoned ones, each counted,
with one CONSUME event if `event` says that the seal, record or access has had none. -/
def State.takeWords (s : State) (ws : List Nat) (consumer : Nat) (event : Bool) : List Nat × State :=
  if s.mem.flips.isEmpty && s.mem.poison.isEmpty then ([], s)
  else
    let s := (ws.filter (fun w => (Assoc.find w s.mem.flips).isSome)).foldl (fun s w => (s.readMem w).2) s
    let bad := (List.range ws.length).filter (fun i => s.mem.poison.contains (ws.getD i 0))
    (bad, (bad.foldl (fun (p : Bool × State) i => (false, p.2.consume (ws.getD i 0) consumer p.1)) (event, s)).2)

/-- Two words of a buffer of an object are taken in: its bytes go round the words that placement gave it (log entry 91), and their words are
written anew. -/
def State.takeBuffer (s : State) (role obj at_ : Nat) (event : Bool) : List Nat × State :=
  let words := ((s.mem.allocs.filter (fun a => a.role == role && a.obj == obj)).map (fun a => a.words)).sum
  let ws := [0, 1].filterMap (fun i => areaWord s.mem.allocs role obj ((at_ + i) % words))
  let (bad, s) := s.takeWords ws 2 event
  (bad, if bad.isEmpty then s else s.setMem { s.mem with poison := s.mem.poison.filter (fun w => !(ws.contains w)) })

/-- Bytes of poisoned words carry memory poison. -/
def markWords (bad : List Nat) (l : List RxByte) : List RxByte :=
  if bad.isEmpty then l else l.zipIdx.map (fun p => if bad.contains (p.2 / 8) then { p.1 with mem := true } else p.1)

/-- Take k plaintext bytes for the seal; those that stood in a poisoned word of the rate-adaptation or the seal assembly buffer are poisoned
(R438), which is reported once a seal. -/
def State.takePlain (s : State) (n k : Nat) : List RxByte × State :=
  let s := s.topUp n k
  let o := (s.trib 0 n).tx.opened
  let at_ := 2 * (o.map (fun o => o.unit)).getD 0
  let first := !((o.map (fun o => o.invert)).getD false)
  let (badR, s) := s.takeBuffer 6 (hTrib 0 n) at_ first
  let (badS, s) := s.takeBuffer 7 (hTrib 0 n) at_ (first && badR.isEmpty)
  let t := (s.trib 0 n).tx
  (markWords (badR ++ badS) (t.buf.take k), s.setTribTx n { t with buf := t.buf.drop k })

/-- Bytes with zero in place of poisoned ones (R438). -/
def cleanBytes (l : List RxByte) : List Byte := l.map (fun b => if b.mem || b.bad then 0 else b.byte)

/-- Unit `i` of an open seal and the seal after it (R144, R145, R180 to R182). `plain` are the plaintext bytes it takes. -/
def sealUnit (n nkph : Nat) (sl : TxSeal) (plain : List RxByte) : List Byte × TxSeal :=
  let iv := nonce sl.epoch sl.role n sl.ctr
  let inv := sl.invert || plain.any (fun b => b.mem || b.bad)
  if sl.void then (List.replicate 16 0, { sl with unit := sl.unit + 1 })
  else if sl.unit + 2 < sl.b then
    let c := Nat.xor (natBE (cleanBytes plain)) (Aes.keystream sl.key iv (sl.unit + 1))
    (bytesBE 16 c, { sl with unit := sl.unit + 1, ghash := Aes.ghashStep sl.key sl.ghash c, invert := inv })
  else if sl.unit + 2 = sl.b then
    let c := Nat.xor (natBE (cleanBytes plain)) (Aes.keystream sl.key iv (sl.unit + 1) / 2 ^ 64)
    (bytesBE 8 c ++ bytesBE 8 (sealHeader sl.kph nkph sl.epoch sl.ctr),
      { sl with unit := sl.unit + 1, ghash := Aes.ghashStep sl.key sl.ghash (c * 2 ^ 64), invert := inv, nkph := nkph })
  else
    let tag := sealTag sl.key iv sl.b (sealHeader sl.kph sl.nkph sl.epoch sl.ctr) sl.ghash
    (bytesBE 16 (if sl.invert then 2 ^ 128 - 1 - tag else tag), { sl with unit := sl.unit + 1 })

/-- The next unit of a transmit tributary, the `k`-th of its S in frame FNUM: a zero unit in STOPPED or before its first
seal (R192). -/
def State.nextUnit (s : State) (n sl fnum k : Nat) : List Byte × State :=
  let s := match (s.trib 0 n).tx.opened with
    | some o => if o.unit = o.b then s.sealBoundary n else s
    | none => s
  match (s.trib 0 n).tx.opened with
  | none => (List.replicate 16 0, s)
  | some o =>
    let (plain, s) :=
      if o.unit + 2 < o.b then s.takePlain n 16
      else if o.unit + 2 = o.b then s.takePlain n 8 else ([], s)
    let t := (s.trib 0 n).tx
    let rolls := s.on (CIP_T_KEY_STV 0 n) && (s.keySpent n || t.rollArmed || (t.rollDue && decide (unitsLeft fnum sl k ≤ 2)))
    let (u, o') := sealUnit n (if rolls then 1 - o.kph else o.kph) o plain
    (u, s.setTribTx n { t with opened := some o' })

/-- The units of one frame of a tributary: S of them, in order. -/
def State.nextUnits (s : State) (n sl fnum : Nat) : List (List Byte) × State :=
  (List.range sl).foldl (fun (p : List (List Byte) × State) k =>
    let r := p.2.nextUnit n sl fnum k
    (p.1 ++ [r.1], r.2)) ([], s)

/-! ## Receive: the lock chamber -/

/-- RXSTATE of R209: 0 IDLE, 1 HUNT, 2 SKIP, 3 TRACK. -/
def State.rxState (s : State) (n : Nat) : Nat := s.get (CIP_T_SEAL_RXSTATE 1 n)

/-- The two words of a block of a receive tributary's lock-chamber area (R213). -/
def State.areaBlock (s : State) (n blk : Nat) : List Nat :=
  [0, 1].filterMap (fun i => areaWord s.mem.allocs 3 (hTrib 1 n) (2 * blk + i))

/-- The carrier pair is a protection group that is configured and enabled (R255). -/
def State.pairOn (s : State) : Bool := [0, 1].any (fun c => (s.car c).active && cdCprot (s.car c).desc != 0)

/-- The carrier that delivers a receive tributary: the selected copy under protection (R255), its CARRIER or the one whose
map gives it slots. -/
def State.rxCarrier (s : State) (n : Nat) : Nat :=
  let t := s.trib 1 n
  if s.pairOn then s.get FRM_CPG_STATUS_SEL
  else if tdTprot t.desc = 1 then s.get (FRM_TP_STATUS_SEL n)
  else if tdCarrier t.desc = 2 then (if t.rx.copyA.slots = 0 ∧ t.rx.copyB.slots ≠ 0 then 1 else 0)
  else tdCarrier t.desc

/-- A receive tributary has no valid line data from its carrier (R177, R249): the carrier it is taken from is in SF, under
protection the one that the request in force selects. -/
def State.srcFailed (s : State) (n : Nat) : Bool :=
  s.on (FRM_C_STATUS_SF (if s.pairOn then s.pairProt.want
    else if tdTprot (s.trib 1 n).desc = 1 then (s.trib 1 n).prot.want else s.rxCarrier n))

/-- Bytes of plaintext in a seal of B units (R145). -/
def plainBytes (b : Nat) : Nat := 16 * b - 24

/-- Update the seal at place `i` of the chamber. -/
def TribRx.setSeal (r : TribRx) (i : Nat) (sl : RxSeal) : TribRx := { r with seals := r.seals.set i sl }

/-- The front seal's next block is read for release (R213, R219, R220, R438): whether it is poisoned. -/
def State.blockBad (s : State) (n : Nat) (sl : RxSeal) : Bool × State :=
  let (bad, s) := s.takeWords (s.areaBlock n (sl.areaAt + sl.released / 16)) 3 true
  (!bad.isEmpty || (match sl.area[sl.released / 16]? with | some b => b.bad | none => false), s)

/-- Sixteen released bytes pass the receive rate-adaptation buffer (R438): as they are, or with a poisoned word among them. -/
def State.rateBuffer (s : State) (n : Nat) (sl : RxSeal) (bytes : List Byte) : List Release × State :=
  let (bad, s) := s.takeBuffer 6 (hTrib 1 n) (2 * (sl.released / 16)) true
  let part (i : Nat) : List Release :=
    let w := (bytes.drop (8 * i)).take 8
    if w.isEmpty then [] else if bad.contains i then [.poisoned w] else [.plain w]
  (if bad.isEmpty then [.plain bytes] else part 0 ++ part 1, s)

/-- A seal has failed (R219 to R222, R209): counted once, reported with RELBYTES (R218), and the prediction moved on, unless the
seal had verified and moved it already. -/
def State.failSeal (s : State) (n i cause : Nat) : State :=
  let r := (s.trib 1 n).rx
  match r.seals[i]? with
  | none => s
  | some sl =>
    let rel := sl.released - min sl.released (r.unhanded (tdEthernet (s.trib 1 n).desc))
    let early := decide (0 < rel)
    let s := (s.bump (CIP_T_FAIL_COUNT 1 n) 1).setB (CIP_T_EVENT_FAIL 1 n) true
    let s := s.set (CIP_T_LAST_CAUSE 1 n) cause
    let s := if cause = 4 then s.setB (CIP_T_EVENT_STALE 1 n) true else s
    let s := if early then s.setB (CIP_T_EVENT_EARLYCUT 1 n) true else s
    let bad := decide (cause = 3 ∨ cause = 4)
    let s := s.setTribRx n { (r.setSeal i { sl with verdict := .failed cause early }) with
      fails := if sl.verdict = .verified then r.fails else if bad then r.fails + 1 else 0
      predCtr := if sl.verdict = .verified then r.predCtr else r.predCtr + 1 }
    let s := s.pmCount (hTrib 1 n) 1 1
    (s.pmc 0x07 (s.rxCarrier n) 1).post srcCIP 0x01 (hTrib 1 n) [cause, early.toNat, rel]

/-- Release from the front of the chamber (R215 to R222): up to `k` further blocks of a verified seal, or of an open one
under early release; a failed or discarded seal gives its marker and replacement and its area goes to zeroing. While the
carrier is in SF, replacement with cause LINE stands in the place of the bytes (R249). -/
def State.releaseFront (s : State) (n : Nat) : Nat → State
  | 0 => s
  | k + 1 =>
    let r := (s.trib 1 n).rx
    match r.seals with
    | [] => s
    | sl :: rest =>
      let total := plainBytes sl.b
      let step (s : State) : State :=
        let (bad, s) := s.blockBad n sl
        if bad then (s.failSeal n 0 2).releaseFront n k
        else
          let bytes := (bytesBE 16 ((sl.area[sl.released / 16]?).getD ⟨0, false⟩).data).take (total - sl.released)
          let sl' := { sl with released := sl.released + bytes.length }
          let done := decide (sl'.released ≥ total) && sl.verdict == .verified
          let (items, s) := if s.srcFailed n then ([.replace bytes.length 2], s) else s.rateBuffer n sl bytes
          let r' := { r with out := r.out ++ items, seals := if done then rest else sl' :: rest }
          (s.setTribRx n r').releaseFront n k
      match sl.verdict with
      | .waiting =>
        if s.on (CIP_T_SEAL_EARLY 1 n) && !sl.skip && sl.poison != 1 && decide (sl.released / 16 < sl.area.length)
          && decide (sl.released < total) then step s else s
      | .verified => if sl.released < total then step s else (s.setTribRx n { r with seals := rest }).releaseFront n k
      | .failed _ cut =>
        if sl.complete then
          let mark : List Release := if cut then [.marker] else []
          (s.setTribRx n { r with seals := rest, zeroing := insertNat sl.areaAt r.zeroing
                                  out := r.out ++ mark ++ [.replace (total - sl.released) (if s.srcFailed n then 2 else 1)] }).releaseFront n k
        else s
      | .discarded cause =>
        (s.setTribRx n { r with seals := rest, zeroing := insertNat sl.areaAt r.zeroing
                                out := r.out ++ [.replace (total - sl.released) cause] }).releaseFront n k

/-- Number of blocks that may move in one command: every block of the chamber. -/
def releaseAll : Nat := 2000000

/-- The header of a received seal: KPH, NKPH, EPOCH, SEQ (R182). -/
def hdrKph (h : List Byte) : Nat := natBE h / 2 ^ 63 % 2
def hdrNkph (h : List Byte) : Nat := natBE h / 2 ^ 62 % 2
def hdrEpoch (h : List Byte) : Nat := natBE h / 2 ^ 32 % 2 ^ 24
def hdrSeq (h : List Byte) : Nat := natBE h % 2 ^ 32

/-- The counter a header means (R210): the smallest above the last verified one of the same epoch with these low bits. -/
def resyncCtr (hasLast : Bool) (lastEpoch lastCtr epoch seq : Nat) : Nat :=
  if hasLast && lastEpoch == epoch then
    let base := lastCtr / 2 ^ 32 * 2 ^ 32 + seq
    if base > lastCtr then base else base + 2 ^ 32
  else seq

/-- The far end has rolled and no key is staged (R226, R230). -/
def State.noKey (s : State) (n : Nat) : State :=
  (s.setB (CIP_T_EVENT_NOKEY 1 n) true).post srcCIP 0x03 (hTrib 1 n) []

/-- The staged key becomes current in the receive direction, at the phase that a header names; the last verified value is
reset (R211, R226). -/
def State.rxRollTo (s : State) (n phase : Nat) : State :=
  ((s.setTribRx n { (s.trib 1 n).rx with hasLast := false }).rollKey 1 n).set (CIP_T_KEY_KPH 1 n) phase

/-- Take the prediction from a header (R209, R210): the first header after an enable gives the phase as its KPH (log entry 30), and
one that names the other phase rolls the tributary if a key is staged (R226). -/
def State.resync (s : State) (n : Nat) (h : List Byte) : State :=
  let s := if (s.trib 1 n).rx.phaseKnown then s else s.set (CIP_T_KEY_KPH 1 n) (hdrKph h)
  let cur := s.get (CIP_T_KEY_KPH 1 n)
  let s := if hdrNkph h = cur ∧ hdrKph h = cur then s
    else if s.on (CIP_T_KEY_STV 1 n) then s.rxRollTo n (hdrNkph h)
    else if hdrNkph h = cur then s else s.noKey n
  let r := (s.trib 1 n).rx
  let c := resyncCtr r.hasLast (s.get (CIP_T_LAST_EPOCH 1 n)) (s.ctr 1 n) (hdrEpoch h) (hdrSeq h)
  let s := s.setTribRx n { r with predEpoch := hdrEpoch h, predCtr := c + 1, phaseKnown := true }
  (s.setB (CIP_T_EVENT_RESYNC 1 n) true).post srcCIP 0x02 (hTrib 1 n) []

/-- The receive direction rolls when a verified header announces it (R226). -/
def State.rxRoll (s : State) (n : Nat) (h : List Byte) : State :=
  if hdrNkph h = s.get (CIP_T_KEY_KPH 1 n) then s
  else if s.on (CIP_T_KEY_STV 1 n) then s.rxRollTo n (hdrNkph h)
  else s.noKey n

/-- The keystream and tag are taken under the receive role: ROLE inverted (R184). -/
def rxRole (role : Nat) : Nat := 1 - role % 2

/-- B of R145 for a tributary's own SLOTS and policy: the blocks of half its area (R212). -/
def State.ownUnits (s : State) (d : List Nat) : Nat := sealUnits (s.tribSlots d) (s.polMax (tdSealpol d))

/-- The half of the area that the next seal takes still holds a seal, or is being zeroed (R213, R224). -/
def TribRx.halfBusy (r : TribRx) : Bool := r.zeroing.contains r.areaAt || r.seals.any (fun sl => sl.areaAt == r.areaAt)

/-- A new seal begins in the chamber under the prediction (R209). -/
def State.openRx (s : State) (n : Nat) : State :=
  let r := (s.trib 1 n).rx
  let slot := s.get (CIP_T_KEY_CURRENT 1 n)
  let b := s.get (CIP_T_SEAL_UNITS 1 n)
  let k := (s.key slot).getD ⟨0, 0, 0, 0, 0, false, false⟩
  s.setTribRx n { r with
    dirty := insertNat r.areaAt r.dirty
    seals := r.seals ++ [⟨slot, k.key, rxRole k.role, r.predEpoch, r.predCtr, s.get (CIP_T_KEY_KPH 1 n), b, 0, 0, [], 0,
      [], .waiting, 0, 0, false, decide (s.rxState n = 2), r.areaAt⟩]
    areaAt := if r.areaAt = 0 then s.ownUnits (s.trib 1 n).desc else 0 }

/-- A unit joins the open seal (R181, R213): decrypted, hashed, or taken as header and tag. -/
def rxSealUnit (n : Nat) (sl : RxSeal) (u : List RxByte) : RxSeal :=
  let iv := nonce sl.epoch sl.role n sl.ctr
  let raw := u.map (fun b => b.byte)
  let p := if u.any (fun b => b.bad) then 1 else if sl.poison = 0 ∧ u.any (fun b => b.mem) then 2 else sl.poison
  let sl := { sl with units := sl.units + 1, poison := p }
  let i := sl.units - 1
  if i + 2 < sl.b then
    let c := natBE raw
    { sl with ghash := Aes.ghashStep sl.key sl.ghash c
              area := sl.area ++ [⟨Nat.xor c (Aes.keystream sl.key iv (i + 1)), u.any (fun b => b.mem)⟩] }
  else if i + 2 = sl.b then
    let c := natBE (raw.take 8)
    { sl with ghash := Aes.ghashStep sl.key sl.ghash (c * 2 ^ 64), hdr := raw.drop 8
              area := sl.area ++ [⟨Nat.xor c (Aes.keystream sl.key iv (i + 1) / 2 ^ 64) * 2 ^ 64,
                (u.take 8).any (fun b => b.mem)⟩] }
  else { sl with tag := natBE raw, complete := true }

/-- A decrypted block is written to its two words of the area with its poison bit (R213, R421): what stood there is
gone. The plaintext itself stands in the seal. -/
def State.areaWrite (s : State) (n blk : Nat) (bad : Bool) : State :=
  [0, 1].foldl (fun s i => match areaWord s.mem.allocs 3 (hTrib 1 n) (2 * blk + i) with
    | some w => s.setMem { s.mem with
        poison := if bad then insertNat w s.mem.poison else s.mem.poison.filter (fun x => x != w)
        flips := Assoc.drop w s.mem.flips }
    | none => s) s

/-- A received unit reaches CIP (R209, R213, R217, R220). In HUNT, IDLE and STOPPED no seal is kept, but that a drain takes the rest of
the seal it began with (R174). A new seal waits for the verdict of the one before (log entry 12) and for its half of the area. An empty unit stands for a seal that a commit point could not take (R261):
it is replaced once the seals before it have left. -/
def State.receiveUnit (s : State) (n : Nat) : State :=
  let s := s.releaseFront n releaseAll
  let t := s.trib 1 n
  match t.rx.toCip with
  | [] => s
  | u :: rest =>
    let fresh := match t.rx.seals.getLast? with
      | some sl => sl.complete
      | none => true
    let pendingVerdict := t.rx.seals.any (fun sl => sl.complete && sl.verdict == .waiting)
    if (s.rxState n < 2 ∧ (fresh = true ∨ t.ost ≠ .draining)) ∨ t.active = false ∨ t.stop ≠ 0 then s.setTribRx n { t.rx with toCip := rest }
    else if fresh && (t.rx.last || t.ost == .draining) then s.setTribRx n { t.rx with toCip := rest }
    else if u.isEmpty then
      (if t.rx.seals.isEmpty then s.setTribRx n { t.rx with
          toCip := rest, out := t.rx.out ++ [.replace (plainBytes (s.get (CIP_T_SEAL_UNITS 1 n))) 2] } else s)
    else if fresh && (pendingVerdict || t.rx.halfBusy) then s
    else
      let s := s.setTribRx n { t.rx with toCip := rest }
      let s := if fresh then s.openRx n else s
      let i := (s.trib 1 n).rx.seals.length - 1
      match (s.trib 1 n).rx.seals[i]? with
      | none => s
      | some sl =>
        let (bad, s) := s.takeBuffer 4 (hTrib 1 n) (2 * sl.units) (sl.poison == 0)
        let u := markWords bad u
        let r := (s.trib 1 n).rx
        let sl' := rxSealUnit n sl u
        let s := s.setTribRx n (r.setSeal i sl')
        let s := if sl.units + 1 < sl.b then s.areaWrite n (sl.areaAt + sl.units) (u.any (fun b => b.mem)) else s
        let s := if sl'.poison = 1 ∧ sl.verdict = .waiting ∧ sl.skip = false then s.failSeal n i 1 else s
        s.releaseFront n releaseAll

/-- The tag verdict of the oldest complete seal that waits for it (R209, R211, R214, R219, R226): under held release the first block
of a verified seal goes at once (R215). Memory poison of a ciphertext byte fails the seal when its block is read for release (R220), of a
trailer byte here, and comes before MISMATCH and STALE (R219). Where
cells and blocks stand in the plaintext of a stream picked up in passing is not stated: a free value (log entry 28). -/
def State.tagVerdict (s : State) (n : Nat) : State :=
  let r := (s.trib 1 n).rx
  match r.seals.findIdx? (fun sl => sl.complete && sl.verdict == .waiting) with
  | none => s
  | some i =>
    match r.seals[i]? with
    | none => s
    | some sl =>
      let iv := nonce sl.epoch sl.role n sl.ctr
      if sl.skip then
        let s := s.setTribRx n (r.setSeal i { sl with verdict := .discarded 2, area := [] })
        let s := s.resync n sl.hdr
        let s := if s.rxState n = 2 then s.set (CIP_T_SEAL_RXSTATE 1 n) 3 else s
        let s := (s.setTribRx n { (s.trib 1 n).rx with fails := 0 }).releaseFront n releaseAll
        let v := s.free
        let r := (v.2.trib 1 n).rx
        v.2.setTribRx n { r with out := r.out ++ [.align v.1] }
      else if sl.poison = 2 ∧ (sl.area.any (fun b => b.bad) = false ∨ sealTag sl.key iv sl.b (natBE sl.hdr) sl.ghash ≠ sl.tag) then
        (s.failSeal n i 2).releaseFront n releaseAll
      else if sealTag sl.key iv sl.b (natBE sl.hdr) sl.ghash = sl.tag then
        let le := s.get (CIP_T_LAST_EPOCH 1 n)
        let lc := s.ctr 1 n
        let fresh := !r.hasLast || r.lastKey != some sl.key || decide (le < sl.epoch ∨ (le = sl.epoch ∧ lc < sl.ctr))
        if fresh then
          let s := s.setTribRx n { (r.setSeal i { sl with verdict := .verified }) with
            fails := 0, hasLast := true, lastKey := some sl.key, predCtr := sl.ctr + 1, predEpoch := sl.epoch }
          let s := (s.set (CIP_T_LAST_EPOCH 1 n) sl.epoch).setCtr 1 n sl.ctr
          let s := (s.bump (CIP_T_OK_COUNT 1 n) 1).pmc 0x06 (s.rxCarrier n) 1
          let s := s.pmCount (hTrib 1 n) 0 1
          let s := s.rxRoll n sl.hdr
          s.releaseFront n (if s.on (CIP_T_SEAL_EARLY 1 n) then releaseAll else 1)
        else if sl.poison = 2 then (s.failSeal n i 2).releaseFront n releaseAll
        else
          let s := s.failSeal n i 4
          let s := if 1 ≤ r.fails then s.resync n sl.hdr else s
          s.releaseFront n releaseAll
      else
        let s := s.failSeal n i 3
        let s := if 1 ≤ r.fails then s.resync n sl.hdr else s
        s.releaseFront n releaseAll

/-- Discard every seal in the chamber (R174, R204): nothing more is released, areas go to zeroing. -/
def State.discardSeals (s : State) (n cause : Nat) : State :=
  let r := (s.trib 1 n).rx
  s.setTribRx n { r with
    seals := [], toCip := []
    zeroing := r.seals.foldl (fun z sl => insertNat sl.areaAt z) r.zeroing
    out := r.out ++ r.seals.map (fun sl => .replace (plainBytes sl.b - sl.released) cause) }

/-- A seal that will get no more units, or no verdict, is discarded: the open one (R170), and the first whole seal of SKIP. -/
def RxSeal.discardOpen (sl : RxSeal) : RxSeal :=
  if sl.verdict == .waiting && (!sl.complete || sl.skip) then { sl with complete := true, verdict := .discarded 2, area := [] }
  else { sl with complete := true }

/-- A receive tributary goes back to HUNT (R209): its open seal is discarded with no failure counted; whole seals stay. One that drains
only loses its open seal. -/
def State.toHunt (s : State) (n : Nat) : State :=
  let t := s.trib 1 n
  if s.rxState n = 0 ∧ t.ost ≠ .draining then s
  else
    let s := s.setTribRx n { t.rx with
      lastId := none, toCip := [], seals := t.rx.seals.map RxSeal.discardOpen
      copyA := { t.rx.copyA with known := false, started := false, phase := none, place := 0, units := [], seals := [] }
      copyB := { t.rx.copyB with known := false, started := false, phase := none, place := 0, units := [], seals := [] } }
    let s := s.releaseFront n releaseAll
    if t.ost = .draining then s else s.set (CIP_T_SEAL_RXSTATE 1 n) 1

end Sys2Proof.Machine
end

