-- ==== Sys2Proof/Machine/Fix.lean ====
section
/-! DEFINITION. Logarithms, exponentials and the error function in fixed point with 96 fraction bits, for the monitors
that the spec defines by real functions (R296, R333). Results are rounded down (log entry 13). -/

namespace Sys2Proof.Machine.Fix

/-- One. -/
def one : Int := (2 : Int) ^ 96

/-- Product, rounded down. -/
def mul (a b : Int) : Int := a * b / one

/-- Quotient, rounded down. -/
def div (a b : Int) : Int := a * one / b

/-- A quotient of natural numbers. -/
def ofRatio (a b : Nat) : Int := (a : Int) * one / (b : Int)

/-- Sum of a power series: term k + 1 is term k times x / (k + 1). -/
def expSeries (x : Int) : Nat → Nat → Int → Int → Int
  | 0, _, _, acc => acc
  | n + 1, k, t, acc =>
    let t' := mul t x / ((k : Int) + 1)
    expSeries x n (k + 1) t' (acc + t')

/-- The exponential of a number between −1 and 1. -/
def expSmall (x : Int) : Int := expSeries x 60 0 one one

/-- Square a number k times. -/
def sqrN (x : Int) : Nat → Int
  | 0 => x
  | k + 1 => sqrN (mul x x) k

/-- The exponential. -/
def exp (x : Int) : Int := sqrN (expSmall (x / 256)) 8

/-- The natural logarithm of 10. -/
def ln10 : Int := ofRatio 2302585092994045684017991454684364208 1000000000000000000000000000000000000

/-- 10 to the power a / b. -/
def pow10 (a : Int) (b : Nat) : Int := exp (ln10 * a / (b : Int))

/-- A square root of a number that is not negative. -/
def sqrt (x : Int) : Int := (Nat.sqrt (x.toNat * 2 ^ 96) : Nat)

/-- Terms of the error function: t is z^(2k+1) / k! with its sign. -/
def erfSeries (z2 : Int) : Nat → Nat → Int → Int → Int
  | 0, _, _, acc => acc
  | n + 1, k, t, acc =>
    let t' := -(mul t z2) / ((k : Int) + 1)
    erfSeries z2 n (k + 1) t' (acc + t' / (2 * (k : Int) + 3))

/-- Two over the square root of pi. -/
def twoOverSqrtPi : Int := ofRatio 1128379167095512573896158903121545172 1000000000000000000000000000000000000

/-- erfc(z) for 0 ≤ z ≤ 6; beyond that it is taken as 0. -/
def erfc (z : Int) : Int :=
  if 6 * one < z then 0 else one - mul twoOverSqrtPi (erfSeries (mul z z) 200 0 z z)

/-- The bit error ratio of a Q factor: erfc(Q / √2) / 2. -/
def berOfQ (q : Int) : Int := erfc (div q (sqrt (2 * one))) / 2

/-- Bisection for the largest number in [lo, hi) for which a falling test holds. -/
def bisect (p : Int → Bool) : Nat → Int → Int → Int
  | 0, lo, _ => lo
  | k + 1, lo, hi =>
    let m := (lo + hi) / 2
    if p m then bisect p k m hi else bisect p k lo m

/-- The Q factor of a bit error ratio below one half: Q(x) of R296. -/
def qOfBer (b : Int) : Int := bisect (fun q => decide (b ≤ berOfQ q)) 100 0 (8 * one)

/-- 20 log10 of a ratio of positive numbers in 1/100, rounded down: the largest m with 10^(m/2000) ≤ ratio, within the
range of a signed 16-bit field. -/
def db20x100 (r : Int) : Int := bisect (fun m => decide (pow10 m 2000 ≤ r)) 17 (-32767) 32767

/-- 10 log10 of a ratio of positive numbers in 1/100, rounded down. -/
def db10x100 (r : Int) : Int := bisect (fun m => decide (pow10 m 1000 ≤ r)) 17 (-32767) 32767

/-- 10 log10 of a ratio of positive numbers in 1/25,600, rounded down. -/
def db10x25600 (r : Int) : Int := bisect (fun m => decide (pow10 m 256000 ≤ r)) 26 (-33554432) 33554432

/-- π. -/
def pi : Int := ofRatio 3141592653589793238462643383279502884 1000000000000000000000000000000000000

/-- Terms of the sine: t is x^(2k+1) / (2k+1)! with its sign. -/
def sinSeries (x2 : Int) : Nat → Nat → Int → Int → Int
  | 0, _, _, acc => acc
  | n + 1, k, t, acc =>
    let t' := -(mul t x2) / ((2 * (k : Int) + 2) * (2 * (k : Int) + 3))
    sinSeries x2 n (k + 1) t' (acc + t')

/-- The sine of an angle between −90° and 90°. -/
def sin (x : Int) : Int := sinSeries (mul x x) 30 0 x x

/-- The arc sine of a number in 1/12,800 of a degree, rounded down, from −90° to 90°. -/
def arcsin12800 (r : Int) : Int := bisect (fun m => decide (sin (pi * m / 2304000) ≤ r)) 22 (-1152000) 1152001

end Sys2Proof.Machine.Fix
end

