-- ==== Sys2Proof/Machine/TxChain.lean ====
section
/-! DEFINITION. The transmit chain from symbols to converter codes: scaling of the formats (R304 to R307), shaping and
pre-compensation, linear pre-distortion, skew, level, code tables and the converter map (R311, R312, R361 to R363, R375). -/

namespace Sys2Proof.Machine

open Reg

/-! ## Scale of the formats (R306, R307) -/

/-- A row of the sums of energies that goes with a row of counts: over the sequences of one magnitude more. -/
def energyRow (counts sums : List Nat) : List Nat :=
  (List.range counts.length).map (fun e =>
    ([1, 3, 5, 7].map (fun a =>
      if a * a ≤ e then sums.getD (e - a * a) 0 + a * a * counts.getD (e - a * a) 0 else 0)).sum)

/-- The rows m = n, …, 0 of count and of the sum of energies. -/
def energyRows (len : Nat) : Nat → List (List Nat × List Nat)
  | 0 => [(List.replicate len 1, List.replicate len 0)]
  | n + 1 =>
    let rs := energyRows len n
    let r := rs.headD ([], [])
    (countRow r.1, energyRow r.1 r.2) :: rs

/-- What is left of a walk along the sequences in rank order: the sequences still to take, the energy left and spent, and
the sum of the energies taken. -/
structure EnergyWalk where
  idx : Nat
  left : Nat
  spent : Nat
  total : Nat

/-- One position of the walk: the whole branches before the one that holds sequence `idx`, with the rows for the
positions after this one. -/
def EnergyWalk.step (w : EnergyWalk) (rows : List Nat × List Nat) : EnergyWalk :=
  let rec go : List Nat → EnergyWalk → EnergyWalk
    | [], w => w
    | a :: t, w =>
      let c := if a * a ≤ w.left then rows.1.getD (w.left - a * a) 0 else 0
      if w.idx < c then { w with left := w.left - a * a, spent := w.spent + a * a }
      else go t { w with
        idx := w.idx - c
        total := w.total + (if a * a ≤ w.left then rows.2.getD (w.left - a * a) 0 + c * (w.spent + a * a) else 0) }
  go [1, 3, 5, 7] w

/-- The sum of the energies of the first 2^k sequences of R307. -/
def energySum (k : Nat) : Nat :=
  let rows := energyRows 3137 64
  if k = 0 then 64
  else ((rows.drop 1).foldl EnergyWalk.step ⟨2 ^ k, eMax k, 0, 0⟩).total

/-- The square of a format's scale: 1/2, 1/10, or what brings the mean energy of the symbols over all 2^k sequences to 1. -/
def scaleOf (fmt e : Nat) : Nat × Nat :=
  if fmt = 1 then (1, 2) else if fmt = 2 then (1, 10) else let k := 2 * (e - 32); (32 * 2 ^ k, energySum k)

/-- A component of a symbol in 1/65,536 of its unit, rounded towards zero. -/
def Sym.level (x : Sym) (v : Int) : Int :=
  let m : Int := (Nat.sqrt (v.natAbs * v.natAbs * x.num * 2 ^ 32 / x.den) : Nat)
  if v < 0 then -m else m

/-- The point of a symbol in 1/65,536. -/
def Sym.point (x : Sym) : Int × Int := (x.level x.i, x.level x.q)

/-! ## Corrections (R366, R372, R373, R375) -/

/-- A quotient rounded to the nearest whole number, halves up. -/
def roundDiv (n d : Int) : Int := (2 * n + d) / (2 * d)

/-- A value as a register shows it: a whole number of its units. -/
def calShown (v : Int) : Int := roundDiv v 256

/-- The main tap of the 17-tap response: the middle one (log entry 21). -/
def mainTap : Nat := 8

/-- The corrections in force of a set. -/
def State.calForce (s : State) (st : Nat) : List (Nat × Int) := Assoc.get [] st s.cnv.forced

/-- The transmit skew of converter k with its board offset, before clipping, in 0.01 ps (R375). -/
def State.txSkewSum (s : State) (c k : Nat) (vals : List (Nat × Int)) : Int :=
  if k = 0 then 0 else calShown (Assoc.get 0 (k + 1) vals) + s.getI (CNV_C_TXSKEW_OFS c k)

/-! ## Stages 2 to 7 (R311) -/

/-- What the stages of a carrier take from its descriptor, its corrections and its registers. -/
structure TxPath where
  rolloff : Nat
  txcd : Int
  baud : Nat
  linear : Bool
  nonlinear : Bool
  swing : Nat
  map : Nat
  cal : List (Nat × Int)
  skews : List Int
deriving DecidableEq, Repr

/-- The path of a carrier as it stands: PEOFF and PDOFF bypass the pre-distortions (R336); a skew is clipped (R375). -/
def State.txPath (s : State) (c : Nat) : TxPath :=
  let d := (s.car c).desc
  let cal := s.calForce (2 * c)
  { rolloff := cdRolloff d, txcd := cdTxCd d, baud := cdBaud d
    linear := !(s.on (DS_TXCTL_PEOFF c)), nonlinear := !(s.on (DS_TXCTL_PDOFF c)), swing := s.get (DS_TXCTL_SWING c)
    map := s.get (CNV_C_MAP_TXINV c) + 16 * s.get (CNV_C_MAP_TXSWAPX c) + 32 * s.get (CNV_C_MAP_TXSWAPY c)
    cal := cal, skews := [0, 1, 2, 3].map (fun k => max (-2500) (min 2500 (s.txSkewSum c k cal))) }

/-- Samples of a pilot block: 1.28 for each period, counted from the first block. -/
def samplesOf (n : Nat) : Nat := 4096 * (n + 1) * 32 / 25 - 4096 * n * 32 / 25

/-- Stage 2: the samples of XI, XQ, YI and YQ of pilot block n (R312). -/
def TxPath.shape (p : TxPath) (n : Nat) (xs ys : List Sym) : List (List Int) :=
  let one (l : List Sym) : List (Int × Int) :=
    (List.range (samplesOf n)).map (Config.shaped p.rolloff p.txcd p.baud n (l.map Sym.point))
  let x := one xs
  let y := one ys
  [x.map (fun v => v.1), x.map (fun v => v.2), y.map (fun v => v.1), y.map (fun v => v.2)]

/-- Stage 3 of converter k: the gain of its pair and its 17-tap response, on the samples before this block and of it. -/
def TxPath.fir (p : TxPath) (k : Nat) (before now : List Int) : List Int :=
  let gain (v : Int) : Int := Config.gained (Assoc.get 0 (k / 2) p.cal) k v
  if p.linear then
    let tap (t : Nat) : Int := calShown (Assoc.get 0 (16 + 17 * k + t) p.cal) + (if t = mainTap then 16384 else 0)
    let x := (before.drop (before.length - 16) ++ now).map gain
    let at0 := x.length - now.length
    (List.range now.length).map (fun n =>
      ((List.range 17).map (fun t => if t ≤ at0 + n then tap t * x.getD (at0 + n - t) 0 else 0)).sum / 16384)
  else now.map gain

/-- Stage 4 of converter k: its fractional delay. -/
def TxPath.delay (p : TxPath) (k : Nat) (x : List Int) : List Int :=
  (List.range x.length).map (Config.delayed (p.skews.getD k 0) x)

/-- A code of 8 bits: beyond full scale it is clipped. -/
def clip8 (v : Int) : Int := max (-128) (min 127 v)

/-- Stage 5: the root mean square level becomes SWING / 256 of full scale, 128 codes. -/
def TxPath.scale (p : TxPath) (v : Int) : Int :=
  clip8 (roundDiv (v * p.swing * 128) (256 * max 1 (Config.shapedRms p.rolloff p.baud : Int)))

/-- Stage 6 of converter k: its code table, the identity but for corrections in 1/16 LSB. -/
def TxPath.table (p : TxPath) (k : Nat) (code : Int) : Int :=
  if p.nonlinear then
    clip8 (roundDiv (16 * code + calShown (Assoc.get 0 (128 + 256 * k + (code + 128).toNat) p.cal)) 16)
  else code

/-- Exchange two members of a list of four. -/
def swapPair (b : Bool) (i : Nat) (l : List (List Int)) : List (List Int) :=
  if b then (l.set i (l.getD (i + 1) [])).set (i + 1) (l.getD i []) else l

/-- Stage 7: the exchange of I and Q in a polarisation, and the inverted converters (R363). -/
def TxPath.wire (p : TxPath) (l : List (List Int)) : List (List Int) :=
  let l := swapPair (bitOf p.map 5 == 1) 2 (swapPair (bitOf p.map 4 == 1) 0 l)
  (List.range 4).map (fun k => let x := l.getD k []; if bitOf p.map k = 1 then x.map (fun v => clip8 (-v)) else x)

/-- The codes of a pilot block at the four converters, from its stage-2 samples and those before it. -/
def TxPath.codes (p : TxPath) (before now : List (List Int)) : List (List Int) :=
  p.wire ((List.range 4).map (fun k =>
    (p.delay k (p.fir k (before.getD k []) (now.getD k []))).map (fun v => p.table k (p.scale v))))

/-- A pilot block passes stages 2 to 7. -/
def TxPath.send (p : TxPath) (xs ys : List Sym) (l : Line) : Line :=
  let now := p.shape l.sentN (l.sentX ++ xs) (l.sentY ++ ys)
  { l with sentX := xs, sentY := ys, sentN := l.sentN + 1, shaped := now, dac := some (p.codes l.shaped now) }

end Sys2Proof.Machine
end

