-- ==== Sys2Proof/Machine/FrameTx.lean ====
section
/-! DEFINITION. The transmit direction of a carrier: connection memory, overhead, line frame, outer parity, inner
encoder and symbol stream (R165 to R168, R207, R234 to R241, R270 to R272, R303 to R310). -/

namespace Sys2Proof.Machine

open Reg

/-! ## Connection memory (R165) -/

/-- An entry of connection memory. -/
def cmEntry (both : Bool) (trib ord : Nat) : Nat := 2 ^ 31 + both.toNat * 2 ^ 30 + trib % 1024 * 2 ^ 15 + ord % 2 ^ 15
def cmUsed (e : Nat) : Bool := bitOf e 31 == 1
def cmTrib (e : Nat) : Nat := fieldOf e 15 10
def cmOrd (e : Nat) : Nat := fieldOf e 0 15

/-- The entry of a slot in a page: zero when the slot is free. -/
def pageEntry (p : List (Nat × Nat)) (slot : Nat) : Nat := Assoc.get 0 slot p

/-- The 16-bit slot-map entry of a slot (R166). -/
def mapEntry (p : List (Nat × Nat)) (slot : Nat) : Nat :=
  let e := pageEntry p slot
  if cmUsed e then 2 ^ 15 + cmTrib e else 0

/-- The 49,152 bytes of a slot map (R166). -/
def mapBytes (p : List (Nat × Nat)) : List Byte := (List.range 24576).flatMap (fun i => bytesBE 2 (mapEntry p i))

/-- The CRC of a map with its generation (R166). -/
def mapCrc (gen : Nat) (p : List (Nat × Nat)) : Nat := crc32 (bytesBE 2 gen ++ mapBytes p)

/-- The tributaries that a page names, each once. -/
def pageTribs (p : List (Nat × Nat)) : List Nat := (p.map (fun e => cmTrib e.2)).eraseDups

/-! ## When a carrier sends -/

/-- A JTAG instruction that holds the carriers (R550). -/
def State.jtagHold (s : State) : Bool := [0x03, 0x04, 0x05, 0x06, 0x07].contains s.ports.jtagIr

/-- A carrier is held under R487, R507 or R550. -/
def State.carHeld (s : State) : Bool :=
  s.on THM_STATUS_TRIP || !(s.rails.good.contains 2) || !(s.rails.good.contains 3) || s.jtagHold

/-- A carrier sends line frames. -/
def State.carSends (s : State) (c : Nat) : Bool :=
  (s.car c).ost == .enabled && (s.car c).tx.running && !s.carHeld

/-- What the four DACs of a carrier send: codes, or common mode while it is disabled or held (R314, R365, R487). -/
def State.dacOut (s : State) (c : Nat) : Option (List (List Int)) := if s.carSends c then (s.line c).dac else none

/-! ## Overhead (R237 to R239) -/

/-- The frame alignment word. -/
def faw : Nat := 0xB3E15C0D96A72F48

/-- The APS byte of the carrier pair (R239). -/
def State.apsPair (s : State) (c : Nat) : Nat :=
  let d := (s.car c).desc
  s.get FRM_CPG_STATUS_REQ * 16 + s.get FRM_CPG_STATUS_SEL * 8 + (cdRevert d).toNat * 4
    + (decide (cdCprot d ≠ 0)).toNat * 2

/-- The APS byte of a tributary (R239). -/
def State.apsTrib (s : State) (n : Nat) : Nat :=
  let d := (s.trib 1 n).desc
  if tdTprot d = 1 then
    s.get (FRM_TP_STATUS_REQ n) * 16 + s.get (FRM_TP_STATUS_SEL n) * 8 + (tdRevert d).toNat * 4 + 2
  else 0

/-- The page that the map of the current superframe describes (R167). -/
def CarTx.announcedPage (t : CarTx) : List (Nat × Nat) := t.next.getD t.page

/-- The generation that the map announces (R167). -/
def State.announcedGen (s : State) (c : Nat) : Nat :=
  (s.get (TRB_PG_GEN c) + (if (s.car c).tx.next.isSome then 1 else 0)) % 65536

/-- The MCA of frame FNUM (R238). -/
def State.mca (s : State) (c : Nat) : List Byte :=
  let f := s.frameClk.fnum
  if f = 0 then
    bytesBE 4 s.frameClk.sfn ++ bytesBE 4 (s.get (FRM_C_TXSRCHI_ID c)) ++ bytesBE 4 (s.get (FRM_C_TXSRCLO_ID c))
      ++ bytesBE 4 0
  else if f = 1 then BitVec.ofNat 8 (s.apsPair c) :: List.replicate 15 0
  else if f ≤ 65 then (List.range 16).map (fun i => BitVec.ofNat 8 (s.apsTrib (16 * (f - 2) + i)))
  else if f = 255 then
    let g := s.announcedGen c
    bytesBE 2 g ++ bytesBE 2 0 ++ bytesBE 4 (mapCrc g (s.car c).tx.announcedPage) ++ List.replicate 8 0
  else List.replicate 16 0

/-- The slots of a tributary in a page, ascending. -/
def slotsOf (p : List (Nat × Nat)) (n : Nat) : List Nat :=
  (p.filter (fun e => cmUsed e.2 && cmTrib e.2 == n)).map (fun e => e.1)

/-- A page gives a tributary slots. -/
def pageHas (p : List (Nat × Nat)) (n : Nat) : Bool := !(slotsOf p n).isEmpty

/-- A carrier that has not started anew goes on sending a tributary (R176). -/
def State.goesOn (s : State) (n : Nat) : Bool :=
  [0, 1].any (fun c => !(s.car c).firstSeals && s.carSends c && pageHas (s.car c).tx.page n)

/-- The tributary starts a new first seal at the next superframe (R176). -/
def State.startsAnew (s : State) (n : Nat) : Bool :=
  !(s.goesOn n) && [0, 1].any (fun c => (s.car c).firstSeals && s.carSends c && pageHas (s.car c).tx.announcedPage n)

/-- OFFSET of R207 for a transmit tributary of S slots as frame FNUM starts. -/
def State.sealOffset (s : State) (n sl : Nat) : Nat :=
  match (s.trib 0 n).tx.opened with
  | none => 0
  | some o => if o.b = 0 ∨ s.startsAnew n = true then 0 else (o.b - (o.unit + (256 - s.frameClk.fnum) * sl) % o.b) % o.b

/-- The seal-phase field (R207). -/
def State.sealPhase (s : State) (c : Nat) : List Byte :=
  let named := pageTribs (s.car c).tx.announcedPage
  (List.range 4).flatMap (fun i =>
    let n := 4 * s.frameClk.fnum + i
    if named.contains n then bytesBE 4 (2 ^ 31 + s.sealOffset n (s.get (TRB_T_PLACE_SLOTS 0 n)) % 2 ^ 19)
    else bytesBE 4 0)

/-- The slot-map field (R166). -/
def State.slotMap (s : State) (c : Nat) : List Byte :=
  let p := (s.car c).tx.announcedPage
  (List.range 96).flatMap (fun i => bytesBE 2 (mapEntry p (96 * s.frameClk.fnum + i)))

/-- The overhead of the next frame of a carrier, with a given EDC (R237). -/
def State.overhead (s : State) (c edc : Nat) : List Byte :=
  let bdi := (s.get (FRM_C_STATUS_SF c))
  bytesBE 8 faw ++ [BitVec.ofNat 8 s.frameClk.fnum,
      BitVec.ofNat 8 (bdi * 128 + (s.car c).tx.bei.toNat * 64), 0, 0]
    ++ bytesBE 4 edc ++ s.mca c ++ s.sealPhase c ++ s.slotMap c ++ List.replicate 784 0

/-! ## Slots and the frame -/

/-- The next bits of PRBS31 (x^31 + x^28 + 1), 128 of them, and the register after (R241). -/
def prbs31 (r : Nat) (k : Nat) : List Bool × Nat :=
  let p := (List.range k).foldl (fun (p : List Bool × Nat) _ =>
    let b := Nat.xor (bitOf p.2 30) (bitOf p.2 27)
    ((b == 1) :: p.1, p.2 * 2 % 2 ^ 31 + b)) ([], r)
  (p.1.reverse, p.2)

/-- The slot bytes of a carrier: units of tributaries by (tributary, units), a zero unit where the connection memory gives no entry
(R438), PRBS31 elsewhere (R143, R144, R241). -/
def slotBytes (page : List (Nat × Nat)) (lost : List Nat) (units : List (Nat × List (List Byte))) (net : Nat) (prbs : Nat) :
    List Byte × Nat :=
  (List.range (1024 * net)).foldl (fun (p : List Byte × Nat) i =>
    let e := pageEntry page i
    if lost.contains i then (p.1 ++ List.replicate 16 0, p.2)
    else if cmUsed e then (p.1 ++ ((Assoc.get [] (cmTrib e) units).getD (cmOrd e) (List.replicate 16 0)), p.2)
    else let r := prbs31 p.2 128; (p.1 ++ bytesOfBits r.1, r.2)) ([], prbs)

/-- The outer parity of a frame's bytes (R235). -/
def outerParity (bytes : List Byte) : List Byte :=
  let bits := (chunks 1024 bytes).flatMap (fun b => bchParity (bitsOfBytes b))
  let pad := (8 - bits.length % 8) % 8
  bytesOfBits (bits ++ List.replicate pad false)

/-- Information words come out of the framed bit stream and blocks out of the encoder (R270 to R272). `k` bounds the
blocks of one frame. -/
def encodeBlocks (fec : Nat) : Nat → CarTx → CarTx
  | 0, t => t
  | k + 1, t =>
    let kb := infoBits fec
    if t.restLen < kb then t
    else
      let u := t.rest / 2 ^ (t.restLen - kb)
      let par := ldpcParity fec u (t.words.getD 15 0) (t.words.getD 31 0)
      encodeBlocks fec k { t with
        restLen := t.restLen - kb
        rest := t.rest % 2 ^ (t.restLen - kb)
        block := t.block + 1
        words := (u :: t.words).take 32
        coded := t.coded ++ bitsBE kb u ++ par }

/-- Symbols of a list of 64 components in a format (R306, R307). -/
def symsOf (fmt e : Nat) (comps : List Int) : List Sym :=
  let r := scaleOf fmt e
  (chunks 2 comps).map (fun c => ⟨c.getD 0 0, c.getD 1 0, r.1, r.2⟩)

/-- A point of R304: (a + jb) / √2. -/
def pilotSym (seed n : Nat) : Sym := let p := pilotPoint seed n; ⟨p.1, p.2, 1, 2⟩

/-- The 32 symbols of a fill block (R310). -/
def fillSyms : List Sym :=
  (List.range 32).map (pilotSym 0x13)

/-- Symbol blocks are sent while coded bits suffice (R306, R309): the bits left, the accumulator and the number of the next
block after them, and their symbols. -/
def mapSymbols (fmt e net fec baud : Nat) : Nat → List Bool → Nat → Nat → List Bool × Nat × Nat × List Sym
  | 0, bits, acc, n => (bits, acc, n, [])
  | k + 1, bits, acc, n =>
    let next := acc + 65536 * frameLen net
    let d := fillDivisor fec baud e
    if d ≤ next then
      (if (bits.take (2 * e)).length < 2 * e then (bits, acc, n, [])
       else
        let r := mapSymbols fmt e net fec baud k (bits.drop (2 * e)) (next - d) (n + 1)
        (r.1, r.2.1, r.2.2.1, symsOf fmt e (mapBlock fmt e (bits.take (2 * e))) ++ r.2.2.2))
    else
      let r := mapSymbols fmt e net fec baud k bits next (n + 1)
      (r.1, r.2.1, r.2.2.1, fillSyms ++ r.2.2.2)

/-- The periods of one polarisation of a pilot block (R303 to R305): `pol` 0 for X, 1 for Y. -/
def pilotBlockOf (pol : Nat) (data : List Sym) : List Sym :=
  let groups := chunks 126 data
  (List.range 64).flatMap (fun g =>
    pilotSym (if pol = 0 then 0x7F else 0x2A) g ::
      (List.range 63).map (fun i => (groups.getD g []).getD (2 * i + pol) ⟨0, 0, 1, 2⟩))

/-- Whole pilot blocks leave through the stages of R311 for the DACs. -/
def sendPilotBlocks (p : TxPath) : Nat → Line → Line
  | 0, l => l
  | k + 1, l =>
    if l.data.length < 8064 then l
    else sendPilotBlocks p k
      (p.send (pilotBlockOf 0 (l.data.take 8064)) (pilotBlockOf 1 (l.data.take 8064)) { l with data := l.data.drop 8064 })

/-- One carrier builds and sends its frame: slots, overhead with the EDC of the frame before, parity, blocks, symbols
(R234 to R241, R270 to R272). -/
def State.sendFrame (s : State) (c : Nat) (units : List (Nat × List (List Byte))) : State :=
  let car := s.car c
  let d := car.desc
  let net := cdNet d
  let (slots, prbs) := slotBytes car.tx.page car.tx.lost units net car.tx.prbs
  let oh := s.overhead c car.tx.prevCrc
  let oh0 := s.overhead c 0
  let bytes := oh ++ slots
  let frame := bytes ++ outerParity bytes
  let t := { car.tx with
    prbs := prbs
    prevCrc := crc32 (oh0 ++ slots)
    bei := false
    rest := car.tx.rest * 2 ^ (8 * frame.length) + natBE frame
    restLen := car.tx.restLen + 8 * frame.length }
  let t := encodeBlocks (cdFec d) 256 t
  match txFormat d with
  | none => s.setCarTx c t
  | some (fmt, e) =>
    let l := s.line c
    let r := mapSymbols fmt e net (cdFec d) (cdBaud d) (2 * t.coded.length + 2) t.coded l.acc l.symN
    let l := { l with acc := r.2.1, symN := r.2.2.1, data := l.data ++ r.2.2.2 }
    (s.setCarTx c { t with coded := r.1 }).setLine c (sendPilotBlocks (s.txPath c) (l.data.length + 1) l)

/-- The frame clock marks a line frame (R15, R144, R240): every tributary with slots on a sending carrier gives its S units,
each sending carrier sends its frame, and the clock moves on. -/
def State.transmitFrame (s : State) : State :=
  let cars := [0, 1].filter (fun c => s.carSends c)
  let tribs := (cars.flatMap (fun c => pageTribs (s.car c).tx.page)).eraseDups
  let fnum := s.frameClk.fnum
  let s0 := s
  let (units, s) := tribs.foldl (fun (p : List (Nat × List (List Byte)) × State) n =>
    let r := p.2.nextUnits n (s.get (TRB_T_PLACE_SLOTS 0 n)) fnum
    (Assoc.put n r.1 p.1, r.2)) ([], s)
  -- The overhead of R207 describes the seals as the frame starts.
  let s := cars.foldl (fun s c =>
    let sent := s0.sendFrame c units
    (s.setCarTx c (sent.car c).tx).setLine c (sent.line c)) s
  let f := s.frameClk
  { s with frameClk :=
    if f.fnum = 255 then { f with sfn := (f.sfn + 1) % 2 ^ 32, fnum := 0, boundaryDone := false }
    else { f with fnum := f.fnum + 1, boundaryDone := false } }

end Sys2Proof.Machine
end

