-- ==== Sys2Proof/Machine/Needs.lean ====
section
/-! DEFINITION. Polders: when each is needed, the state the device chooses, entries and wakes (R24, R452 to R464), and
the MTP write window (R379, R488). -/

namespace Sys2Proof.Machine

open Reg

/-! ## Needs (R24, R455) -/

def pdAON : Nat := 0
def pdMGT : Nat := 1
def pdSLU : Nat := 2
def pdLINE (c : Nat) : Nat := 3 + c
def pdFEC : Nat := 5
def pdFRM : Nat := 6
def pdTSI : Nat := 7
def pdCIP : Nat := 8
def pdMEM23 : Nat := 39

/-- The polders that exist (R53). -/
def polderList : List Nat := List.range 13 ++ (List.range 24).map (fun i => 16 + i)

/-- The host lanes that a tributary's descriptor names (R68). -/
def lanesOf (d : List Nat) : List Nat := (List.range (tdHlanes d)).map (fun i => tdHlane0 d + i)

/-- Some carrier is ENABLED or DRAINING. -/
def State.anyCarrier (s : State) : Bool := s.carA.active || s.carB.active

/-- Some tributary is ENABLED or DRAINING. -/
def State.anyTrib (s : State) : Bool := s.tribs.any (fun p => p.2.active)

/-- Some engine is in RUN, DRAIN or FAULTED. -/
def State.anyEngine (s : State) : Bool := [0, 1, 2, 3].any (fun e => [2, 3, 5].contains (s.engState e))

/-- A queue of the management core holds a job (R106). -/
def State.mgtJobs (s : State) : Bool :=
  !s.mgt.unwraps.isEmpty || !s.mgt.mail.isEmpty || !s.mgt.seconds.isEmpty || !s.mgt.jobs.isEmpty

/-- A bank of a group has an owner that satisfies a test. -/
def State.groupOwner (s : State) (g : Nat) (f : Nat → Bool) : Bool :=
  (List.range 8).any (fun i => f (s.owner (8 * g + i)))

/-- Something is placed in a bank of a group. -/
def State.groupPlaced (s : State) (g : Nat) : Bool := s.mem.allocs.any (fun a => a.bank / 8 == g)

/-- An MTEST runs in a bank of a group: it needs the group (R459). -/
def State.groupTested (s : State) (g : Nat) : Bool := s.mem.tests.any (fun t => t.bank / 8 == g && !t.hard && !t.background)

/-- The management core is at work on a job (R559). -/
def State.mgtBusy (s : State) : Bool := s.mgtServes && s.mgtJobs

/-- Note whether the core is busy; becoming so counts as MGTBUSY (R557, R559). -/
def State.seeBusy (s : State) : State :=
  let b := s.mgtBusy
  let t := if b && !s.mgt.busy then s.pmc 0x33 0 1 else s
  { t with mgt := { t.mgt with busy := b } }

/-- A quad's lane has GENEN or CHKEN set (R455). -/
def State.quadPrbs (s : State) (q : Nat) : Bool :=
  (List.range 7).any (fun i => s.on (HLN_LANE_PRBS_GENEN (7 * q + i)) || s.on (HLN_LANE_PRBS_CHKEN (7 * q + i)))

/-- An enabled tributary has a lane in a quad (R24). -/
def State.quadUsed (s : State) (q : Nat) : Bool :=
  s.tribs.any (fun p => p.2.active && (lanesOf p.2.desc).any (fun l => quadOf l == q))

/-- A polder is needed (R24, R455). -/
def State.needed (s : State) (n : Nat) : Bool :=
  if n = 0 then true
  else if n = 1 then s.anyCarrier || s.anyTrib || s.anyEngine || s.mgtJobs
  else if n = 2 then s.anyEngine
  else if n = 3 then s.carA.active || decide (s.get CNV_MTP_STATE ≠ 0)
  else if n = 4 then s.carB.active || decide (s.get CNV_MTP_STATE ≠ 0)
  else if n = 5 ∨ n = 6 then s.anyCarrier
  else if n = 7 then s.anyCarrier || s.anyTrib
  else if n = 8 then s.anyCarrier || s.anyTrib || !s.cip.keys.isEmpty
    || (List.range 187).any (fun b => s.owner b == ownLOCK)
  else if n ≤ 12 then s.quadUsed (n - 9) || s.quadPrbs (n - 9)
  else if n = 39 then s.anyEngine || s.groupPlaced 23 || s.groupTested 23
  else s.groupPlaced (n - 16) || s.groupTested (n - 16)

/-- R80 or R430 forbids off. -/
def State.noOff (s : State) (n : Nat) : Bool :=
  (n == 39 && s.get SLU_LOAD_STATUS_VALID != 0)
    || (decide (16 ≤ n) && s.groupOwner (n - 16) (fun o => o != ownFREE && o != ownRETIRED))

/-- R430 forbids retention and off. -/
def State.noSleep (s : State) (n : Nat) : Bool := decide (16 ≤ n) && s.groupOwner (n - 16) (fun o => o == ownCLEAR)

/-- Wake latencies from retention and from off in µs (R453). -/
def wakeUs (n : Nat) : Nat × Nat :=
  if n = 1 then (20, 8000) else if n = 2 then (2, 50) else if n = 3 ∨ n = 4 then (40, 30000)
  else if n = 5 then (5, 150) else if n = 6 ∨ n = 7 then (3, 100) else if n = 8 then (5, 300)
  else if n ≤ 12 then (2000, 20000) else (2, 1200)

/-- A latency is within LTOL: all ones means unlimited (R73). -/
def State.within (s : State) (n us : Nat) : Bool :=
  s.get (PWR_PD_LTOL_LTOL n) == 0xFFFFFFFF || decide (us ≤ s.get (PWR_PD_LTOL_LTOL n))

/-- The state that R456 allows a polder: 0 on, 1 retention, 2 off. -/
def State.choose (s : State) (n : Nat) : Nat :=
  let hold := s.get (PWR_PD_STATUS_HOLD n)
  if n = 0 ∨ s.noSleep n = true then 0
  else if hold = 0 ∧ s.noOff n = false ∧ s.within n (wakeUs n).2 = true then 2
  else if hold ≠ 1 ∧ s.within n (wakeUs n).1 = true then 1
  else 0

/-- The polders that never come on while trims are not valid (R503). -/
def State.barred (s : State) (n : Nat) : Bool :=
  s.on GLB_STATUS_LIMITED && (n == 3 || n == 4 || (decide (9 ≤ n) && decide (n ≤ 12)))

/-! ## Entries and wakes (R453, R456, R459, R462) -/

/-- The state code a polder is in, is entering, or is leaving by a wake, as QUERY reports it (R452). -/
def PState.query : PState → Nat
  | .on => 0
  | .ret => 1
  | .off => 2
  | .entering deep _ => if deep then 2 else 1
  | .waking deep => if deep then 2 else 1

/-- PWR_PDn_STATUS.STATE (R452). -/
def PState.code : PState → Nat
  | .on => 0
  | .ret => 1
  | .off => 2
  | .entering _ _ => 3
  | .waking _ => 3

/-- Change a polder's state; STATE shows it. -/
def State.setPState (s : State) (n : Nat) (st : PState) : State :=
  (s.setPd n { s.pd n with st := st }).set (PWR_PD_STATUS_STATE n) st.code

/-- A POWER on a polder completes once the polder has the state chosen for it (R458). -/
def State.powerDone (s : State) (n : Nat) : State :=
  let target := if s.needed n then 0 else s.choose n
  match (s.pd n).st with
  | .on => if target = 0 then s.finishWait (.polder n) 0 else s
  | .ret => if target = 1 then s.finishWait (.polder n) 0 else s
  | .off => if target = 2 then s.finishWait (.polder n) 0 else s
  | _ => s

/-- The lanes of a quad's polder take a state, with nothing detected and nothing sent (R116, R118, R119). -/
def State.quadLanes (s : State) (n st : Nat) : State :=
  if 9 ≤ n ∧ n ≤ 12 then
    ((List.range 7).map (fun i => 7 * (n - 9) + i)).foldl (fun s l =>
      ((s.setLane l { s.lane l with out := [], txBits := [] }).zero [HLN_LANE_STATUS_SNR l, HLN_LANE_STATUS_PRBSSYNC l, HLN_LANE_STATUS_CDRLOCK l, HLN_LANE_STATUS_SIGDET l]).set
        (HLN_LANE_STATUS_STATE l) st) s
  else s

/-- A quad is on or waking, and VSRD is good: its lanes have left OFF (R116, R118, R453, R507). -/
def State.quadServed (s : State) (n : Nat) : Bool :=
  s.rails.good.contains 1 && (match (s.pd n).st with
    | .on => true
    | .waking _ => true
    | _ => false)

/-- An entry begins: from on, or from retention to off (R453, R456). -/
def State.enter (s : State) (n : Nat) (deep : Bool) : State :=
  let p := s.pd n
  let s := s.setPd n { p with dwelled := false }
  (s.quadLanes n 0).setPState n (.entering deep (p.st == .ret))

/-- The source codes of PWR_LASTWAKE (R471). -/
def wakeNeed : Nat := 0xFF
def wakeTamper : Nat := 0xFE
def wakePower : Nat := 0xFD

/-- A polder begins to wake for a source (R459); `replay` wakes were latched. -/
def State.beginWake (s : State) (n src replay : Nat) : State :=
  let p := s.pd n
  if s.barred n then s
  else match p.st with
    | .on => s
    | .entering _ _ => s
    | .waking _ => s
    | st =>
      let timed := decide (src < 16) || src == wakeTamper
      let s := s.setPd n { p with latched := [], whold := p.whold || timed, dwelled := false }
      let s := (s.quadLanes n (s.rails.good.contains 1).toNat).setPState n (.waking (st == .off))
      let s := ((s.set PWR_LASTWAKE_SRC src).set PWR_LASTWAKE_POLDER n).bump (PWR_PD_WAKES_WAKES n) 1
      let s := if src < 16 then s.setB (PWR_PD_EVENT_WOKE n) true else s
      let s := s.post srcPWR 0x02 (hPolder n) [src]
      if replay = 0 then s
      else (s.setB (PWR_PD_EVENT_REPLAY n) true).post srcPWR 0x03 (hPolder n) [replay]

/-- A reason to wake: at once from retention or off, latched during an entry (R459, R462). -/
def State.wake (s : State) (n src : Nat) : State :=
  let p := s.pd n
  match p.st with
  | .on => s
  | .waking _ => s
  | .entering _ _ => if p.latched.contains src then s else s.setPd n { p with latched := p.latched ++ [src] }
  | _ => s.beginWake n src 0

/-- A need may have begun (R459): needed polders wake, and DWELL of one that is on starts afresh later. -/
def State.refreshNeeds (s : State) : State :=
  (polderList.foldl (fun s n =>
    if s.needed n then
      (if (s.pd n).st == .on then (s.setPd n { s.pd n with dwelled := false }).powerDone n else s.wake n wakeNeed)
    else s) s).seeBusy

/-- A wake source fires (R459, R460, R464): polders that name it wake, or start WHOLD again if on. -/
def State.fireWake (s : State) (bit : Nat) : State :=
  polderList.foldl (fun s n =>
    if n ≠ 0 ∧ s.bit (PWR_PD_STATUS_WAKE n) bit = true then
      (match (s.pd n).st with
        | .on => s.setPd n { s.pd n with whold := true }
        | .waking _ => s
        | _ => s.wake n bit)
    else s) s

/-- A tamper trigger wakes MGT whatever its descriptor (R460). -/
def State.tamperWake (s : State) : State := s.wake 1 wakeTamper

/-- An unneeded polder takes the state that R456 allows, unless WHOLD keeps it on. -/
def State.settlePolder (s : State) (n : Nat) : State :=
  let p := s.pd n
  if s.needed n = true then s
  else match p.st, s.choose n with
    | .on, 0 => s
    | .on, t => if p.whold then s.setPd n { p with dwelled := true } else s.enter n (t == 2)
    | .ret, 2 => s.enter n true
    | _, _ => s

end Sys2Proof.Machine
end

