-- ==== Sys2Proof/Machine/Stats.lean ====
section
/-! DEFINITION. What a calibration run's statistics say of each quantity (R366): deviations from the factory default by
quantity number, in 1/256 of a register unit, results rounded down (log entry 20). -/

namespace Sys2Proof.Machine

/-- The gain of converter i over converter j in 0.01 dB: 10 log10 of the ratio of their second moments, those sensed taken over
those sent. -/
def runGain (x : CalStats) (dir i j : Nat) : Int :=
  let m (k : Nat) : Nat := x.moments.getD k 1
  let n (k : Nat) : Nat := if dir = 0 then x.sent.getD k 1 else 1
  Fix.db10x25600 (Fix.ofRatio (m i * n j) (n i * m j))

/-- The phase of I against Q of polarisation p in 0.02°: arcsin(E[IQ] / √(E[I²] E[Q²])). -/
def runPhase (x : CalStats) (p : Nat) : Int :=
  let e (k : Nat) : Int := x.moments.getD k 1
  Fix.arcsin12800 (Fix.div (x.cross.getD p 0 * Fix.one) (Fix.sqrt (e (2 * p) * e (2 * p + 1) * Fix.one)))

/-- The delay with the largest correlation, the first of equals. -/
def bestDelay (l : List (Int × Int)) : Int :=
  match l with
  | [] => 0
  | a :: t => (t.foldl (fun b v => if b.2 < v.2 then v else b) a).1

/-- The delay that the phases of a cross-spectrum slope by, in 1/256 of 0.01 ps: the least-squares line through 0. -/
def slopeDelay (l : List (Nat × Int)) : Int :=
  let fp : Int := (l.map (fun e => (e.1 : Int) * e.2)).sum
  let ff : Nat := (l.map (fun e => e.1 * e.1)).sum
  if ff = 0 then 0 else fp * 25600 * Fix.one / (2 * Fix.pi * ff)

/-- The skew of converter k = 1, 2, 3 against XI. -/
def runSkew (x : CalStats) (dir k : Nat) : Int :=
  if dir = 0 then 256 * bestDelay (x.delays.getD (k - 1) []) else slopeDelay (x.phases.getD (k - 1) [])

/-- The straight line through the clusters of a converter, by least squares over its samples: the determinant, and slope and
intercept as numerators over it. -/
def lineFit (l : List (Nat × Int)) : Int × Int × Int :=
  let pts := (List.range l.length).map (fun (i : Nat) => ((i : Int) - 128, l.getD i (0, 0)))
  let n : Int := (pts.map (fun p => (p.2.1 : Int))).sum
  let sx : Int := (pts.map (fun p => (p.2.1 : Int) * p.1)).sum
  let sxx : Int := (pts.map (fun p => (p.2.1 : Int) * p.1 * p.1)).sum
  let sy : Int := (pts.map (fun p => p.2.2)).sum
  let sxy : Int := (pts.map (fun p => p.1 * p.2.2)).sum
  (n * sxx - sx * sx, n * sxy - sx * sy, sxx * sy - sx * sxy)

/-- The correction of a converter's code table at an index in 1/256 of 1/16 LSB: what brings the mean of its cluster to the
line. -/
def tableEntry (l : List (Nat × Int)) (i : Nat) : Int :=
  let f := lineFit l
  let e := l.getD i (0, 0)
  if e.1 = 0 ∨ f.2.1 = 0 then 0
  else (((((i : Int) - 128) * f.2.1 + f.2.2) * e.1 - e.2 * f.1) * 4096) / (e.1 * f.2.1)

/-- What a run of a direction measures: every quantity that deviates. -/
def runResult (x : CalStats) (dir : Nat) : List (Nat × Int) :=
  let head := [(0, runGain x dir 0 1), (1, runGain x dir 2 3), (2, runSkew x dir 1), (3, runSkew x dir 2), (4, runSkew x dir 3)]
  let tail : List (Nat × Int) :=
    if dir = 0 then
      x.taps ++ (List.range 1024).map (fun i => (128 + i, tableEntry (x.clusters.getD (i / 256) []) (i % 256)))
    else [(5, runPhase x 0), (6, runPhase x 1)]
  (head ++ tail).filter (fun e => e.2 != 0)

end Sys2Proof.Machine
end

