-- ==== Sys2Proof/Machine/Cnv.lean ====
section
/-! DEFINITION. Converters: calibration runs, temperature sets, corrections in force, and storage in MTP (R361 to R387),
with the retirement log's own MTP writes (R440). -/

namespace Sys2Proof.Machine

open Reg

/-! ## Quantities (R366)

A set is 0 A transmit, 1 A receive, 2 B transmit, 3 B receive. A quantity is a number: 0 and 1 the gains of X and Y, 2 to
4 the skews of XQ, YI and YQ, 5 and 6 the phases of X and Y (receive), 16 + 17k + t tap t of converter k's response and
128 + 256k + i entry i of its code table (transmit). Values are deviations from the factory default of R372 in 1/256 of a
register unit (log entry 20). -/

/-- Carrier and direction of a set. -/
def calCar (st : Nat) : Nat := st / 2
def calDir (st : Nat) : Nat := st % 2

/-- QTY and CONV of a quantity (R385). -/
def calQty (k : Nat) : Nat × Nat :=
  if k < 2 then (1, k) else if k < 5 then (0, k - 1) else if k < 7 then (2, k - 5)
  else if k < 84 then (3, (k - 16) / 17) else (4, (k - 128) / 256)

/-- The repeat tolerance of a quantity (R366): 0.05 ps, 0.02 dB, 0.2°, 1/2,048, 0.25 LSB. -/
def calTol (k : Nat) : Nat :=
  match (calQty k).1 with
  | 0 => 5 * 256
  | 1 => 2 * 256
  | 2 => 10 * 256
  | 3 => 8 * 256
  | _ => 4 * 256

/-- The largest step of a quantity in a millisecond (R373): 0.1 ps, 0.01 dB, 0.05°, 1/4,096, 1/16 LSB. -/
def calStep (k : Nat) : Nat :=
  match (calQty k).1 with
  | 0 => 10 * 256
  | 1 => 256
  | 2 => 640
  | 3 => 4 * 256
  | _ => 256

/-- The largest deviation a quantity may have (R366): 25.00 ps, 3.00 dB, 15.00°, 0.5 for a main tap, 0.25, 8 LSB. -/
def calRange (k : Nat) : Nat :=
  match (calQty k).1 with
  | 0 => 2500 * 256
  | 1 => 300 * 256
  | 2 => 750 * 256
  | 3 => if (k - 16) % 17 = mainTap then 8192 * 256 else 4096 * 256
  | _ => 128 * 256

/-- The quantities that either of two results lists. -/
def calKeys (a b : List (Nat × Int)) : List Nat :=
  ((a ++ b).foldl (fun m e => Assoc.put e.1 () m) []).map (fun e => e.1)

/-- Combine two results quantity by quantity. -/
def calZip (f : Nat → Int → Int → Int) (a b : List (Nat × Int)) : List (Nat × Int) :=
  (calKeys a b).filterMap (fun k =>
    let v := f k (Assoc.get 0 k a) (Assoc.get 0 k b)
    if v = 0 then none else some (k, v))

/-! ## Sets and targets (R371, R372) -/

/-- The converter temperature of a carrier in 0.25 °C (R370). -/
def State.cnvTemp (s : State) (c : Nat) : Int := s.getI (CNV_C_STATUS_TEMP c)

/-- The valid bins of a set, with their numbers. -/
def State.setBins (s : State) (st : Nat) : List (Nat × CalBin) :=
  (List.range 8).filterMap (fun n => (Assoc.find (8 * st + n) s.cnv.bins).map (fun b => (n, b)))

/-- Of two bins the one nearer to a side: the higher temperature at or below, the lower at or above. -/
def hotter (a b : CalBin) : CalBin := if a.temp < b.temp then b else a
def colder (a b : CalBin) : CalBin := if b.temp < a.temp then b else a

/-- The target correction from bins at a temperature in 1/8 °C (R372). -/
def targetAt (t : Int) (bins : List CalBin) : List (Nat × Int) :=
  let low := bins.filter (fun b => decide (b.temp ≤ t))
  let high := bins.filter (fun b => decide (t ≤ b.temp))
  match low, high with
  | [], [] => []
  | l :: ls, [] => (ls.foldl hotter l).vals
  | [], h :: hs => (hs.foldl colder h).vals
  | l :: ls, h :: hs =>
    let a := ls.foldl hotter l
    let b := hs.foldl colder h
    if a.temp = b.temp then a.vals
    else calZip (fun _ x y => x + roundDiv ((t - a.temp) * (y - x)) (b.temp - a.temp)) a.vals b.vals

/-- The target correction of a set (R372). -/
def State.calTarget (s : State) (st : Nat) : List (Nat × Int) :=
  targetAt (2 * s.cnvTemp (calCar st)) ((s.setBins st).map (fun p => p.2))

/-- Put corrections in force. -/
def State.setForce (s : State) (st : Nat) (v : List (Nat × Int)) : State :=
  { s with cnv := { s.cnv with forced := Assoc.put st v s.cnv.forced } }

/-- A direction is running (R368). -/
def State.calRunning (s : State) (st : Nat) : Bool :=
  let c := calCar st
  !s.carHeld && (if calDir st = 0 then (s.car c).ost == .enabled && (s.car c).tx.running
    else (s.acq c).lock.isSome && s.get (DS_EQSTAT_STATE c) == 2)

/-- EVENT.CLIP when a transmit skew in force is clipped (R375). -/
def State.checkClip (s : State) (c : Nat) : State :=
  if [1, 2, 3].any (fun k =>
    let v := s.txSkewSum c k (s.calForce (2 * c))
    decide (2500 < v) || decide (v < -2500)) then s.setB (CNV_C_EVENT_CLIP c) true else s

/-- While a direction is not running, the corrections equal the target at once (R373), unless HOLD holds them (R374). -/
def State.calSync (s : State) (st : Nat) : State :=
  if s.calRunning st ∨ s.on (CNV_C_CALCTL_HOLD (calCar st)) then s
  else (s.setForce st (s.calTarget st)).checkClip (calCar st)

/-- R373 for every set. -/
def State.calSyncAll (s : State) : State := [0, 1, 2, 3].foldl State.calSync s

/-! ## Runs and pairs (R368 to R371) -/

/-- The run number shown for a set. -/
def calRun (st : Nat) : Fld := if calDir st = 0 then CNV_C_STATUS_TXRUN (calCar st) else CNV_C_STATUS_RXRUN (calCar st)

/-- A pair under way is discarded (R368). -/
def State.calStop (s : State) (st : Nat) : State :=
  { s.set (calRun st) 0 with cnv := { s.cnv with pairs := Assoc.drop st s.cnv.pairs } }

/-- Discard the pairs of directions that no longer run. -/
def State.calCheck (s : State) : State :=
  [0, 1, 2, 3].foldl (fun s st => if s.calRunning st then s else (s.calStop st).calSync st) s

/-- Show which bins are valid. -/
def State.showSets (s : State) : State :=
  let bits := (List.range 32).foldl (fun m i => if (Assoc.find i s.cnv.bins).isSome then m + 2 ^ i else m) 0
  let s := s.set CNV_SETS_VALID bits
  [0, 1].foldl (fun s c =>
    (s.setB (CNV_C_STATUS_UNCALTX c) ((s.setBins (2 * c)).isEmpty)).setB (CNV_C_STATUS_UNCALRX c)
      ((s.setBins (2 * c + 1)).isEmpty)) s

/-! ## Stores (R376 to R382) -/

/-- The calibration bank in force. -/
def State.calBank (s : State) : CalBank :=
  match s.get CNV_MTP_ACTIVE with
  | 0 => s.mtp.calA
  | 1 => s.mtp.calB
  | _ => {}

/-- The bank that a store writes: 0 A, 1 B (R378). -/
def State.storeTarget (s : State) : Nat := if s.get CNV_MTP_ACTIVE = 0 then 1 else 0

/-- Change a calibration bank. -/
def State.mapBank (s : State) (b : Nat) (f : CalBank → CalBank) : State :=
  { s with mtp := if b = 0 then { s.mtp with calA := f s.mtp.calA } else { s.mtp with calB := f s.mtp.calB } }

/-- A store falls due (R377): merged into one under way; its job is queued in class 3 (R106, R378). -/
def State.fallDue (s : State) : State :=
  if s.get CNV_MTP_STATE ≠ 0 then s
  else ((s.set CNV_MTP_STATE 1).queueJobs).refreshNeeds

/-- A bin differs from another by more than twice a repeat tolerance (R377). -/
def binDiffers (a b : CalBin) : Bool :=
  (calKeys a.vals b.vals).any (fun k => decide (2 * calTol k < (Assoc.get 0 k a.vals - Assoc.get 0 k b.vals).natAbs))

/-- At least MININT hours since the last completed store; none has completed counts as enough (log entry 22). -/
def State.minintOver (s : State) : Bool :=
  match s.cnv.lastStore with
  | none => true
  | some t => decide (t + s.get CNV_STCTL_MININT * 3600000000000 ≤ s.clk.dev)

/-- R377 asks for an automatic store. -/
def State.storeDue (s : State) : Bool :=
  let held := s.calBank.bins
  let new := s.cnv.bins.any (fun e => (Assoc.find e.1 held).isNone)
  let moved := s.cnv.bins.any (fun e => match Assoc.find e.1 held with
    | some b => binDiffers e.2 b
    | none => false)
  s.on CNV_STCTL_AUTO && !s.on CNV_MTP_WORN && (new || (moved && s.minintOver))

/-- An automatic store falls due where R377 says. -/
def State.autoStore (s : State) : State := if s.storeDue then s.fallDue else s

/-- It falls due when what R377 asks has come about with a change that is no pair's result: time, or CNV_STCTL. -/
def State.nowDue (s : State) (before : Bool) : State := if before then s else s.autoStore

/-- A store ends other than OK; `again` makes it fall due at the next PERIOD boundary. -/
def State.storeFails (s : State) (result : Nat) (again : Bool) : State :=
  let s := ((s.set CNV_MTP_STATE 0).set CNV_MTP_RESULT result).setB CNV_MTP_FAILEV true
  ({ s with cnv := { s.cnv with dueNext := s.cnv.dueNext || again, captured := [], committing := false } } : State).queueJobs

/-- RESULT TEMP or VAON, the lower code when both hold (R387). -/
def State.windowResult (s : State) : Nat := if s.windowTemp then 2 else 1

/-- Whatever ends a store in INVALIDATE, its commit word no longer checks (R378, R380). -/
def State.tornStore (s : State) : State :=
  if s.get CNV_MTP_STATE = 2 then s.mapBank s.storeTarget (fun b => { b with committed := false, whole := false }) else s

/-- The write window has been left (R379): a store under way ends, but for one whose commit word is being written (R378, R383); a
transition at work misses it, unless its commit is made, and so does a root injection. -/
def State.windowLost (s : State) : State :=
  let s := if 2 ≤ s.get CNV_MTP_STATE ∧ s.cnv.committing = false then s.tornStore.storeFails s.windowResult false else s
  { s with cip := { s.cip with
    lcs := s.cip.lcs.map (fun o => { o with missed := o.missed || (s.mgt.jobs.head? == some .lcs && !o.committed) })
    kek := s.cip.kek.map (fun o => { o with inWindow := false }) } }

/-- The write window may have changed (R379): inside it the tamper count is due (R204). -/
def State.windowCheck (s : State) : State :=
  let s := s.showWindow
  if s.mtpWindow = false then s.windowLost
  else if s.cip.pendingCount = 0 then s
  else s.queueJobs.refreshNeeds

/-- A bank of MTP is valid (R376). -/
def CalBank.valid (b : CalBank) : Bool := b.committed && b.whole

/-- x is newer than y (R376). -/
def seqNewer (x y : Nat) : Bool :=
  let d := (x + 65536 - y % 65536) % 65536
  decide (1 ≤ d ∧ d ≤ 32767)

/-- The bank in force at bring-up: 0 A, 1 B, 3 none (R376). -/
def Mtp.calActive (m : Mtp) : Nat :=
  if m.calA.valid then (if m.calB.valid && seqNewer m.calB.seq m.calA.seq then 1 else 0)
  else if m.calB.valid then 1 else 3

/-- Put the bank in force that R376 chooses, and show it; SETLOAD is posted. -/
def State.chooseBank (s : State) : State :=
  let a := s.mtp.calActive
  let s := s.set CNV_MTP_ACTIVE a
  let s := s.set CNV_MTP_SEQ s.calBank.seq
  let s := (s.set CNV_MTPCNT_BANKA (min 65535 s.mtp.calA.count)).set CNV_MTPCNT_BANKB (min 65535 s.mtp.calB.count)
  s.post srcCNV 0x05 0 [a, s.calBank.seq]

/-- Bring-up after power-on or cold reset: the sets are those of the bank in force (R376). -/
def State.loadSets (s : State) : State :=
  let s := s.chooseBank
  (({ s with cnv := { bins := s.calBank.bins } } : State).showSets).calSyncAll

/-- Warm reset ends a store with RESULT ABORT (R381). -/
def State.abortStore (s : State) : State :=
  let s := if s.get CNV_MTP_STATE = 0 then s else (s.tornStore.set CNV_MTP_STATE 0).set CNV_MTP_RESULT 4
  { s with cnv := { s.cnv with captured := [], dueNext := false, committing := false, pairs := [] } }

/-! ## A pair's end -/

/-- The quantity of the largest difference between two runs, in 1/256 of its tolerance: quantity and ratio. -/
def worstDiff (a b : List (Nat × Int)) : Nat × Nat :=
  (calKeys a b).foldl (fun w k =>
    let r := (Assoc.get 0 k a - Assoc.get 0 k b).natAbs * 256 / calTol k
    if w.2 < r then (k, r) else w) (0, 0)

/-- Two runs agree (R369). -/
def runsAgree (a b : List (Nat × Int)) : Bool :=
  (calKeys a b).all (fun k => decide ((Assoc.get 0 k a - Assoc.get 0 k b).natAbs ≤ calTol k))

/-- The bin for a temperature in 1/8 °C (R371). -/
def binOf (t : Int) : Nat := (max 0 (min 7 ((t + 60) / 120))).toNat

/-- An accepted result (R370, R371). -/
def State.accept (s : State) (st : Nat) (b : CalBin) : State :=
  let c := calCar st
  let dir := calDir st
  match (b.vals.map (fun e => e.1)).find? (fun k => decide (calRange k < (Assoc.get 0 k b.vals).natAbs)) with
  | some k =>
    let q := calQty k
    (((s.bump (CNV_C_COUNT_RANGE c) 1).setB (CNV_C_EVENT_RANGE c) true)).post srcCNV 0x03 (hCarrier c) [dir, q.1, q.2]
  | none =>
    let n := binOf b.temp
    let s : State := { s with cnv := { s.cnv with bins := Assoc.put (8 * st + n) b s.cnv.bins } }
    let s := s.bump (if dir = 0 then CNV_C_COUNT_ACCEPTTX c else CNV_C_COUNT_ACCEPTRX c) 1
    let s := (s.setB (CNV_C_EVENT_ACCEPT c) true).post srcCNV 0x01 (hCarrier c) [dir, n, iw (b.temp / 2)]
    (s.showSets.calSync st).autoStore

/-- The second run of a pair ends (R369). -/
def State.pairEnd (s : State) (st : Nat) (p : CalPair) (meas : List (Nat × Int)) : State :=
  let c := calCar st
  let w := worstDiff p.first meas
  let q := calQty w.1
  let s := s.calStop st
  let s := ((s.set (CNV_C_DIFF_DIR c) (calDir st)).set (CNV_C_DIFF_QTY c) q.1).set (CNV_C_DIFF_CONV c) q.2
  let s := s.set (CNV_C_DIFF_RATIO c) (min 65535 w.2)
  if runsAgree p.first meas ∧ (p.t1 - p.t2).natAbs ≤ 4 then
    s.accept st ⟨p.t1 + p.t2, calZip (fun _ x y => roundDiv (x + y) 2) p.first meas⟩
  else
    ((s.bump (CNV_C_COUNT_DISAGREE c) 1).setB (CNV_C_EVENT_DISAGREE c) true).post srcCNV 0x02 (hCarrier c)
      [calDir st, q.1, q.2, min 65535 w.2]

/-- Move towards a target by at most a step. -/
def moveBy (step : Nat) (v t : Int) : Int := if v ≤ t then min t (v + step) else max t (v - step)

/-! ## Commands -/

/-- STARTUP_END (R364): of a start-up under way. -/
def execStartupEnd (c : Fin 2) (s : State) : Outcome :=
  answer (if s.pdOn (pdLINE c) && s.cnv.starting.contains c.val then
    ({ s with cnv := { s.cnv with starting := s.cnv.starting.filter (fun x => x != c.val) } } : State).setB
      (CNV_C_STATUS_READY c) true
    else s)

/-- PAIR_START (R368). -/
def execPairStart (st : Fin 4) (s : State) : Outcome :=
  let c := calCar st
  let en := if calDir st = 0 then s.on (CNV_C_CALCTL_TXEN c) else s.on (CNV_C_CALCTL_RXEN c)
  answer (if en && s.calRunning st && s.get (calRun st) == 0 then
    (let s := s.set (calRun st) 1
     { s with cnv := { s.cnv with pairs := Assoc.put st { t1 := s.cnvTemp c } s.cnv.pairs } }) else s)

/-- A run of a set ends with what it measured. -/
def State.runEnd (s : State) (st : Nat) (meas : List (Nat × Int)) : State :=
  match s.get (calRun st), Assoc.find st s.cnv.pairs with
  | 1, some p =>
    let s := s.set (calRun st) 2
    { s with cnv := { s.cnv with pairs := Assoc.put st { p with t2 := s.cnvTemp (calCar st), first := meas } s.cnv.pairs } }
  | 2, some p => s.pairEnd st p meas
  | _, _ => s

/-- CALIBRATION_RUN_END (R366, R368, R369): the statistics of the run. -/
def execCalibrationRunEnd (st : Fin 4) (x : CalStats) (s : State) : Outcome :=
  answerIf x.wf (s.runEnd st (runResult x (calDir st)))

/-- CORRECTION_STEP (R373, R374). -/
def execCorrectionStep (st : Fin 4) (s : State) : Outcome :=
  answer (if s.on (CNV_C_CALCTL_HOLD (calCar st)) then s
    else if s.calRunning st then
      (s.setForce st (calZip (fun k v t => moveBy (calStep k) v t) (s.calForce st) (s.calTarget st))).checkClip (calCar st)
    else s.calSync st)

/-- STORE (R377): CNV_STCTL written with STORE 1. -/
def execStore_ (s : State) : Outcome := answer (s.gated adr_CNV_STCTL (fun s => s.fallDue))

/-- STORE_JOB (R378): the job reaches the management core. -/
def execStoreJob (s : State) : Outcome :=
  answer (if s.get CNV_MTP_STATE = 1 ∧ s.class3Turn .store = true then
    (if s.mtpWindow then
      (let s := s.set CNV_MTP_STATE 2
       { s with cnv := { s.cnv with captured := s.cnv.bins } })
     else s.storeFails s.windowResult true) else s)

/-- STORE_INVALIDATED (R378). -/
def execStoreInvalidated (s : State) : Outcome :=
  answer (if s.get CNV_MTP_STATE = 2 then
    (s.mapBank s.storeTarget (fun b => { b with committed := false, whole := false })).set CNV_MTP_STATE 3 else s)

/-- STORE_WRITTEN (R378). -/
def execStoreWritten (s : State) : Outcome :=
  answer (if s.get CNV_MTP_STATE = 3 then
    (s.mapBank s.storeTarget (fun b => { b with bins := s.cnv.captured })).set CNV_MTP_STATE 4 else s)

/-- STORE_VERIFIED (R378, R382): the read-back ends, right or wrong. -/
def execStoreVerified (right : Bool) (s : State) : Outcome :=
  let b := s.storeTarget
  let fails := if b = 0 then s.cnv.failsA else s.cnv.failsB
  let n := if right then 0 else fails + 1
  answer (if s.get CNV_MTP_STATE = 4 then
    (let s : State := { s with cnv := if b = 0 then { s.cnv with failsA := n } else { s.cnv with failsB := n } }
     if right then (s.mapBank b (fun x => { x with whole := true })).set CNV_MTP_STATE 5
     else
      let s := s.storeFails 3 true
      if 3 ≤ n then ({ s with cnv := { s.cnv with dueNext := false } } : State).setB CNV_MTP_WORN true else s)
    else s)

/-- STORE_COMMITTED (R378). -/
def execStoreCommitted (s : State) : Outcome :=
  let b := s.storeTarget
  let q := (s.get CNV_MTP_SEQ + 1) % 65536
  answer (if s.get CNV_MTP_STATE = 5 then
    (let s := s.mapBank b (fun x => { x with committed := true, seq := q, count := x.count + 1 })
     let s := ((s.set CNV_MTP_ACTIVE b).set CNV_MTP_SEQ q).set CNV_MTP_STATE 0
     let s := ((s.set CNV_MTP_RESULT 0).setB CNV_MTP_DONEEV true).bump (if b = 0 then CNV_MTPCNT_BANKA else CNV_MTPCNT_BANKB) 1
     let s : State := { s with cnv := { s.cnv with captured := [], committing := false, lastStore := some s.clk.dev } }
     (s.post srcCNV 0x04 0 [0, b, q]).queueJobs.autoStore)
    else s)

/-- PERIOD_BOUNDARY (R378): a store whose job came outside the window, or that failed VERIFY, falls due again. -/
def execPeriodBoundary (_st : Fin 4) (s : State) : Outcome :=
  answer (if s.cnv.dueNext then ({ s with cnv := { s.cnv with dueNext := false } } : State).fallDue else s)

/-- MAP_WRITE (R363). -/
def execMapWrite (c : Fin 2) (v : W32) (s : State) : Outcome :=
  answer (s.gated (adr_CNV_C_MAP c) (fun s =>
    if (s.car c).active then s
    else s.wrs v.toNat [CNV_C_MAP_RXSWAPY c, CNV_C_MAP_RXSWAPX c, CNV_C_MAP_TXSWAPY c, CNV_C_MAP_TXSWAPX c,
      CNV_C_MAP_RXINV c, CNV_C_MAP_TXINV c]))

/-- What correction registers show for a set: targets under VIEW, else the values in force (R385). -/
def State.calView (s : State) (st : Nat) : List (Nat × Int) :=
  if s.on (CNV_C_CALCTL_VIEW (calCar st)) then s.calTarget st else s.calForce st

/-- CNV_Cc_TABSEL is written (R385). -/
def State.tabselWrite (s : State) (c v : Nat) : State :=
  let kind := (CNV_C_TABSEL_KIND c).of v
  let conv := (CNV_C_TABSEL_CONV c).of v
  let i := (CNV_C_TABSEL_INDEX c).of v
  if kind = 1 ∧ 16 < i then s
  else
    let key := if kind = 1 then 16 + 17 * conv + i else 128 + 256 * conv + i
    let dev := calShown (Assoc.get 0 key (s.calView (2 * c)))
    let full := if kind = 1 ∧ i = mainTap then dev + 16384 else dev
    (s.wrs v [CNV_C_TABSEL_KIND c, CNV_C_TABSEL_CONV c, CNV_C_TABSEL_INDEX c]).setI (CNV_C_TABDATA_VALUE c) full

/-- CNV_BINSEL is written (R386). -/
def State.binselWrite (s : State) (v : Nat) : State :=
  let s := s.wrs v [CNV_BINSEL_SET, CNV_BINSEL_BIN]
  let k := 8 * s.get CNV_BINSEL_SET + s.get CNV_BINSEL_BIN
  match Assoc.find k s.cnv.bins with
  | none => s.zero [CNV_BININFO_TEMP, CNV_BININFO_VALID, CNV_BININFO_STORED]
  | some b =>
    ((s.setI CNV_BININFO_TEMP (b.temp / 2)).setB CNV_BININFO_VALID true).setB CNV_BININFO_STORED
      (Assoc.find k s.calBank.bins == some b)

/-- TABSEL_WRITE (R385). -/
def execTabselWrite (c : Fin 2) (v : W32) (s : State) : Outcome :=
  answer (s.gated (adr_CNV_C_TABSEL c) (fun s => s.tabselWrite c v.toNat))

/-- BINSEL_WRITE (R386). -/
def execBinselWrite (v : W32) (s : State) : Outcome := answer (s.gated adr_CNV_BINSEL (fun s => s.binselWrite v.toNat))

/-- The oldest waiting entry is written to MTP; the 256th fills the log, which the device reports. -/
def State.logWrite (s : State) (e : LogEntry) (rest : List LogEntry) : State :=
  let s : State := { s with mtp := { s.mtp with log := s.mtp.log ++ [e] } }
  let s := ((s.setMem { s.mem with log := rest }).setB ECC_LOGCTL_PEND (!rest.isEmpty)).popJob
  let s := s.set ECC_LOGCTL_ENTRIES s.mtp.log.length
  if s.mtp.log.length = 256 then ((s.setB ECC_LOGCTL_FULL true).setB ECC_EVENT_LOGFULL true).post srcMEM 0x08 0 [] else s

/-- LOG_WRITE (R106, R440, R446): on its turn in class 3; outside the write window the entry waits at the end of the class. -/
def execLogWrite (s : State) : Outcome :=
  answer (match s.mem.log with
    | [] => s
    | e :: rest =>
      if s.class3Turn .log = false then s
      else if s.mtpWindow then s.logWrite e rest
      else { s with mgt := { s.mgt with jobs := s.mgt.jobs.drop 1 ++ [.log] } })

end Sys2Proof.Machine
end

