-- ==== Sys2Proof/Machine/Demap.lean ====
section
/-! DEFINITION. The receive symbols of a pilot block: cycle slips (R324, R331), the fill schedule (R330, R334), the demapper
(R329), and the trial of block offsets (R274, R347). -/

namespace Sys2Proof.Machine

/-! ## Cycle slips (R324, R331) -/

/-- A received point turned back by so many quarter turns. -/
def turnBack (q : Nat) (v : Int × Int) : Int × Int :=
  match q % 4 with
  | 0 => v
  | 1 => (v.2, -v.1)
  | 2 => (-v.1, -v.2)
  | _ => (-v.2, v.1)

/-- The multiple of a quarter turn that a point is nearest to; a point between two counts as the lower one. -/
def quarterOf (v : Int × Int) : Nat :=
  if (v.2.natAbs : Int) ≤ v.1 then 0 else if (v.1.natAbs : Int) ≤ v.2 then 1 else if (v.2.natAbs : Int) ≤ -v.1 then 2 else 3

/-- A received point against a known one: their product with the known one conjugated. -/
def against (v : Int × Int) (p : Int × Int) : Int × Int := (v.1 * p.1 + v.2 * p.2, v.2 * p.1 - v.1 * p.2)

/-- The quarter turns that the pilots X and Y of place p show together. -/
def pilotTurn (p : Nat) (x y : Int × Int) : Nat :=
  let a := against x (pilotPoint 0x7F p)
  let b := against y (pilotPoint 0x2A p)
  quarterOf (a.1 + b.1, a.2 + b.2)

/-- The symbols of a pilot block's periods put right from pilot to pilot, X before Y with the pilots removed (R305): the
turn after it, the slips found, and the data symbols. The first pilot of a lock sets the turn (R331). -/
def unslip : Nat → Nat → List (Int × Int) → List (Int × Int) → Option Nat → Option Nat × Nat × List (Int × Int)
  | 0, _, _, _, turn => (turn, 0, [])
  | k + 1, p, xs, ys, turn =>
    let seen := pilotTurn p (xs.getD 0 (0, 0)) (ys.getD 0 (0, 0))
    let now := if xs.isEmpty then turn else some seen
    let slip := match turn with
      | some t => !xs.isEmpty && seen != t
      | none => false
    let r := unslip k (p + 1) (xs.drop 64) (ys.drop 64) now
    let back := turnBack (now.getD 0)
    let data := ((xs.take 64).drop 1 |>.zip ((ys.take 64).drop 1)).flatMap (fun v => [back v.1, back v.2])
    (r.1, slip.toNat + r.2.1, data ++ r.2.2)

/-! ## The fill schedule (R309, R310, R330, R334) -/

/-- The 64 components of each symbol block of a list of data symbols. -/
def symbolBlocks (data : List (Int × Int)) : List (List Int) := chunks 64 (data.flatMap (fun v => [v.1, v.2]))

/-- A block is the fill block by its content: every component has its sign (R310). -/
def isFill (comps : List Int) : Bool :=
  comps.length == 64 && (comps.zip (fillSyms.flatMap (fun x => [x.i, x.q]))).all (fun v => decide (0 < v.1 * v.2))

/-- The interval of accumulator values below `d` that starts at `at0` and goes round. -/
def arcOf (d at0 len : Nat) : List (Nat × Nat) :=
  if at0 + len ≤ d then [(at0, at0 + len)] else [(at0, d), (0, at0 + len - d)]

/-- What two lists of intervals share. -/
def meetArcs (a b : List (Nat × Nat)) : List (Nat × Nat) :=
  a.flatMap (fun x => (b.map (fun y => (max x.1 y.1, min x.2 y.2))).filter (fun z => decide (z.1 < z.2)))

/-- The increment and the divisor of a profile's accumulator (R309). -/
def Profile.accStep (p : Profile) : Nat := 65536 * frameLen p.net
def Profile.accDiv (p : Profile) : Nat := fillDivisor p.fec p.baud (p.format.getD (0, 0)).2

/-- ρ is 1: no fill exists (R309). -/
def Profile.noFill (p : Profile) : Bool := decide (p.accDiv ≤ p.accStep)

/-- A schedule that follows a signal from its first block. -/
def Profile.schedule (p : Profile) : Schedule := { held := p.noFill }

/-- The values that make the next block a fill block, and those that make it coded. -/
def Schedule.fillValues (x : Schedule) (p : Profile) : List (Nat × Nat) :=
  let d := p.accDiv
  meetArcs (x.values.getD [(0, d)]) (arcOf d ((d - x.turn % d) % d) (d - p.accStep))
def Schedule.codedValues (x : Schedule) (p : Profile) : List (Nat × Nat) :=
  let d := p.accDiv
  meetArcs (x.values.getD [(0, d)]) (arcOf d ((d - x.turn % d + (d - p.accStep)) % d) p.accStep)

/-- The schedule goes past a block whose content is the fill block or not (R330): whether it takes the block as fill, whether
no value allows the fill block it found, and the schedule after it. Until it is held it follows the content; a fill block that
no value allows starts it anew. Once held it stands, and content decides only where its values differ. It is held after the
first fill block and four more in a row that its values predicted. -/
def Schedule.pass (x : Schedule) (p : Profile) (content : Bool) : Bool × Bool × Schedule :=
  let f := x.fillValues p
  let k := x.codedValues p
  let on (y : Schedule) : Schedule := { y with turn := (x.turn + p.accStep) % max 1 p.accDiv }
  if content then
    if f.isEmpty then
      (if x.held then (false, true, on x)
       else (true, true, on { x with values := some ({ x with values := none : Schedule }.fillValues p), run := 1 }))
    else
      let run := x.run + 1
      (true, false, on { x with values := some f, run := run, held := x.held || decide (5 ≤ run) })
  else if k.isEmpty then (true, false, on { x with run := if x.held then x.run else 0 })
  else (false, false, on { x with values := if x.held then some k else x.values })

/-! ## The demapper (R329) -/

/-- The rank of a sequence of magnitudes among those of R307, with the energy left; none beyond the energy. -/
def rankOf (rows : List (List Nat)) : List Nat → Nat → Option Nat
  | [], _ => some 0
  | a :: t, left =>
    if left < a * a then none
    else
      let row := rows.getD (t.length) []
      let below := (([1, 3, 5, 7].filter (fun b => decide (b < a ∧ b * b ≤ left))).map (fun b => row.getD (left - b * b) 0)).sum
      (rankOf rows t (left - a * a)).map (fun r => below + r)

/-- The unit of the received components: a magnitude of 1. -/
def rxUnit : Nat := 1024

/-- The LLRs of a matcher index of k bits: where the components stand on the points of a sequence the matcher sends, the
bits of its rank; elsewhere what the soft inversion gives (log entry 88). -/
def matcherLlrs (k : Nat) (comps : List Int) : List Int :=
  let mags := comps.map (fun c => c.natAbs / rxUnit)
  let onPoints := comps.all (fun c => c.natAbs % rxUnit == 0 && [1, 3, 5, 7].contains (c.natAbs / rxUnit))
  let soft := (List.range k).map (Config.matcherLlr k comps)
  if onPoints then
    match rankOf (countRows 3137 64).reverse mags (eMax k) with
    | some r => if r < 2 ^ k then (bitsBE k r).map (fun b => if b then -(rxUnit : Int) else rxUnit) else soft
    | none => soft
  else soft

/-- The LLRs of a coded symbol block in coded order: positive means 0. -/
def demapBlock (fmt e : Nat) (comps : List Int) : List Int :=
  if fmt = 1 then comps
  else if fmt = 2 then comps.flatMap (fun c => [c, 2 * (rxUnit : Int) - c.natAbs])
  else matcherLlrs (2 * (e - 32)) comps ++ comps

/-- The symbol blocks of a pilot block through schedule and demapper: the schedule after them, whether one was a fill block
that no value allows, and the LLRs of the coded ones. -/
def demap (p : Profile) : List (List Int) → Schedule → Schedule × Bool × List Int
  | [], x => (x, false, [])
  | b :: t, x =>
    let r := x.pass p (isFill b)
    let q := demap p t r.2.2
    let f := p.format.getD (0, 0)
    (q.1, r.2.1 || q.2.1, if r.1 then q.2.2 else demapBlock f.1 f.2 b ++ q.2.2)

/-- The hard decision of an LLR (R329): one of zero has none, and bit n of `zeros` is it (log entry 88: any). -/
def hardBit (zeros n : Nat) (l : Int) : Bool := if l = 0 then bitOf zeros n == 1 else decide (l < 0)

/-- Hard decisions in order. -/
def hardBits (zeros : Nat) (l : List Int) : List Bool := l.zipIdx.map (fun p => hardBit zeros p.2 p.1)

/-! ## Block offsets (R274, R347) -/

/-- The bits of the block that starts at a place of a stream. -/
def blockAt (bits : List Bool) (at0 : Nat) : Nat := natOfBits ((bits.drop at0).take 30720)

/-- Checks left unsatisfied over so many consecutive blocks from a place on, each with its two thread predecessors. -/
def unsatisfiedFrom (fec : Nat) (bits : List Bool) (at0 count : Nat) : Nat :=
  ((List.range count).map (fun j =>
    let p := at0 + 30720 * j
    ldpcUnsatisfied fec (blockAt bits p) (blockInfo fec (blockAt bits (p - 16 * 30720)))
      (blockInfo fec (blockAt bits (p - 32 * 30720))))).sum

/-- The mean syndrome weight of so many blocks in 1/256, rounded down, and whether it is at or below a threshold. -/
def meanWeight (fec count sum : Nat) : Nat := sum * 256 / (count * parBits fec)
def weightOk (fec count sum thr : Nat) : Bool := decide (sum * 256 ≤ thr * (count * parBits fec))

/-- Of the 1,024 offsets of window w the lowest weight over blocks 32 to 63 of the window, with its offset; `pick` chooses among
offsets that share it (log entry 88). -/
def bestOffset (fec : Nat) (bits : List Bool) (w pick : Nat) : Nat × Nat :=
  let sums := (List.range 1024).map (fun o => unsatisfiedFrom fec bits (30720 * (64 * w + 32) + 1024 * w + o) 32)
  let least := sums.min?.getD 0
  let offsets := (List.range 1024).filter (fun o => sums.getD o 0 == least)
  (least, offsets.getD (pick % offsets.length) 0)

/-- Coded bits that window w needs, and that the 64 blocks after it need at an offset. -/
def windowBits (w : Nat) : Nat := 30720 * 64 * (w + 1) + 1024 * (w + 1) - 1
def checkBits (w offset : Nat) : Nat := 30720 * 64 * (w + 1) + offset

end Sys2Proof.Machine
end

