-- ==== Sys2Proof/Machine/Slots.lean ====
section
/-! DEFINITION. Slots and pages of connection memory: which slots a tributary holds, their runs, and the registers that
show them (R161, R165, R178, R179). -/

namespace Sys2Proof.Machine

open Reg

/-- Runs of ascending slots as (first, length). -/
def runsOf : List Nat → List (Nat × Nat)
  | [] => []
  | a :: t => match runsOf t with
    | [] => [(a, 1)]
    | (b, k) :: r => if b = a + 1 then (a, k + 1) :: r else (a, 1) :: (b, k) :: r

/-- The free slots of a page below a limit, ascending. -/
def freeSlots (limit : Nat) (p : List (Nat × Nat)) : List Nat :=
  (List.range limit).filter (fun i => !(cmUsed (pageEntry p i)))

/-- Number of slots in use below a limit. -/
def usedBelow (limit : Nat) (p : List (Nat × Nat)) : Nat :=
  (p.filter (fun e => cmUsed e.2 && decide (e.1 < limit))).length

/-- The active page of a direction and carrier. -/
def State.activePage (s : State) (d c : Nat) : List (Nat × Nat) := if d = 0 then (s.car c).tx.page else (s.car c).rx.page

/-- The carrier of the working copy of a tributary as its pages show it. -/
def State.workCarrier (s : State) (d n : Nat) : Nat :=
  let desc := (s.trib d n).desc
  if cdCprot s.carA.desc = 1 then 0
  else if cdCprot s.carB.desc = 1 then 1
  else if tdCarrier desc = 2 then
    (if (slotsOf (s.activePage d 0) n).isEmpty && !(slotsOf (s.activePage d 1) n).isEmpty then 1 else 0)
  else tdCarrier desc % 2

/-- Show a tributary's placement in its registers (R178). -/
def State.showPlace (s : State) (d n : Nat) : State :=
  let t := s.trib d n
  let w := s.workCarrier d n
  let sl := slotsOf (s.activePage d w) n
  let runs := runsOf sl
  let s := (s.setB (TRB_T_PLACE_PLACED d n) (!sl.isEmpty)).setB (TRB_T_PLACE_SPREAD d n) (decide (1 < runs.length))
  let s := s.setB (TRB_T_PLACE_BOTH d n) (!sl.isEmpty && tdTprot t.desc == 1 && cdCprot (s.car w).desc == 0)
  let s := (s.set (TRB_T_PLACE_CARR d n) w).set (TRB_T_PLACE_SLOTS d n) sl.length
  let s := (s.set (TRB_T_RUNS_RUNS d n) runs.length).set (TRB_T_RUNS_FIRST d n) (sl.headD 0)
  s.set (TRB_T_RATE_PAYLOAD d n) (payloadKbps sl.length (sealUnits sl.length (s.polMax (tdSealpol t.desc))))

/-- The net rate that bounds a page: NET on transmit, the receive rate on receive (R234). -/
def State.pageNet (s : State) (d c : Nat) : Nat := if d = 0 then cdNet (s.car c).desc else (s.rxRun c).net

/-- Show a page's generation and free slots (R179). -/
def State.showPage (s : State) (d c gen : Nat) : State :=
  let lim := 1024 * s.pageNet d c
  (s.set (TRB_PG_GEN (2 * d + c)) gen).set (TRB_PG_FREE (2 * d + c)) (lim - usedBelow lim (s.activePage d c))

end Sys2Proof.Machine
end

