-- ==== Sys2Proof/Machine/Protect.lean ====
section
/-! DEFINITION. Protection: groups, hold-off, the request in force, the selector, commit points and the differential
delay (R255 to R265). A group is a tributary index, or 1024 for the carrier pair. -/

namespace Sys2Proof.Machine

open Reg

/-- The carrier pair as a group. -/
def pairGroup : Nat := 1024

def pgREQ (g : Nat) : Fld := if g = 1024 then FRM_CPG_STATUS_REQ else FRM_TP_STATUS_REQ g
def pgSEL (g : Nat) : Fld := if g = 1024 then FRM_CPG_STATUS_SEL else FRM_TP_STATUS_SEL g
def pgWTR (g : Nat) : Fld := if g = 1024 then FRM_CPG_STATUS_WTR else FRM_TP_STATUS_WTR g
def pgDDX (g : Nat) : Fld := if g = 1024 then FRM_CPG_STATUS_DDX else FRM_TP_STATUS_DDX g
def pgBOTH (g : Nat) : Fld := if g = 1024 then FRM_CPG_STATUS_BOTHFAIL else FRM_TP_STATUS_BOTHFAIL g
def pgCMD (g : Nat) : Fld := if g = 1024 then FRM_CPG_STATUS_CMD else FRM_TP_STATUS_CMD g
def pgACTIVE (g : Nat) : Fld := if g = 1024 then FRM_CPG_STATUS_ACTIVE else FRM_TP_STATUS_ACTIVE g
def pgLEFT (g : Nat) : Fld := if g = 1024 then FRM_CPG_STATUS_WTRLEFT else FRM_TP_STATUS_WTRLEFT g
def pgDD (g : Nat) : Fld := if g = 1024 then FRM_CPG_DD_DD else FRM_TP_DD_DD g
def pgSW (g : Nat) : Fld := if g = 1024 then FRM_CPG_SW_COUNT else FRM_TP_SW_COUNT g
def pgEvAPSM (g : Nat) : Fld := if g = 1024 then FRM_CPG_EVENT_APSM else FRM_TP_EVENT_APSM g
def pgEvDDX (g : Nat) : Fld := if g = 1024 then FRM_CPG_EVENT_DDX else FRM_TP_EVENT_DDX g
def pgEvBOTH (g : Nat) : Fld := if g = 1024 then FRM_CPG_EVENT_BOTHFAIL else FRM_TP_EVENT_BOTHFAIL g
def pgEvSWITCH (g : Nat) : Fld := if g = 1024 then FRM_CPG_EVENT_SWITCH else FRM_TP_EVENT_SWITCH g

/-- A group's memory. -/
def State.prot (s : State) (g : Nat) : Protect := if g = 1024 then s.pairProt else (s.trib 1 g).prot

/-- Replace a group's memory. -/
def State.setProt (s : State) (g : Nat) (p : Protect) : State :=
  if g = 1024 then { s with pairProt := p } else s.setTrib 1 g { s.trib 1 g with prot := p }

/-- The CPROT 1 carrier of the pair. -/
def State.pairCarrier (s : State) : Nat := if cdCprot s.carB.desc = 1 then 1 else 0

/-- The carrier of the working copy of a group (R255). -/
def State.pgWork (s : State) (g : Nat) : Nat :=
  if g = 1024 then s.pairCarrier else tdCarrier (s.trib 1 g).desc % 2

/-- The handle of a group (R537). -/
def State.pgHandle (s : State) (g : Nat) : Nat := if g = 1024 then hCarrier s.pairCarrier else hTrib 1 g

/-- REVERT, HOLDOFF and WTR of a group. -/
def State.pgRevert (s : State) (g : Nat) : Bool :=
  if g = 1024 then cdRevert (s.car s.pairCarrier).desc else tdRevert (s.trib 1 g).desc
def State.pgHoldoff (s : State) (g : Nat) : Nat :=
  if g = 1024 then cdHoldoff (s.car s.pairCarrier).desc else tdHoldoff (s.trib 1 g).desc
def State.pgWtr (s : State) (g : Nat) : Nat :=
  if g = 1024 then cdWtr (s.car s.pairCarrier).desc else tdWtr (s.trib 1 g).desc

/-- A group is configured and enabled. -/
def State.pgActive (s : State) (g : Nat) : Bool :=
  if g = 1024 then s.pairOn
  else (s.trib 1 g).active && tdTprot (s.trib 1 g).desc == 1

/-- The group of a receive tributary, if it has one (R255). -/
def State.tribGroup (s : State) (n : Nat) : Option Nat :=
  if s.pgActive pairGroup then some pairGroup else if tdTprot (s.trib 1 n).desc = 1 then some n else none

/-- The level of a copy now: 0 clear, 1 in SD, 2 in SF (R248, R255). -/
def State.copyLevel (s : State) (g c : Nat) : Nat :=
  let noSlots := g != 1024 && (if c = 0 then (s.trib 1 g).rx.copyA.slots == 0 else (s.trib 1 g).rx.copyB.slots == 0)
  if s.on (FRM_C_STATUS_SF c) || noSlots then 2 else if s.on (FRM_C_STATUS_SD c) then 1 else 0

/-- The level that has entered the selection after a change (R257): a copy that changes leaves at once, and enters
again after its hold-off, at once when HOLDOFF is 0. Answers running, level now, level entered. -/
def holdCopy (zero : Bool) (now : Nat) (running : Bool) (level entered : Nat) : Bool × Nat × Nat :=
  if now = level then (running, level, entered)
  else if now = 0 then (false, 0, 0)
  else if zero then (false, now, now)
  else (true, now, 0)

/-- What the table of R258 gives: the request in force and the selected copy. -/
structure Choice where
  req : Nat
  sel : Nat
deriving DecidableEq, Repr

/-- The table of R258. `cmd` is the PROTECT command in force, `lA` and `lB` the levels that have entered, `cur` the copy
that the request so far selects, `sel` the one selected, `wtr` says that wait-to-restore holds (protection selected after a fault of the working copy, not clear
for WTR seconds). -/
def chooseCopy (cmd work lA lB cur sel : Nat) (revert wtr : Bool) : Choice :=
  if cmd = 1 then ⟨7, work⟩
  else if cmd = 2 ∨ cmd = 3 then ⟨6, cmd - 2⟩
  else if lA = 2 ∧ lB = 2 then ⟨5, sel⟩
  else if lA = 2 then ⟨5, 1⟩
  else if lB = 2 then ⟨5, 0⟩
  else if lA = 1 ∧ lB = 1 then ⟨4, sel⟩
  else if lA = 1 then ⟨4, 1⟩
  else if lB = 1 then ⟨4, 0⟩
  else if cmd = 4 ∨ cmd = 5 then ⟨3, cmd - 4⟩
  else if revert ∧ cur ≠ work ∧ wtr then ⟨2, cur⟩
  else if revert = false ∧ cur ≠ work then ⟨1, cur⟩
  else ⟨0, work⟩

/-- Evaluate a group after a change of its copies or commands (R256 to R258). A group that becomes active starts on its
working copy. The selector itself moves at a commit point (R259). -/
def State.evalGroup (s : State) (g : Nat) : State :=
  if s.pgActive g then
    let work := s.pgWork g
    let fresh := !(s.on (pgACTIVE g))
    let s := if fresh then s.set (pgSEL g) work else s
    let p := if fresh then { s.prot g with want := work } else s.prot g
    let a := holdCopy (s.pgHoldoff g == 0) (s.copyLevel g 0) p.holdA p.levelA p.enteredA
    let b := holdCopy (s.pgHoldoff g == 0) (s.copyLevel g 1) p.holdB p.levelB p.enteredB
    let workNow := if work = 0 then a.2.1 else b.2.1
    let workWas := if work = 0 then p.levelA else p.levelB
    let ch := chooseCopy (s.get (pgCMD g)) work a.2.2 b.2.2 p.want (s.get (pgSEL g)) (s.pgRevert g)
      (p.afterFault && !(s.pgWtr g == 0 && workNow == 0))
    let fault := p.afterFault || ((ch.req == 5 || ch.req == 4) && ch.sel != work)
    let fault := fault && ch.sel != work
    let runs := ch.req == 2 && workNow == 0
    let starts := runs && (!(s.on (pgWTR g)) || workWas != 0)
    let both := a.2.1 == 2 && b.2.1 == 2
    let s := s.setProt g { p with
      holdA := a.1, levelA := a.2.1, enteredA := a.2.2
      holdB := b.1, levelB := b.2.1, enteredB := b.2.2
      afterFault := fault, want := ch.sel }
    let s := if both && !(s.on (pgBOTH g)) then s.setB (pgEvBOTH g) true else s
    let s := ((s.set (pgREQ g) ch.req).setB (pgBOTH g) both).setB (pgACTIVE g) true
    let s := s.setB (pgWTR g) runs
    if starts then s.set (pgLEFT g) (s.pgWtr g) else if runs then s else s.set (pgLEFT g) 0
  else
    let s := s.setProt g {}
    (s.zero [pgREQ g, pgSEL g, pgWTR g, pgDDX g, pgBOTH g, pgACTIVE g, pgLEFT g]).set (pgDD g) 0x80000000

/-- Groups that a carrier's SF or SD concerns. -/
def State.groupsOn (s : State) : List Nat :=
  (if s.pgActive pairGroup then [pairGroup] else [])
    ++ (s.tribList.filter (fun p => p.1 == 1 && s.pgActive p.2 && tdTprot (s.trib 1 p.2).desc == 1)).map (fun p => p.2)

/-- Evaluate every group (R258). -/
def State.evalGroups (s : State) : State := s.groupsOn.foldl (fun s g => s.evalGroup g) s

/-- The selector of a group moves to the copy that the request in force selects: counted, posted with the request, and
flagged THROTTLED under a shutter step (R264). -/
def State.moveSelector (s : State) (g : Nat) : State :=
  let old := s.get (pgSEL g)
  let new := (s.prot g).want
  if old = new ∨ s.pgActive g = false then s
  else
    let s := ((s.set (pgSEL g) new).bump (pgSW g) 1).setB (pgEvSWITCH g) true
    s.post srcFRM 0x04 (s.pgHandle g) [old, new, s.get (pgREQ g), if s.shutter = 0 then 0 else 1]

/-- A PROTECT command takes effect on a receive selector (R51, R255, R256). A CLEAR of a FORCE or MANUAL command ends any
waiting to restore (R258). -/
def State.protectCmd (s : State) (g code : Nat) : State :=
  let was := s.get (pgCMD g)
  let s := s.set (pgCMD g) code
  let s := if code = 0 ∧ 2 ≤ was then s.setProt g { s.prot g with afterFault := false } else s
  s.evalGroup g

/-- A copy's hold-off expires (R257): its level enters the selection. -/
def State.holdoffExpiry (s : State) (g c : Nat) : State :=
  let p := s.prot g
  if s.pgActive g = false then s
  else if c = 0 ∧ p.holdA = true then (s.setProt g { p with holdA := false, enteredA := p.levelA }).evalGroup g
  else if c = 1 ∧ p.holdB = true then (s.setProt g { p with holdB := false, enteredB := p.levelB }).evalGroup g
  else s

/-- Wait-to-restore expires (R258): the group selects its working copy. -/
def State.wtrExpiry (s : State) (g : Nat) : State :=
  if s.pgActive g && s.on (pgWTR g) then (s.setProt g { s.prot g with afterFault := false }).evalGroup g else s

/-- A whole second of device time is over: the seconds of wait-to-restore that remain (R267). -/
def State.wtrCount (s : State) : State :=
  s.groupsOn.foldl (fun s g => if s.on (pgWTR g) then s.set (pgLEFT g) (s.get (pgLEFT g) - 1) else s) s

/-! ## Differential delay (R261) -/

/-- The largest differential delay, in ns. -/
def ddLimit : Int := 102400

/-- DD unknown as its register shows it. -/
def ddUnknown : Nat := 0x80000000

/-- Show DD for a group and raise or clear DDX (R261, R266): `none` is unknown. -/
def State.showDD (s : State) (g : Nat) (dd : Option Int) : State :=
  let x := match dd with
    | none => true
    | some d => decide (d < -ddLimit ∨ ddLimit < d)
  let v := match dd with
    | none => ddUnknown
    | some d => iw d
  let was := s.on (pgDDX g)
  let s := (s.set (pgDD g) v).setB (pgDDX g) x
  if x = was then s
  else
    let s := if x then s.setB (pgEvDDX g) true else s
    s.post srcFRM 0x06 (s.pgHandle g) [x.toNat, v]

/-- Show DD for every group on the two carriers. -/
def State.showDDs (s : State) (dd : Option Int) : State := s.groupsOn.foldl (fun s g => s.showDD g dd) s

/-! ## Commit points (R259) -/

def TribRx.copy (r : TribRx) (c : Nat) : RxCopy := if c = 0 then r.copyA else r.copyB
def TribRx.setCopy (r : TribRx) (c : Nat) (x : RxCopy) : TribRx := if c = 0 then { r with copyA := x } else { r with copyB := x }

/-- Unit numbers of a tributary of S slots come round with SFN and FNUM, after 2^40 frames. -/
def idCircle (slots : Nat) : Nat := 2 ^ 40 * slots

/-- A number follows another on a circle of `m` when it is less than half the circle ahead. -/
def idAfter (m a b : Nat) : Bool := decide (a ≠ b ∧ (a + m - b) % m < m / 2)

/-- Drop the seals of a copy up to a number. -/
def RxCopy.dropTo (m : Nat) (x : RxCopy) (id : Nat) : RxCopy := { x with seals := x.seals.filter (fun e => idAfter m e.1 id) }

/-- The seals that no copy gave between the last one taken and this one (R261). -/
def missedSeals (m b id : Nat) (last : Option Nat) : Nat :=
  match last with
  | some l => (id + m - l) % m / b - 1
  | none => 0

/-- The seal that a commit point takes next (R259, R261): its number and, when the selected copy has it whole, its
units. `need` are the copies the commit point takes account of; each of them must have a whole seal. -/
def nextCommit (m : Nat) (r : TribRx) (need : List Nat) (sel : Nat) : Option (Nat × Option (List (List RxByte))) :=
  if need.any (fun c => (r.copy c).seals.isEmpty) then none
  else
    match (need.filterMap (fun c => (r.copy c).seals.head?)).map (fun e => e.1) with
    | [] => none
    | a :: t =>
      let id := t.foldl (fun x v => if idAfter m x v then v else x) a
      some (id, ((r.copy sel).seals.find? (fun e => e.1 == id)).map (fun e => e.2))

/-- A commit point of a protected receive tributary (R259, R261): the selector moves, and the next seal is taken whole
from the selected copy, or replaced when that copy does not have it, after the seals that no copy gave. An empty unit
stands for a replaced seal. -/
def State.commitPoint (s : State) (n : Nat) : State :=
  match s.tribGroup n with
  | none => s
  | some g =>
    let s := s.moveSelector g
    let t := s.trib 1 n
    if t.active = false then s
    else
      let sel := s.get (pgSEL g)
      let need := if s.on (pgDDX g) then [sel]
        else [0, 1].filter (fun c => !(s.on (FRM_C_STATUS_SF c)) && (t.rx.copy c).started)
      let m := idCircle (max 1 (t.rx.copy sel).slots)
      match nextCommit m t.rx need sel with
      | none => s
      | some (id, units) =>
        let r := { t.rx with copyA := t.rx.copyA.dropTo m id, copyB := t.rx.copyB.dropTo m id }
        let late := match t.rx.lastId with
          | some l => !(idAfter m id l)
          | none => false
        if late then s.setTribRx n r
        else
          let r := { r with lastId := some id }
          let gone := List.replicate (missedSeals m (s.get (CIP_T_SEAL_UNITS 1 n)) id t.rx.lastId) []
          s.setTribRx n { r with toCip := r.toCip ++ gone ++ units.getD [[]] }

end Sys2Proof.Machine
end

