-- ==== Sys2Proof/Machine/FrameRx.lean ====
section
/-! DEFINITION. The receive direction of a carrier: defects, frame alignment, outer decoding, overhead, received maps,
seal phases, seconds (R164, R169, R170, R207, R208, R234 to R254). -/

namespace Sys2Proof.Machine

open Reg

/-! ## Defects (R246 to R249) -/

/-- The accepted, expected and sent SRCIDs (R267). -/
def State.rxSrc (s : State) (c : Nat) : Nat := s.get (FRM_C_RXSRCHI_ID c) * 2 ^ 32 + s.get (FRM_C_RXSRCLO_ID c)
def State.expSrc (s : State) (c : Nat) : Nat := s.get (FRM_C_EXPHI_ID c) * 2 ^ 32 + s.get (FRM_C_EXPLO_ID c)

/-- PROT and REV of an APS byte differ from the local group's. -/
def apsDiffers (byte : Nat) (prot rev : Bool) : Bool := (bitOf byte 1 == 1) != prot || (bitOf byte 2 == 1) != rev

/-- dLOL, dLOF and dLOM, before their effect on one another (R246). -/
def State.carLocked (s : State) (c : Nat) : Bool := (s.acq c).lock.isSome
def State.isLol (s : State) (c : Nat) : Bool := (s.car c).ost == .enabled && !(s.carLocked c)
def State.isLof (s : State) (c : Nat) : Bool :=
  (s.car c).ost == .enabled && s.carLocked c && !(s.on (FRM_C_ALIGN_SYNC c))
def State.isLom (s : State) (c : Nat) : Bool :=
  (s.car c).ost == .enabled && s.carLocked c && s.on (FRM_C_ALIGN_SYNC c) && (s.car c).rx.rawLom

/-- The defects of a carrier as they stand now, with their status bit, status field and event field (R246, R247). -/
def State.defectsNow (s : State) (c : Nat) : List (Nat × Fld × Fld × Bool) :=
  let car := s.car c
  let free := car.ost == .enabled && !(s.isLol c) && !(s.isLof c)
  let sim := car.rx.srcAccepted && s.expSrc c != 0 && s.rxSrc c != s.expSrc c
  let aps := car.rx.apsAccepted && apsDiffers (s.get (FRM_C_APS_APS c)) (cdCprot car.desc != 0) (cdRevert car.desc)
  [(10, FRM_C_STATUS_DAPSM c, FRM_C_EVENT_DAPSM c, free && aps),
   (9, FRM_C_STATUS_DSIM c, FRM_C_EVENT_DSIM c, free && sim),
   (8, FRM_C_STATUS_DDEG c, FRM_C_EVENT_DDEG c, free && car.rx.rawDeg),
   (7, FRM_C_STATUS_FECSD c, FRM_C_EVENT_FECSD c, s.on (FEC_C_STATUS_FECSD c)),
   (6, FRM_C_STATUS_FECSF c, FRM_C_EVENT_FECSF c, s.on (FEC_C_STATUS_FECSF c)),
   (5, FRM_C_STATUS_DLOM c, FRM_C_EVENT_DLOM c, s.isLom c),
   (4, FRM_C_STATUS_DLOF c, FRM_C_EVENT_DLOF c, s.isLof c),
   (3, FRM_C_STATUS_DLOL c, FRM_C_EVENT_DLOL c, s.isLol c)]

/-- One defect is raised or cleared: status, event bit on entry, event record (R246, R266). -/
def State.putDefect (s : State) (c : Nat) (d : Nat × Fld × Fld × Bool) : State :=
  if s.on d.2.1 = d.2.2.2 then s
  else
    let s := s.setB d.2.1 d.2.2.2
    let s := if d.2.2.2 then s.setB d.2.2.1 true else s
    s.post srcFRM 0x01 (hCarrier c) [d.1, d.2.2.2.toNat]

/-- A level signal's entry to 1 counts as one occurrence (R557). -/
def State.putLevel (s : State) (f : Fld) (sig c : Nat) (b : Bool) : State :=
  let s := if b && !(s.on f) then s.pmc sig c 1 else s
  s.setB f b

/-- Evaluate the defects of a carrier, its SF and SD, and protection after a change (R246 to R249, R257). -/
def State.defects (s : State) (c : Nat) : State :=
  let s := (s.defectsNow c).foldl (fun s d => s.putDefect c d) s
  let en := (s.car c).ost == .enabled
  let any4 := s.on (FRM_C_STATUS_DLOL c) || s.on (FRM_C_STATUS_DLOF c) || s.on (FRM_C_STATUS_DLOM c)
    || s.on (FRM_C_STATUS_FECSF c)
  let sf := !en || any4 || (s.on (FRM_C_STATUS_DSIM c) && s.on (FRM_C_CTL_SIMSF c))
  let s := s.putLevel (FRM_C_STATUS_SF c) 0x09 c sf
  let s := s.putLevel (FRM_C_STATUS_SD c) 0x0A c (!sf && (s.on (FRM_C_STATUS_DDEG c) || s.on (FRM_C_STATUS_FECSD c)))
  let rx := (s.car c).rx
  let s := s.setB (FRM_C_APS_VALID c) (rx.apsAccepted && !(s.on (FRM_C_STATUS_DLOL c)) && !(s.on (FRM_C_STATUS_DLOF c))
    && !(s.on (FRM_C_STATUS_DLOM c)))
  let s := s.set (FRM_C_ALIGN_FLEN c) (if en then frameLen (s.rxRun c).net else 0)
  let s := if en then s else s.setB (FRM_C_STATUS_RBDI c) false
  let s := if any4 then s.setCarRx c { rx with acc := { rx.acc with defect := true } } else s
  s.evalGroups

/-! ## Receive tributaries on a carrier -/

/-- A receive tributary may be delivered by a carrier (R164, R255). -/
def State.mayUse (s : State) (c n : Nat) : Bool :=
  let d := (s.trib 1 n).desc
  s.pgActive pairGroup || tdTprot d == 1 || tdCarrier d == c || tdCarrier d == 2

/-- Receive tributaries that are ENABLED or DRAINING. -/
def State.rxTribs (s : State) : List Nat :=
  (s.tribList.filter (fun p => p.1 == 1 && (s.trib 1 p.2).active)).map (fun p => p.2)

/-- A copy has lost its seal boundaries: its units and open seal are discarded; whole seals still wait for their commit points
(R170, R263). -/
def RxCopy.lost (x : RxCopy) : RxCopy := { slots := x.slots, seals := x.seals }

/-- What R209 asks of a copy holds: its carrier is locked and aligned, and its map gives the tributary slots. -/
def State.copyStands (s : State) (c n : Nat) : Bool :=
  (s.car c).ost == .enabled && s.carLocked c && s.on (FRM_C_ALIGN_SYNC c) && ((s.trib 1 n).rx.copy c).slots != 0

/-- A carrier no longer delivers a tributary as before: its copy is lost, and an unprotected tributary that takes it from there, or one
whose other copy does not stand either, hunts (R209, R263). -/
def State.copyLost (s : State) (c n : Nat) (inUse : Bool) : State :=
  let t := s.trib 1 n
  let s := s.setTribRx n (t.rx.setCopy c (t.rx.copy c).lost)
  if (s.tribGroup n).isSome then
    (if s.copyStands (1 - c) n then s else s.toHunt n)
  else if inUse then s.toHunt n else s

/-- Every tributary of a carrier loses its copy: alignment lost or not locked (R209). -/
def State.copiesLost (s : State) (c : Nat) : State :=
  (s.rxTribs.filter (fun n => s.mayUse c n)).foldl (fun s n => s.copyLost c n (s.rxCarrier n == c)) s

/-! ## Alignment (R242 to R244) -/

/-- The FAW stands at the head of a stream, with no poisoned byte. -/
def fawHead (l : List RxByte) : Bool :=
  (l.take 8).map (fun b => b.byte) == bytesBE 8 faw && (l.take 8).all (fun b => !b.bad)

/-- The candidates after the search at one offset of a stretch of L bytes: candidates, matches ignored, and whether the
candidate there has matched in three frames in a row. -/
def scanAt (len off : Nat) (hit : Bool) (cs : List Candidate) : List Candidate × Nat × Bool :=
  match cs.find? (fun x => x.dist == off) with
  | some x =>
    if hit then (cs.map (fun y => if y.dist == off then ⟨off + len, min 3 (y.hits + 1)⟩ else y), 0, decide (2 ≤ x.hits))
    else (cs.filter (fun y => y.dist != off), 0, false)
  | none =>
    if hit then (if cs.length < 8 then (cs ++ [⟨off + len, 1⟩], 0, false) else (cs, 1, false)) else (cs, 0, false)

/-- What the search over a stretch found. -/
structure ScanRes where
  cands : List Candidate
  ignored : Nat
  sync : Option Nat
deriving DecidableEq, Repr

/-- Search `k` offsets from `off`; in OOF the search ends where alignment is gained (R243). -/
def scan (oof : Bool) (len : Nat) : Nat → Nat → List RxByte → List Candidate → Nat → ScanRes
  | 0, _, _, cs, ig => ⟨cs, ig, none⟩
  | k + 1, off, l, cs, ig =>
    match scanAt len off (fawHead l) cs with
    | (cs', i, three) =>
      if oof && three then ⟨cs', ig + i, some off⟩ else scan oof len k (off + 1) (l.drop 1) cs' (ig + i)

/-- Move the candidates' places `k` bytes down the stream. -/
def moveCands (k : Nat) (cs : List Candidate) : List Candidate := cs.map (fun x => ⟨x.dist - k, x.hits⟩)

/-! ## Outer decoding (R235, R236) -/

/-- Decode outer block `i` of a frame: its 1,024 bytes after decoding, the bits corrected and whether it was found
uncorrectable. -/
def decodeOuter (info : List RxByte) (parity : List RxByte) (i : Nat) : List RxByte × Nat × Bool :=
  let first := 126 * i / 8
  let last := (126 * i + 125) / 8
  let pb := (parity.drop first).take (last + 1 - first)
  if info.any (fun b => b.bad) || pb.any (fun b => b.bad) then (info, 0, false)
  else
    let pbits := ((bitsOfBytes (pb.map (fun b => b.byte))).drop (126 * i - 8 * first)).take 126
    match bchDecode (bitsOfBytes (info.map (fun b => b.byte)) ++ pbits) with
    | some (bits, k) => ((bytesOfBits (bits.take 8192)).map (fun b => ⟨b, false, false⟩), k, false)
    | none => (info.map (fun b => { b with bad := true }), 0, true)

/-- A frame after outer decoding: its bytes before the parity, bits corrected, blocks uncorrectable, and whether any of
its bytes is poisoned. -/
structure Decoded where
  bytes : List RxByte
  corrected : Nat
  uncorrectable : Nat
  poisoned : Bool
deriving DecidableEq, Repr

/-- Outer decoding of a whole frame of net rate `n`. -/
def decodeFrame (n : Nat) (frame : List RxByte) : Decoded :=
  let info := frame.take (1024 + 16384 * n)
  let parity := frame.drop (1024 + 16384 * n)
  let bs := ((chunks 1024 info).zipIdx).map (fun p => decodeOuter p.1 parity p.2)
  let bytes := bs.flatMap (fun b => b.1)
  ⟨bytes, (bs.map (fun b => b.2.1)).sum, (bs.filter (fun b => b.2.2)).length,
    bytes.any (fun b => b.bad) || parity.any (fun b => b.bad)⟩

/-- A field of the overhead, if none of its bytes is poisoned. -/
def ohField (bytes : List RxByte) (at_ len : Nat) : Option (List Byte) :=
  let f := (bytes.drop at_).take len
  if f.any (fun b => b.bad) then none else some (f.map (fun b => b.byte))

/-- The EDC of a frame as the next one carries it: the CRC with the EDC field zero (R237). -/
def frameCrc (bytes : List RxByte) : Nat :=
  let raw := bytes.map (fun b => b.byte)
  crc32 (raw.take 12 ++ List.replicate 4 0 ++ raw.drop 16)

/-! ## Persistent overhead (R245) -/

/-- A value arrives in a field, or the field is poisoned: the run, and whether the value is accepted now. -/
def persistStep (p : Persist) (v : Option Nat) : Persist × Bool :=
  match v with
  | none => (⟨p.value, 0⟩, false)
  | some x => if p.run ≠ 0 ∧ p.value = x then (⟨x, min 3 (p.run + 1)⟩, p.run == 2) else (⟨x, 1⟩, false)

/-- The frame that carries a persistent field: FNUM 0 the SRCID, 1 the carrier APS byte, 2 to 65 those of tributaries. -/
def persistFnum (key : Nat) : Nat := if key < 2 then key else 2 + (key - 2) / 16

/-- The runs of the fields that were not read in the `k` frames before frame FNUM are broken. -/
def breakRuns (k fnum : Nat) (l : List (Nat × Persist)) : List (Nat × Persist) :=
  l.map (fun p => if (fnum + 255 - persistFnum p.1) % 256 < k then (p.1, ⟨p.2.value, 0⟩) else p)

/-- One arrival of a persistent field of a carrier: 0 SRCID, 1 the carrier APS byte, 2 + n the APS byte of tributary n. -/
def State.persistField (s : State) (c key : Nat) (v : Option Nat) : State × Option Nat :=
  let rx := (s.car c).rx
  match persistStep (Assoc.get ⟨0, 0⟩ key rx.persist) v with
  | (p, acc) => (s.setCarRx c { rx with persist := Assoc.put key p rx.persist }, if acc then some p.value else none)

/-- A newly accepted SRCID. -/
def State.acceptSrc (s : State) (c : Nat) (v : Option Nat) : State :=
  match s.persistField c 0 v with
  | (s, none) => s
  | (s, some x) =>
    let s := (s.set (FRM_C_RXSRCHI_ID c) (x / 2 ^ 32)).set (FRM_C_RXSRCLO_ID c) (x % 2 ^ 32)
    s.setCarRx c { (s.car c).rx with srcAccepted := true }

/-- A newly accepted carrier APS byte. -/
def State.acceptAps (s : State) (c : Nat) (v : Option Nat) : State :=
  match s.persistField c 1 v with
  | (s, none) => s
  | (s, some x) =>
    let new := !(s.car c).rx.apsAccepted || s.get (FRM_C_APS_APS c) != x
    let s := (s.set (FRM_C_APS_APS c) x).setCarRx c { (s.car c).rx with apsAccepted := true }
    let d := (s.car c).desc
    let s := if s.pgActive pairGroup && apsDiffers x (cdCprot d != 0) (cdRevert d) then s.setB FRM_CPG_EVENT_APSM true else s
    if new then s.post srcFRM 0x03 (hCarrier c) [x] else s

/-- A newly accepted APS byte of a tributary, from the carrier that delivers it. -/
def State.acceptTribAps (s : State) (c n : Nat) (v : Option Nat) : State :=
  match s.persistField c (2 + n) v with
  | (s, none) => s
  | (s, some x) =>
    if s.rxCarrier n = c then
      let d := (s.trib 1 n).desc
      let new := !(s.on (FRM_TP_STATUS_APSV n)) || s.get (FRM_TP_STATUS_APS n) != x
      let s := (s.set (FRM_TP_STATUS_APS n) x).setB (FRM_TP_STATUS_APSV n) true
      let s := if (s.trib 1 n).active && apsDiffers x (tdTprot d == 1) (tdRevert d) then s.setB (FRM_TP_EVENT_APSM n) true else s
      if new then s.post srcFRM 0x03 (hTrib 1 n) [x] else s
    else s

/-! ## Received maps (R164, R169, R170) -/

/-- The page that the parts of a map describe: ORD follows ascending slots (R165). -/
def pageOfParts (parts : List (Nat × List Nat)) : List (Nat × Nat) :=
  let entries := (List.range 256).flatMap (fun f => ((Assoc.get [] f parts).zipIdx).map (fun p => (96 * f + p.2, p.1)))
  let used := entries.filter (fun e => bitOf e.2 15 == 1)
  (used.foldl (fun (p : List (Nat × Nat) × List (Nat × Nat)) e =>
    let n := fieldOf e.2 0 10
    let k := Assoc.get 0 n p.2
    ((e.1, cmEntry false n k) :: p.1, Assoc.put n (k + 1) p.2)) ([], [])).1.reverse

/-- The map of a superframe ends with frame 255's map control: it passes its CRC and waits for the boundary, or fails
and is counted (R169). -/
def State.mapEnd (s : State) (c : Nat) (ctl : Option (List Byte)) : State :=
  let rx := (s.car c).rx
  let whole := (List.range 256).all (fun f => ((Assoc.get [] f rx.parts).length == 96))
  let bytes := (List.range 256).flatMap (fun f => (Assoc.get [] f rx.parts).flatMap (fun e => bytesBE 2 e))
  let good := match ctl with
    | none => none
    | some l => if whole && crc32 (l.take 2 ++ bytes) == natBE ((l.drop 4).take 4) then some (natBE (l.take 2)) else none
  match good with
  | none =>
    let s := s.setCarRx c { rx with parts := [], nextMap := none }
    s.bump (if c = 0 then TRB_MAPERR_CARA else TRB_MAPERR_CARB) 1
  | some gen =>
    s.setCarRx c { rx with
      parts := []
      nextMap := if rx.mapped && gen == s.get (TRB_PG_GEN (2 + c)) then none else some (gen, pageOfParts rx.parts) }

/-- A tributary's slots in the received page have changed in number: B of R148, the registers, NOMAP and MAPSIZE (R164),
and its copy starts afresh (R170). -/
def State.newSlots (s : State) (c n k : Nat) : State :=
  let t := s.trib 1 n
  let inUse := s.rxCarrier n == c
  let s := s.setTribRx n (t.rx.setCopy c { t.rx.copy c with slots := k })
  let s := s.copyLost c n inUse
  let d := t.desc
  let both := [0, 1].filter (fun c => s.mayUse c n)
  let some_ := both.any (fun c => ((s.trib 1 n).rx.copy c).slots != 0)
  let s := if some_ then s else s.setB (TRB_T_EVENT_NOMAP 1 n) true
  let s := if s.tribSlots d < k then s.setB (TRB_T_EVENT_MAPSIZE 1 n) true else s
  let s := if k = 0 then s else s.set (CIP_T_SEAL_UNITS 1 n) (sealUnits k (s.polMax (tdSealpol d)))
  s.showPlace 1 n

/-- Bring a receive page into force: tributaries whose number of slots changed start afresh; the others go on. -/
def State.setRxPage (s : State) (c gen : Nat) (page : List (Nat × Nat)) : State :=
  let s := (s.setCarRx c { (s.car c).rx with page := page, pageNo := 1 - (s.car c).rx.pageNo }).showPage 1 c gen
  (s.rxTribs.filter (fun n => s.mayUse c n)).foldl (fun s n =>
    let k := (slotsOf page n).length
    if k = ((s.trib 1 n).rx.copy c).slots then s.showPlace 1 n else s.newSlots c n k) s

/-- The map that waits comes into force as its superframe starts (R169). -/
def State.applyMap (s : State) (c : Nat) : State :=
  match (s.car c).rx.nextMap with
  | none => s
  | some (gen, page) =>
    (s.setCarRx c { (s.car c).rx with nextMap := none, mapped := true }).setRxPage c gen page

/-! ## Seal phases (R207, R208) -/

/-- A seal-phase entry arrives for a tributary on a carrier: it is accepted when it continues the entry of the superframe
before. -/
def State.phaseEntry (s : State) (c n e : Nat) : State :=
  let t := s.trib 1 n
  if t.active = false ∨ s.mayUse c n = false then s
  else
    let x := t.rx.copy c
    let b := s.get (CIP_T_SEAL_UNITS 1 n)
    if bitOf e 31 = 0 ∨ b = 0 ∨ x.slots = 0 then s.setTribRx n (t.rx.setCopy c { x with phase := none })
    else
      let off := fieldOf e 0 19
      let ok := match x.phase with
        | some p => decide (off = (p % b + b - 256 * x.slots % b) % b)
        | none => false
      let s := s.setTribRx n (t.rx.setCopy c { x with phase := some off })
      if ok && !x.known then
        let rx := (s.car c).rx
        let s := s.setCarRx c { rx with phases := Assoc.put n off rx.phases }
        if s.rxState n = 1 then s.set (CIP_T_SEAL_RXSTATE 1 n) 2 else s
      else s

/-- Accepted phases take effect as the next superframe starts. -/
def State.applyPhases (s : State) (c : Nat) : State :=
  let ph := (s.car c).rx.phases
  let s := s.setCarRx c { (s.car c).rx with phases := [] }
  ph.foldl (fun s p =>
    let r := (s.trib 1 p.1).rx
    let b := s.get (CIP_T_SEAL_UNITS 1 p.1)
    let place := if b = 0 then 0 else (b - p.2 % b) % b
    s.setTribRx p.1 (r.setCopy c { r.copy c with known := true, place := place, started := place == 0, units := [] })) s

/-! ## Units -/

/-- A unit of a tributary arrives on a carrier (R144, R259): at a seal boundary the copy starts; a protected copy gathers
whole seals, an unprotected one passes units on. `id` numbers the unit. -/
def State.unitIn (s : State) (c n : Nat) (isProt : Bool) (id : Nat) (u : List RxByte) : State :=
  let r := (s.trib 1 n).rx
  let x := r.copy c
  let b := s.get (CIP_T_SEAL_UNITS 1 n)
  let place := (x.place + 1) % b
  let ends := place == 0
  if !x.started then s.setTribRx n (r.setCopy c { x with place := place, started := ends })
  else if isProt then
    let us := x.units ++ [u]
    let x' := if ends then { x with place := place, units := [], seals := x.seals ++ [(id, us)] }
      else { x with place := place, units := us }
    s.setTribRx n (r.setCopy c x')
  else s.setTribRx n { (r.setCopy c { x with place := place }) with toCip := r.toCip ++ [u] }

/-- Sixteen bytes with memory poison: a unit of a slot that the received frame does not have, of which R35 does not speak (DESIGN CHOICE,
log entry 92): its seal fails with the memory cause. -/
def noUnit : List RxByte := List.replicate 16 ⟨0, false, true⟩

/-- The units of one frame for one tributary. -/
def State.frameUnits (s : State) (c n : Nat) (slots : List RxByte) : State :=
  let t := s.trib 1 n
  let x := t.rx.copy c
  let isProt := (s.tribGroup n).isSome
  let b := s.get (CIP_T_SEAL_UNITS 1 n)
  if t.active = false ∨ t.stop ≠ 0 ∨ x.known = false ∨ b < 2 ∨ s.tribSlots t.desc < x.slots
    ∨ (isProt = false ∧ s.rxCarrier n ≠ c) then s
  else
    let base := (s.car c).rx.frameNo * x.slots
    ((slotsOf (s.car c).rx.page n).zipIdx).foldl (fun s p =>
      let u := (slots.drop (16 * p.1)).take 16
      s.unitIn c n isProt (base + p.2) (if u.isEmpty then noUnit else u)) s

/-! ## A frame -/

/-- Count an errored frame (R250, R249, R559). -/
def State.errFrame (s : State) (c k : Nat) : State :=
  if k = 0 then s
  else
    let s := s.bump48 (FRM_C_EFLO_COUNT c) (FRM_C_EFHI_COUNT c) k
    let car := s.car c
    let s := s.setCar c { car with
      tx := { car.tx with bei := true }
      rx := { car.rx with acc := { car.rx.acc with errored := car.rx.acc.errored + k } } }
    (s.pmc 0x05 c k).pmCount (hCarrier c) 0 k

/-- The FNUM of a frame against the expected one, and dLOM (R244). A poisoned FNUM is not the expected value. The fields
that dLOM kept from being read break their runs when it clears (R245). -/
def State.checkFnum (s : State) (c : Nat) (f : Option Nat) : State :=
  let rx := (s.car c).rx
  let ok := f == some rx.expFnum
  let miss := if ok then 0 else rx.fnumMiss + 1
  let steps := f.isSome && f == some ((rx.lastFnum + 1) % 256)
  let run := if steps then rx.fnumRun + 1 else 0
  let lom := if rx.rawLom then !(decide (3 ≤ run)) else decide (5 ≤ miss)
  let last := f.getD rx.expFnum
  s.setCarRx c { rx with
    expFnum := (last + 1) % 256, lastFnum := last, fnumMiss := if rx.rawLom && !lom then 0 else miss
    fnumRun := run, rawLom := lom, gap := if lom then min 256 (rx.gap + 1) else 0
    persist := if lom then rx.persist else breakRuns rx.gap last rx.persist }

/-- The BACK byte (R237, R253). -/
def State.backByte (s : State) (c : Nat) (v : Option Nat) : State :=
  match v with
  | none => s
  | some b =>
    let bdi := bitOf b 7 == 1
    let bei := bitOf b 6 == 1
    let s := if bdi && !(s.on (FRM_C_STATUS_RBDI c)) then s.setB (FRM_C_EVENT_RBDI c) true else s
    let s := s.setB (FRM_C_STATUS_RBDI c) bdi
    let rx := (s.car c).rx
    s.setCarRx c { rx with acc := { rx.acc with
      farBdi := rx.acc.farBdi || bdi, farBei := rx.acc.farBei || bei
      farFrames := rx.acc.farFrames + (if bdi || bei then 1 else 0) } }

/-- The multiplexed control area (R238). -/
def State.readMca (s : State) (c f : Nat) (bytes : List RxByte) : State :=
  let field (a l : Nat) : Option Nat := (ohField bytes (16 + a) l).map natBE
  if f = 0 then
    let s := match field 0 4 with
      | some v => s.set (FRM_C_SFN_SFN c) v
      | none => s
    s.acceptSrc c (field 4 8)
  else if f = 1 then s.acceptAps c (field 0 1)
  else if f ≤ 65 then (List.range 16).foldl (fun s i => s.acceptTribAps c (16 * (f - 2) + i) (field i 1)) s
  else s

/-- The slot-map part of a frame (R166). -/
def State.readMap (s : State) (c f : Nat) (bytes : List RxByte) : State :=
  let rx := (s.car c).rx
  let parts := if f = 0 then [] else rx.parts
  let part := match ohField bytes 48 192 with
    | some l => (chunks 2 l).map natBE
    | none => []
  let s := s.setCarRx c { rx with parts := Assoc.put f part parts }
  if f = 255 then s.mapEnd c (ohField bytes 16 8) else s

/-- The seal-phase field of a frame (R207). -/
def State.readPhases (s : State) (c f : Nat) (bytes : List RxByte) : State :=
  (List.range 4).foldl (fun s i =>
    match ohField bytes (32 + 4 * i) 4 with
    | some l => s.phaseEntry c (4 * f + i) (natBE l)
    | none => s.phaseEntry c (4 * f + i) 0) s

/-- The arrival of a superframe's first frame, for DD (R261): the difference with the same superframe of the other
carrier, measured when the later of the two arrives. -/
def State.arrival (s : State) (c at_ : Nat) : State :=
  let sfn := s.get (FRM_C_SFN_SFN c)
  let rx := (s.car c).rx
  let s := s.setCarRx c { rx with arrived := ((sfn, at_) :: rx.arrived).take 4 }
  if s.on (FRM_C_ALIGN_SYNC (1 - c)) then
    match (s.car (1 - c)).rx.arrived.find? (fun p => p.1 == sfn) with
    | none => s
    | some (_, o) =>
      let a : Int := if c = 0 then at_ else o
      let b : Int := if c = 0 then o else at_
      if -327680 ≤ b - a ∧ b - a ≤ 327680 then s.showDDs (some (b - a)) else s
  else s

/-- The number of a frame in its superframes, SFN × 256 + FNUM: SFN as received, or one more than before where its field is
poisoned; a frame in dLOM follows the one before (log entry 74). -/
def frameNumber (last f : Nat) (sfn : Option Nat) (lom : Bool) : Nat :=
  (if lom then last + 1
  else if f = 0 then (match sfn with
    | some v => v * 256
    | none => (last / 256 + 1) * 256)
  else last / 256 * 256 + f) % 2 ^ 40

/-- A phase accepted needs two entries in a row: dLOM, in which none is read, breaks every tributary's run (R208, R244). -/
def State.losePhases (s : State) (c : Nat) : State :=
  (s.rxTribs.filter (fun n => s.mayUse c n)).foldl (fun s n =>
    let r := (s.trib 1 n).rx
    s.setTribRx n (r.setCopy c { r.copy c with phase := none })) s

/-- The superframe structure of frame FNUM: overhead, maps, seal phases (R164, R207, R238). -/
def State.readOverhead (s : State) (c f at_ : Nat) (bytes : List RxByte) : State :=
  let s := s.readMca c f bytes
  let s := if f = 0 then
    (((if (ohField bytes 16 4).isSome then s.arrival c at_ else s).applyMap c).applyPhases c) else s
  (s.readPhases c f bytes).readMap c f bytes

/-- A frame in SYNC goes through outer decoding, error counting, overhead, maps and units (R236 to R250). A frame whose FNUM
is poisoned is the one expected. In dLOM only MCA, SEALPH and SMAP stay unread (R244). -/
def State.processFrame (s : State) (c at_ : Nat) (frame : List RxByte) : State :=
  let net := (s.rxRun c).net
  let dec := decodeFrame net frame
  let s := (s.bump (FRM_C_OCORR_COUNT c) dec.corrected).bump (FRM_C_OUNC_COUNT c) dec.uncorrectable
  let rx := (s.car c).rx
  let own := dec.poisoned || decide (0 < dec.uncorrectable)
  let prev := match ohField dec.bytes 12 4, rx.crc with
    | some l, some k => !rx.prevErr && natBE l != k
    | _, _ => false
  let s := s.setCarRx c { rx with crc := some (frameCrc dec.bytes), prevErr := own }
  let f := ((ohField dec.bytes 8 1).map natBE).getD rx.expFnum
  let s := s.checkFnum c ((ohField dec.bytes 8 1).map natBE)
  let s := s.defects c
  let lom := s.isLom c
  let s := if lom then s else s.errFrame c (own.toNat + prev.toNat)
  let s := s.backByte c ((ohField dec.bytes 9 1).map natBE)
  let s := s.setCarRx c { (s.car c).rx with
    frameNo := frameNumber (s.car c).rx.frameNo f ((ohField dec.bytes 16 4).map natBE) lom }
  let s := if lom then s.losePhases c else s.readOverhead c f at_ dec.bytes
  let s := (s.rxTribs.filter (fun n => s.mayUse c n)).foldl (fun s n => s.frameUnits c n (dec.bytes.drop 1024)) s
  s.defects c

/-- SYNC is entered with `off` bytes before the frame: other candidates dropped, the page empty until a good map
arrives (R169, R243), the runs of the fields that went unread broken (R245), and no step of FNUM seen yet (R244); the misses counted before stand
(R247). -/
def State.enterSync (s : State) (c off : Nat) : State :=
  let rx := (s.car c).rx
  let buf := rx.buf.drop off
  let f := ((buf.drop 8).head?.map (fun b => b.byte.toNat)).getD 0
  let s := s.setCarRx c { rx with
    buf := buf, cands := [⟨0, 2⟩], expFnum := f, lastFnum := f, fnumRun := 0, crc := none, prevErr := false
    mapped := false, nextMap := none, parts := [], phases := [], gap := 0
    persist := breakRuns (rx.gap + (if off = 0 then 0 else 1)) f rx.persist }
  let s := (s.set (FRM_C_ALIGN_MISS c) 0).setB (FRM_C_ALIGN_SYNC c) true
  let s := (s.set (FRM_C_ALIGN_HELD c) 1).post srcFRM 0x02 (hCarrier c) [1]
  (s.setRxPage c (s.get (TRB_PG_GEN (2 + c))) []).defects c

/-- SYNC is left: alignment lost (R243, R209). -/
def State.leaveSync (s : State) (c : Nat) : State :=
  let s := (s.setB (FRM_C_ALIGN_SYNC c) false).set (FRM_C_ALIGN_MISS c) 0
  ((s.copiesLost c).post srcFRM 0x02 (hCarrier c) [0]).defects c

/-- Acquisition is not locked: OOF with candidates dropped (R243). -/
def State.loseLock (s : State) (c : Nat) : State :=
  let rx := (s.car c).rx
  let s := s.setCarRx c { rx with
    buf := [], cands := [], crc := none, prevErr := false, parts := [], nextMap := none, phases := [], arrived := []
    gap := 256 }
  let s := s.set (FRM_C_ALIGN_HELD c) 0
  if s.on (FRM_C_ALIGN_SYNC c) then s.leaveSync c else (s.copiesLost c).defects c

/-- A received line frame: the next L bytes of the stream (R242, R243). Nothing happens before lock, or until the stream
holds the frame and what the search needs. `at_` is the device time of its arrival in ns (R261). -/
def State.receiveFrame (s : State) (c at_ : Nat) : State :=
  let len := frameLen (s.rxRun c).net
  let rx := (s.car c).rx
  if (s.car c).ost ≠ .enabled ∨ s.carLocked c = false ∨ rx.buf.length < len + 7 then s
  else
    let inSync := s.on (FRM_C_ALIGN_SYNC c)
    let miss := s.get (FRM_C_ALIGN_MISS c)
    let hit := fawHead rx.buf
    let s := if inSync && !hit && miss == 4 then s.leaveSync c else s
    let oof := !(s.on (FRM_C_ALIGN_SYNC c))
    let r := scan oof len len 0 rx.buf rx.cands 0
    let s := s.bump (FRM_C_CANDS_COUNT c) r.ignored
    match r.sync with
    | some off => s.enterSync c off
    | none =>
      let rx := (s.car c).rx
      let s := s.setCarRx c { rx with
        buf := rx.buf.drop len, cands := moveCands len r.cands, gap := if oof then min 256 (rx.gap + 1) else rx.gap }
      let s := s.set (FRM_C_ALIGN_HELD c) r.cands.length
      if oof then s
      else
        let s := s.set (FRM_C_ALIGN_MISS c) (if hit then 0 else miss + 1)
        s.processFrame c at_ (rx.buf.take len)

/-! ## Seconds (R251 to R254) -/

/-- Frames of a second that make it severely errored. -/
def sesFrames : Nat := 117188

/-- The class of a second. -/
def classify (label : Nat) (a : SecondAcc) : SecondClass :=
  let far := a.farBei || a.farBdi
  ⟨label, decide (0 < a.errored) || a.defect, decide (sesFrames ≤ a.errored) || a.defect,
    !a.defect && far, !a.defect && (decide (sesFrames ≤ a.farFrames) || a.farBdi)⟩

/-- A change of availability: unavailable or available, and the second where it took effect. -/
structure AvailChange where
  unavailable : Bool
  second : Nat
deriving DecidableEq, Repr

/-- A second enters the availability of one end (R252, R253): the new state, a change, and the second that is now ten
seconds old, with its unavailability. `bad` says SES (or FSES). Each kept second carries whether it is unavailable. -/
def availStep (unav : Bool) (a : Avail) (x : SecondClass) (bad : Bool) : Bool × Avail × Option AvailChange :=
  let badRun := if bad then a.badRun + 1 else 0
  let goodRun := if bad then 0 else a.goodRun + 1
  let recent := (x :: a.recent).take 11
  let unav' := if unav then !(decide (10 ≤ goodRun)) else decide (10 ≤ badRun)
  let change := if unav' = unav then none else some ⟨unav', ((recent.drop 9).headD x).label⟩
  (unav', ⟨recent, min 10 badRun, min 10 goodRun⟩, change)

/-- Show the counts of the second that is now ten seconds old (R254). -/
def State.countSecond (s : State) (c : Nat) (far : Bool) (x : SecondClass) (unav : Bool) : State :=
  let inc (s : State) (f : Fld) (b : Bool) : State := if b then s.set f ((s.get f + 1) % 2 ^ 32) else s
  if far then
    inc (inc (inc s (FRM_C_FUAS_COUNT c) unav) (FRM_C_FES_COUNT c) (!unav && x.fes)) (FRM_C_FSES_COUNT c) (!unav && x.fses)
  else
    inc (inc (inc s (FRM_C_UAS_COUNT c) unav) (FRM_C_ES_COUNT c) (!unav && x.es)) (FRM_C_SES_COUNT c) (!unav && x.ses)

/-- One end of a carrier takes a classified second. The second ten places back leaves with the availability that held
once its ten successors were known. -/
def State.endSecond (s : State) (c : Nat) (far : Bool) (x : SecondClass) : State :=
  let f := if far then FRM_C_STATUS_UNAVF c else FRM_C_STATUS_UNAV c
  let e := if far then FRM_C_EVENT_UNAVF c else FRM_C_EVENT_UNAV c
  let rx := (s.car c).rx
  let a := if far then rx.far else rx.near
  let unav := s.on f
  match availStep unav a x (if far then x.fses else x.ses) with
  | (u, a', ch) =>
    let s := s.setCarRx c (if far then { rx with far := a' } else { rx with near := a' })
    let s := s.setB f u
    let s := if u && !unav then s.setB e true else s
    let s := match a'.recent.drop 10 with
      | old :: _ => s.countSecond c far old unav
      | [] => s
    match ch with
    | some k => s.post srcFRM 0x05 (hCarrier c) [far.toNat, k.unavailable.toNat, k.second]
    | none => s

/-- A second ends for a carrier: dDEG, classification, availability (R246, R251 to R254). Answers the bits [5:0] that
PMGET gives for it: ES, SES, UAS, FES, FSES, FUAS from bit 0 up. -/
def State.carrierSecond (s : State) (c label : Nat) : State × Nat :=
  let car := s.car c
  let a := car.rx.acc
  let en := car.ost == .enabled
  let bad := decide (s.get (FRM_C_DEG_DEGTHR c) ≤ a.errored)
  let m := s.get (FRM_C_DEG_DEGM c)
  let badN := if bad then car.rx.degBad + 1 else 0
  let goodN := if bad then 0 else car.rx.degGood + 1
  let inForce := s.on (FRM_C_STATUS_DLOL c) || s.on (FRM_C_STATUS_DLOF c) || s.on (FRM_C_STATUS_DLOM c)
    || s.on (FRM_C_STATUS_FECSF c)
  let next : SecondAcc := { defect := inForce, partly := !en, farBdi := s.on (FRM_C_STATUS_RBDI c) }
  let rx := { car.rx with
    degBad := min 10 badN, degGood := min 10 goodN, acc := next
    rawDeg := if car.rx.rawDeg then !(decide (m ≤ goodN)) else decide (m ≤ badN) }
  let s := s.setCarRx c rx
  if en then
    if a.partly then (s.defects c, 0)
    else
      let x := classify label a
      let s := ((s.endSecond c false x).endSecond c true x).defects c
      (s, x.es.toNat + 2 * x.ses.toNat + 4 * s.get (FRM_C_STATUS_UNAV c) + 8 * x.fes.toNat + 16 * x.fses.toNat
        + 32 * s.get (FRM_C_STATUS_UNAVF c))
  else (s, 0)

end Sys2Proof.Machine
end

