-- ==== Sys2Proof/Machine/Fec.lean ====
section
/-! DEFINITION. The decoder pool: windows, passes, delivery, shares, Signal Fail and Signal Degrade inputs, counters and
monitors (R273 to R302). -/

namespace Sys2Proof.Machine

open Reg

/-! ## Capacity and shares (R282 to R290) -/

/-- Cores in use at a shutter step. -/
def fecCores (step : Nat) : Nat := if step = 0 then 40 else if step = 1 then 36 else if step = 2 then 32 else 28

/-- Capacity at a shutter step, in million block-iterations per second. -/
def fecCapacity (step : Nat) : Nat := if step = 0 then 2320 else if step = 1 then 2088 else if step = 2 then 1856 else 1624

/-- Per-block cap at a shutter step. -/
def fecCap (step : Nat) : Nat := if step = 0 then 24 else if step = 1 then 20 else if step = 2 then 16 else 14

/-- The demand of a receive rate and profile as a fraction of blocks per second: numerator over K (R283). -/
def demandOf (p : Profile) : Nat × Nat := (demandNum p.net, infoBits p.fec)

/-- The shares of capacity of two carriers as fractions with one denominator, and their budgets in 1/8 pass. -/
structure Shares where
  numA : Nat
  numB : Nat
  den : Nat
  budgetA : Nat
  budgetB : Nat
  short : Bool
deriving DecidableEq, Repr

/-- R286 and R290 on demands brought to one denominator: `c` is the capacity in the same units, `dA`, `dB` the demands,
`tA`, `tB` the targets, `i` IMIN. -/
def splitPool (c dA tA dB tB i : Nat) : Shares :=
  let w := dA * tA + dB * tB
  let least := (dA + dB) * i
  if w = 0 then ⟨0, 0, 1, 0, 0, false⟩
  else if w ≤ c then
    ⟨dA * tA, dB * tB, w, if dA = 0 then 0 else 8 * c * tA / w, if dB = 0 then 0 else 8 * c * tB / w,
      false⟩
  else if least ≤ c then
    let x := dA * (tA - i) + dB * (tB - i)
    let rem := c - least
    let num (d t : Nat) := d * (i * x + rem * (t - i))
    let bud (d t : Nat) := if d = 0 then 0 else 8 * (i * x + rem * (t - i)) / x
    ⟨num dA tA, num dB tB, x * c, bud dA tA, bud dB tB, false⟩
  else
    let d := dA + dB
    ⟨dA, dB, d, if dA = 0 then 0 else 8 * c / d, if dB = 0 then 0 else 8 * c / d, true⟩

/-- The target of a carrier (R285): the mean is taken as a fraction, its ceiling plus HEAD. -/
def Pool.target (p : Pool) (cap head imin : Nat) : Nat :=
  let t := if !p.stats || decide (0 < p.uLast) then cap else min cap ((p.avgNum + p.avgDen - 1) / p.avgDen + head)
  max imin t

/-- IMIN and HEAD in force (R298: a write takes effect at the end of the interval). -/
def State.iminNow (s : State) : Nat := s.poolA.imin
def State.headNow (s : State) : Nat := s.poolA.head

/-- Recompute shares and budgets (R286). -/
def State.shares (s : State) : Shares :=
  let step := s.shutter
  let a := demandOf (s.rxRun 0)
  let b := demandOf (s.rxRun 1)
  let dA := if s.on (FEC_C_STATUS_LOCKED 0) then a.1 * b.2 else 0
  let dB := if s.on (FEC_C_STATUS_LOCKED 1) then b.1 * a.2 else 0
  splitPool (fecCapacity step * 1000000 * a.2 * b.2) dA (s.poolA.target (fecCap step) s.headNow s.iminNow)
    dB (s.poolB.target (fecCap step) s.headNow s.iminNow) s.iminNow

/-- Σ D × IMIN in whole million block-iterations per second (R290); D is 0 for a carrier that is not locked (R283). -/
def State.leastSum (s : State) : Nat :=
  let a := demandOf (s.rxRun 0)
  let b := demandOf (s.rxRun 1)
  let dA := if s.on (FEC_C_STATUS_LOCKED 0) then a.1 * b.2 else 0
  let dB := if s.on (FEC_C_STATUS_LOCKED 1) then b.1 * a.2 else 0
  (dA + dB) * s.iminNow / (1000000 * a.2 * b.2)

/-- Show shares, budgets, cap and capacity (R300, R302). -/
def State.showShares (s : State) : State :=
  let sh := s.shares
  let step := s.shutter
  let s := (s.set FEC_SHARE_SHAREA (1000 * sh.numA / sh.den)).set FEC_SHARE_SHAREB (1000 * sh.numB / sh.den)
  let s := (s.set (FEC_C_STATUS_BUDGET 0) (min 255 sh.budgetA)).set (FEC_C_STATUS_BUDGET 1) (min 255 sh.budgetB)
  let s := ((s.set FEC_POOL_STEP step).set FEC_POOL_CORES (fecCores step)).set FEC_POOL_CAP (fecCap step)
  let s := s.set FEC_POOL_CAPACITY (fecCapacity step)
  let s := [0, 1].foldl (fun s c => s.set (FEC_C_STATUS_CAP c) (if s.on (FEC_C_STATUS_LOCKED c) then fecCap step else 0)) s
  if sh.short then s.setB FEC_GEVENT_POOLSHORT true else s

/-- POOLSHORT is reported after a step change or a write to IMIN (R290, R299). -/
def State.reportShort (s : State) : State :=
  if s.shares.short then
    (s.setB FEC_GEVENT_POOLSHORT true).post srcFEC 0x05 0 [s.leastSum, fecCapacity s.shutter]
  else s

/-- The pool follows a change of shutter step (R282, R286, R288, R290, R299). -/
def State.fecStep (s : State) (old : Nat) : State :=
  if old = s.shutter then s
  else
    let s := s.showShares
    let s := if fecCapacity old = fecCapacity s.shutter then s else s.setB FEC_GEVENT_STEPCHG true
    let s := s.post srcFEC 0x04 0
      [fecCapacity s.shutter, fecCap s.shutter, s.get FEC_SHARE_SHAREA, s.get FEC_SHARE_SHAREB]
    s.reportShort

/-! ## Windows (R274 to R278) -/

/-- STATUS.PROFILE shows the receive profile that the carrier runs (R300). -/
def State.showFecProfile (s : State) (c : Nat) : State := s.set (FEC_C_STATUS_PROFILE c) (s.rxRun c).fec

/-- A block by its number, in the window or among those that have left. -/
def Pool.block (p : Pool) (t : Nat) : Option FecBlock :=
  match p.window.find? (fun b => b.t == t) with
  | some b => some b
  | none => (p.left ++ p.past).find? (fun b => b.t == t)

/-- The target of a thread: its oldest block while its window holds twelve. -/
def Pool.targetOf (p : Pool) (th : Nat) : Option FecBlock :=
  let bs := p.window.filter (fun b => b.t % 16 == th)
  if bs.length < 12 then none else bs.head?

/-- The information bits of a predecessor: its hard decisions, or what the decoder takes for an erased one. -/
def Pool.predBits (p : Pool) (fec t est : Nat) : Nat :=
  match p.block t with
  | some b => if b.erased then est else blockInfo fec b.bits
  | none => est

/-- Every check of a block is satisfied, given what the decoder takes for erased predecessors (R276, R277). -/
def Pool.satisfied (p : Pool) (fec t bits e16 e32 : Nat) : Bool :=
  ldpcUnsatisfied fec bits (if t < 16 then e16 else p.predBits fec (t - 16) e16)
    (if t < 32 then e32 else p.predBits fec (t - 32) e32) == 0

/-- Both thread predecessors were received and decoded. -/
def Pool.predsKnown (p : Pool) (t : Nat) : Bool :=
  [16, 32].all (fun d => decide (d ≤ t) && (match p.block (t - d) with
    | some b => !b.erased
    | none => false))

/-- Replace a block of the window. -/
def Pool.putBlock (p : Pool) (b : FecBlock) : Pool :=
  { p with window := p.window.map (fun x => if x.t == b.t then b else x) }

/-- The hard decisions of a thread's window, oldest block first: a pass updates every variable of it. -/
def Pool.putWindow (p : Pool) (th : Nat) (bits : List Nat) : Pool :=
  ((p.window.filter (fun b => b.t % 16 == th)).zip bits).foldl (fun p x => p.putBlock { x.1 with bits := x.2 }) p

/-- A block becomes its thread's target under a cap: it converges with 0 passes when its checks hold already (R276). -/
def Pool.newTarget (p : Pool) (fec th cap : Nat) : Pool :=
  match p.targetOf th with
  | none => p
  | some b =>
    if b.cap ≠ 0 then p
    else p.putBlock { b with cap := cap, converged := p.predsKnown b.t && p.satisfied fec b.t b.bits 0 0 }

/-- Passes that the targets of a pool can still take under a cap. -/
def Pool.needs (p : Pool) : Nat :=
  ((List.range 16).map (fun th => match p.targetOf th with
    | some b => if b.converged then 0 else b.cap - b.passes
    | none => 0)).sum

/-- A carrier may take one more pass in this interval (R287): within its own share, or from what the other leaves of the
capacity after what it still needs within its own share (log entry 89). -/
def State.mayPass (s : State) (c : Nat) : Bool :=
  let sh := s.shares
  let total := fecCapacity s.shutter * 1280
  let own := (if c = 0 then sh.numA else sh.numB) * total / sh.den
  let other := (if c = 0 then sh.numB else sh.numA) * total / sh.den
  let x := s.pool c
  let y := s.pool (1 - c)
  decide (x.spent < own) || decide (x.spent + y.spent + min (other - y.spent) y.needs < total)

/-- The last coded bit of a block arrives (R275, R278): the block 192 before it leaves at its deadline, the window
slides, and the block 176 before it becomes the target. -/
def State.blockArrival (s : State) (c chan : Nat) : State :=
  if s.on (FEC_C_STATUS_LOCKED c) then
    let p := s.pool c
    let fec := (s.rxRun c).fec
    let n := p.next
    let gone := p.window.find? (fun b => b.t + 192 == n)
    let p : Pool := match gone with
      | none => p
      | some b =>
        let b := { b with erased := !b.converged, cut := !b.converged && decide (b.passes < b.cap) }
        { p with window := p.window.filter (fun x => x.t != b.t), left := p.left ++ [b] }
    let p : Pool := { p with next := n + 1, window := p.window ++ [⟨n, chan, chan, 0, 0, false, false, false⟩] }
    s.setPool c (p.newTarget fec (n % 16) (fecCap s.shutter))
  else s

/-- One pass on a thread's window (R275, R276, R287): it runs while the target has neither converged nor reached its cap and
the carrier may take a pass, and leaves the hard decisions `window` of the blocks of the window, target first, with `e16` and `e32` for predecessors of the
target that are erased. -/
def State.decodingPass (s : State) (c th : Nat) (window : List Nat) (e16 e32 : Nat) : State :=
  let p := s.pool c
  let fec := (s.rxRun c).fec
  match p.targetOf th with
  | none => s
  | some b =>
    if s.on (FEC_C_STATUS_LOCKED c) && !b.converged && decide (b.passes < b.cap) && s.mayPass c then
      let bits := window.headD b.bits
      let b := { b with passes := b.passes + 1, bits := bits
                        converged := p.satisfied fec b.t bits (blockInfo fec e16) (blockInfo fec e32) }
      (s.setPool c { (p.putWindow th window).putBlock b with spent := p.spent + 1 }).pmc 0x04 c 1
    else s

/-! ## Delivery and counters (R279, R295, R297) -/

/-- The information bytes of a block as FRM receives them (R37, R277). -/
def infoBytes (fec : Nat) (b : FecBlock) : List RxByte :=
  (bytesBE (infoBits fec / 8) (blockInfo fec b.bits)).map (fun x => ⟨x, !b.converged, false⟩)

/-- Count a block that the pool delivers. -/
def State.countBlock (s : State) (c : Nat) (b : FecBlock) : State :=
  let both := Nat.land b.bits b.chan
  let ones := popCount 30720 b.bits - popCount 30720 both
  let zeros := popCount 30720 b.chan - popCount 30720 both
  let s := (s.bump48 (FEC_C_BLKLO_COUNT c) (FEC_C_BLKHI_COUNT c) 1).pmc 0x01 c 1
  let s := if b.converged then
      (s.bump48 (FEC_C_C1LO_COUNT c) (FEC_C_C1HI_COUNT c) ones).bump48 (FEC_C_C0LO_COUNT c) (FEC_C_C0HI_COUNT c) zeros
    else
      (((s.bump48 (FEC_C_UNCLO_COUNT c) (FEC_C_UNCHI_COUNT c) 1).setB (FEC_C_EVENT_UNC c) true).pmc 0x02 c 1).pmCount
        (hCarrier c) 1 1
  let s := if b.cut then
      ((s.bump48 (FEC_C_CUTLO_COUNT c) (FEC_C_CUTHI_COUNT c) 1).setB (FEC_C_EVENT_STARVE c) true).pmc 0x03 c 1
    else s
  let p := s.pool c
  let bin := if b.converged then b.passes else 25
  s.setPool c { p with
    blocks := p.blocks + 1, passSum := p.passSum + b.passes
    unc := p.unc + (!b.converged).toNat, conv := p.conv + b.converged.toNat
    ones := p.ones + (if b.converged then ones else 0), zeros := p.zeros + (if b.converged then zeros else 0)
    sfUnc := p.sfUnc + (!b.converged).toNat
    hist := Assoc.modify 0 bin (fun v => (v + 1) % 2 ^ 48) p.hist }

/-- The oldest block that has left the pool goes to FRM (R279). -/
def State.blockDelivery (s : State) (c : Nat) : State :=
  let p := s.pool c
  match p.left with
  | [] => s
  | b :: rest =>
    let fec := (s.rxRun c).fec
    let s := s.setPool c { p with left := rest, past := (b :: p.past).take 64 }
    let s := s.countBlock c b
    let rx := (s.car c).rx
    s.setCarRx c { rx with buf := rx.buf ++ infoBytes fec b }

/-! ## Lock (R278, R291, R294) -/

/-- The pool takes a carrier after acquisition has locked; the first block to arrive belongs to thread `th`. -/
def State.poolLock (s : State) (c th : Nat) : State :=
  let s := s.setPool c { hist := (s.pool c).hist, imin := (s.pool c).imin, head := (s.pool c).head, spent := (s.pool c).spent, next := th % 16,
                         first := th % 16 }
  let s := ((s.setB (FEC_C_STATUS_LOCKED c) true).setB (FEC_C_STATUS_NOSTATS c) true).showFecProfile c
  s.set (FEC_C_STATUS_CAP c) (fecCap s.shutter)

/-- Raise or clear FECSF (R292, R299). -/
def State.putSF (s : State) (c : Nat) (b : Bool) : State :=
  if s.on (FEC_C_STATUS_FECSF c) = b then s
  else
    let s := s.setB (FEC_C_STATUS_FECSF c) b
    let s := if b then s.setB (FEC_C_EVENT_SF c) true else s
    s.post srcFEC 0x01 (hCarrier c) [b.toNat]

/-- Raise or clear FECSD with a cause (R293, R299). -/
def State.putSD (s : State) (c : Nat) (b : Bool) (cause : Nat) : State :=
  if s.on (FEC_C_STATUS_FECSD c) = b then s
  else
    let s := s.setB (FEC_C_STATUS_FECSD c) b
    let s := if b then s.setB (FEC_C_EVENT_SD c) true else s
    s.post srcFEC 0x02 (hCarrier c) [b.toNat, cause]

/-- A carrier is disabled or loses lock: its windows are discarded uncounted, its inputs held at 0, and its share goes to
the other carrier (R291, R294). -/
def State.poolUnlock (s : State) (c : Nat) : State :=
  if s.on (FEC_C_STATUS_LOCKED c) then
    let s := s.setPool c { hist := (s.pool c).hist, imin := (s.pool c).imin, head := (s.pool c).head }
    let s := (s.setB (FEC_C_STATUS_LOCKED c) false).setB (FEC_C_STATUS_NOSTATS c) true
    ((s.putSF c false).putSD c false 0).showShares
  else s

/-! ## Intervals (R284, R292, R293, R296) -/

/-- The BER estimate of an interval in 1e-7, rounded down; none when no block converged. -/
def Pool.ber (p : Pool) : Option Nat :=
  if p.conv = 0 then none else some ((p.ones + p.zeros) * 10000000 / (30720 * p.conv))

/-- The BER estimate against a percentage of the threshold (both exact): above it. -/
def Pool.berAbove (p : Pool) (fec pct : Nat) : Bool :=
  decide (pct * berThreshold fec * 30720 * p.conv < (p.ones + p.zeros) * 10000000 * 100)

/-- MARGIN in 0.01 dB for a BER below one half and not 0. -/
def marginOf (fec errs bits : Nat) : Int :=
  Fix.db20x100 (Fix.div (Fix.qOfBer (Fix.ofRatio errs bits)) (Fix.qOfBer (Fix.ofRatio (berThreshold fec) 10000000)))

/-- Show BER and MARGIN (R296, R300). The spec states no MARGIN for a BER of one half or more: a free value. -/
def State.showBer (s : State) (c : Nat) (p : Pool) : State :=
  match p.ber with
  | none => (s.set (FEC_C_BER_BER c) 0xFFFFFF).set (FEC_C_MARGIN_MARGIN c) 0x8000
  | some b =>
    let s := s.set (FEC_C_BER_BER c) b
    let errs := p.ones + p.zeros
    let bits := 30720 * p.conv
    if errs = 0 then s.set (FEC_C_MARGIN_MARGIN c) 0x7FFF
    else if 2 * errs < bits then s.setI (FEC_C_MARGIN_MARGIN c) (marginOf (s.rxRun c).fec errs bits)
    else let r := s.free; r.2.set (FEC_C_MARGIN_MARGIN c) r.1

/-- The cause that makes an interval bad (R293): 1 BER, 3 no converged block, 2 uncorrectable blocks, 0 none. -/
def State.sdCause (s : State) (c : Nat) (p : Pool) : Nat :=
  if p.conv ≠ 0 ∧ p.berAbove (s.rxRun c).fec (s.get (FEC_C_SD_SDTHR c)) = true then 1
  else if p.conv = 0 then 3
  else if s.get (FEC_C_SD_SDUNC c) ≠ 0 ∧ s.get (FEC_C_SD_SDUNC c) ≤ p.unc then 2 else 0

/-- An allocation interval ends for a locked carrier that was locked throughout (R284, R293, R296). -/
def State.closeInterval (s : State) (c : Nat) : State :=
  let p := s.pool c
  let cause := s.sdCause c p
  let good := cause == 0 && p.conv != 0 && !(p.berAbove (s.rxRun c).fec (s.get (FEC_C_SD_SDCLR c))) && p.unc == 0
  let bad := if cause ≠ 0 then p.sdBad + 1 else 0
  let ok := if good then p.sdGood + 1 else 0
  let win := s.get (FEC_C_SD_SDWIN c)
  let s := s.showBer c p
  -- The mean over no block is not stated: a free value.
  let (num, den, s) := if p.blocks = 0 then (let r := s.free; (r.1, 1, r.2)) else (p.passSum, p.blocks, s)
  let s := s.setPool c { s.pool c with
    avgNum := num, avgDen := den, uLast := p.unc, stats := true, sdBad := min 15 bad, sdGood := min 15 ok }
  let s := (s.set (FEC_C_STATUS_AVG c) (8 * num / den)).setB (FEC_C_STATUS_NOSTATS c) false
  if win ≤ bad then s.putSD c true cause else if win ≤ ok then s.putSD c false 0 else s

/-- A new interval starts for a carrier. -/
def State.openInterval (s : State) (c : Nat) : State :=
  s.setPool c { s.pool c with blocks := 0, passSum := 0, spent := 0, unc := 0, conv := 0, ones := 0, zeros := 0
                              whole := s.on (FEC_C_STATUS_LOCKED c) }

/-- An allocation interval ends (R284 to R286, R293, R296, R298). -/
def State.allocationInterval (s : State) : State :=
  let was := s.iminNow
  let s := [0, 1].foldl (fun s c =>
    let s := if s.on (FEC_C_STATUS_LOCKED c) && (s.pool c).whole then s.closeInterval c else s
    s.openInterval c) s
  let s := [0, 1].foldl (fun s c => s.setPool c { s.pool c with imin := s.get FEC_ALLOC_IMIN, head := s.get FEC_ALLOC_HEAD }) s
  let s := s.showShares
  let s := if s.iminNow = was then s else s.reportShort
  (s.defects 0).defects 1

/-- An SF interval ends for a carrier (R292, R294, R299). -/
def State.closeSF (s : State) (c : Nat) : State :=
  let p := s.pool c
  let locked := s.on (FEC_C_STATUS_LOCKED c)
  if locked && p.sfWhole then
    let clean := if p.sfUnc = 0 then p.sfClean + 1 else 0
    let s := s.setPool c { p with sfUnc := 0, sfClean := min 255 clean }
    let s := if s.get (FEC_C_SF_SFUNC c) ≤ p.sfUnc then s.putSF c true
      else if s.get (FEC_C_SF_SFCLR c) ≤ clean then s.putSF c false else s
    if p.sfUnc = 0 then s else s.post srcFEC 0x03 (hCarrier c) [p.sfUnc]
  else s.setPool c { p with sfUnc := 0, sfClean := 0, sfWhole := locked }

/-! ## Register writes with a meaning of their own -/

/-- CLR zeroes every counter and bin of a carrier (R300). -/
def State.fecClear (s : State) (c : Nat) : State :=
  let s := s.zero [FEC_C_C1LO_COUNT c, FEC_C_C1HI_COUNT c, FEC_C_C0LO_COUNT c, FEC_C_C0HI_COUNT c, FEC_C_BLKLO_COUNT c,
    FEC_C_BLKHI_COUNT c, FEC_C_UNCLO_COUNT c, FEC_C_UNCHI_COUNT c, FEC_C_CUTLO_COUNT c, FEC_C_CUTHI_COUNT c]
  s.setPool c { s.pool c with hist := [] }

/-- A write of FEC_Cc_SD (R301). -/
def State.fecSdWrite (s : State) (c v : Nat) : State :=
  let thr := (FEC_C_SD_SDTHR c).of v
  let clr := (FEC_C_SD_SDCLR c).of v
  let win := (FEC_C_SD_SDWIN c).of v
  if 10 ≤ thr ∧ thr ≤ 100 ∧ 1 ≤ clr ∧ clr < thr ∧ 1 ≤ win then
    s.wrs v [FEC_C_SD_SDTHR c, FEC_C_SD_SDCLR c, FEC_C_SD_SDUNC c, FEC_C_SD_SDWIN c]
  else s

/-- A write of FEC_Cc_HISTSEL captures a bin (R300). -/
def State.histSelWrite (s : State) (c v : Nat) : State :=
  let bin := (FEC_C_HISTSEL_BIN c).of v
  if 25 < bin then s
  else
    let n := Assoc.get 0 bin (s.pool c).hist
    ((s.set (FEC_C_HISTSEL_BIN c) bin).set (FEC_C_HISTLO_COUNT c) (n % 2 ^ 32)).set (FEC_C_HISTHI_COUNT c) (n / 2 ^ 32)

/-! ## Commands -/

/-- BLOCK_ARRIVAL (R275, R329): the block's LLRs have left the demapper; their signs are its channel hard decisions, and
`zeros` those of LLRs of zero. -/
def execBlockArrival (c : Fin 2) (zeros : BitVec 30720) (s : State) : Outcome :=
  let l := s.line c
  answer (if 30720 ≤ l.llrs.length ∧ s.on (FEC_C_STATUS_LOCKED c) = true then
    (s.setLine c { l with llrs := l.llrs.drop 30720 }).blockArrival c (natOfBits (hardBits zeros.toNat (l.llrs.take 30720)))
    else s)

/-- DECODING_PASS (R276): what the pass leaves. -/
def execDecodingPass (c : Fin 2) (th : Fin 16) (window : List (BitVec 30720)) (e16 e32 : BitVec 30720) (s : State) : Outcome :=
  answer (s.decodingPass c th (window.map BitVec.toNat) e16.toNat e32.toNat)

/-- BLOCK_DELIVERY (R279). -/
def execBlockDelivery (c : Fin 2) (s : State) : Outcome := answer (s.blockDelivery c)

/-- ALLOCATION_INTERVAL (R284). -/
def execAllocationInterval (s : State) : Outcome := answer s.allocationInterval

/-- SF_INTERVAL (R292). -/
def execSfInterval (s : State) : Outcome := answer ((((s.closeSF 0).closeSF 1).defects 0).defects 1)

/-- FEC_CTL_CLR (R300): a write of 1 to FEC_Cc_CTL.CLR. -/
def execFecCtlClr (c : Fin 2) (s : State) : Outcome := answer (s.gated (adr_FEC_C_CTL c) (fun s => s.fecClear c))

/-- FEC_SD_WRITE (R301). -/
def execFecSdWrite (c : Fin 2) (v : W32) (s : State) : Outcome :=
  answer (s.gated (adr_FEC_C_SD c) (fun s => s.fecSdWrite c v.toNat))

/-- HISTSEL_WRITE (R300). -/
def execHistselWrite (c : Fin 2) (v : W32) (s : State) : Outcome :=
  answer (s.gated (adr_FEC_C_HISTSEL c) (fun s => s.histSelWrite c v.toNat))

/-- HOLDOFF_EXPIRY (R257): of a group (a tributary, or 1024 for the carrier pair) and a copy. -/
def execHoldoffExpiry (g : Fin 1025) (c : Fin 2) (s : State) : Outcome := answer (s.holdoffExpiry g c)

/-- WTR_EXPIRY (R258). -/
def execWtrExpiry (g : Fin 1025) (s : State) : Outcome := answer (s.wtrExpiry g)

/-- COMMIT_POINT (R259) of a receive tributary. -/
def execCommitPoint (n : Fin 1024) (s : State) : Outcome := answer (s.commitPoint n)

/-- DD_UNKNOWN (R261). -/
def execDdUnknown (s : State) : Outcome := answer (s.showDDs none)

end Sys2Proof.Machine
end

