-- ==== Sys2Proof/Machine/Dsp.lean ====
section
/-! DEFINITION. The receive chain of a carrier: equaliser, dispersion, nonlinear compensation, laser steering, monitors
(R315 to R337). -/

namespace Sys2Proof.Machine

open Reg

/-! ## Equaliser (R318 to R320) -/

/-- Change the signal processing of a carrier. -/
def State.mapLine (s : State) (c : Nat) (f : Line → Line) : State := s.setLine c (f (s.line c))

/-- Taps to identity: tap 31 of XX and YY is 1, all others 0; the state is CMA (R319). -/
def State.eqIdentity (s : State) (c : Nat) : State :=
  (s.mapLine c (fun l => { l with taps := [], identity := true, ownRun := 0, sameRun := 0 })).set (DS_EQSTAT_STATE c) 1

/-- Where adaptation has run, no tap is known. -/
def State.eqUnknown (s : State) (c : Nat) : State := s.mapLine c (fun l => { l with taps := [], identity := false })

/-- The equaliser enters DD (R319). -/
def State.eqInDD (s : State) (c : Nat) : State :=
  (s.set (DS_EQSTAT_STATE c) 2).mapLine c (fun l => { l with reachedDD := true })

/-- DSx_EQCTL is written (R319, R334, R337). A receive calibration pair does not outlive DD (R368). -/
def State.eqctlWrite (s : State) (c v : Nat) : State :=
  if 8 < (DS_EQCTL_UPD c).of v then s
  else
    let s := s.wrs v [DS_EQCTL_FREEZE c, DS_EQCTL_MU c, DS_EQCTL_UPD c]
    let restart := (DS_EQCTL_RESTART c).of v == 1 && (s.acq c).lock.isSome
    let s := if restart then s.eqIdentity c else s
    let st := s.get (DS_EQSTAT_STATE c)
    let s := if s.on (DS_EQCTL_FREEZE c) then
        (if st = 1 ∨ st = 2 then (if restart then s else s.eqUnknown c).set (DS_EQSTAT_STATE c) 3 else s)
      else if st = 3 then s.eqInDD c else s
    s.calCheck

/-- DSx_EQCTL as it stands, with RESTART and FREEZE as given. -/
def State.eqctlWord (s : State) (c : Nat) (restart freeze : Bool) : Nat :=
  restart.toNat * 256 + freeze.toNat * 128 + s.get (DS_EQCTL_MU c) * 16 + s.get (DS_EQCTL_UPD c)

/-- A tap as known, or a free value once adaptation has moved the taps (log entry 23); components of 16 bits. -/
def State.readTap (s : State) (c k : Nat) : (Int × Int) × State :=
  let l := s.line c
  match Assoc.find k l.taps with
  | some t => (t, s)
  | none =>
    if l.identity then ((if k % 64 = 31 ∧ (k / 64 = 0 ∨ k / 64 = 3) then 16384 else 0, 0), s)
    else
      let r := s.free
      let i := r.2.free
      let t : Int × Int := (signedOf 16 (r.1 % 65536), signedOf 16 (i.1 % 65536))
      (t, i.2.mapLine c (fun l => { l with taps := Assoc.put k t l.taps }))

/-- DSx_TAPSEL is written (R336). Taps that adapt are not kept from one capture to the next. -/
def State.tapselWrite (s : State) (c v : Nat) : State :=
  let tap := (DS_TAPSEL_TAP c).of v
  if tap = 63 then s
  else
    let s := s.wrs v [DS_TAPSEL_ELEM c, DS_TAPSEL_TAP c]
    let st := s.get (DS_EQSTAT_STATE c)
    let s := if st = 1 ∨ st = 2 then s.eqUnknown c else s
    let r := s.readTap c (64 * s.get (DS_TAPSEL_ELEM c) + tap)
    (r.2.setI (DS_TAPDATA_RE c) r.1.1).setI (DS_TAPDATA_IM c) r.1.2

/-! ## Nonlinear compensation (R321 to R323, R482, R483) -/

/-- Steps per span-equivalent that a shutter step leaves. -/
def nlcPerSpan (step : Nat) : Nat := if step < 4 then 3 else if step = 4 then 2 else if step = 5 then 1 else 0

/-- Steps in force for a carrier. -/
def State.nlcSteps (s : State) (c : Nat) : Nat := nlcPerSpan s.shutter * cdNlcSpans (s.car c).desc

/-- A step change takes effect at a pilot-block boundary (R323). -/
def State.nlcFollow (s : State) (c : Nat) : State :=
  let k := s.nlcSteps c
  if s.get (DS_NLC_STEPS c) = k then s
  else
    ((s.set (DS_NLC_STEPS c) k).mapLine c (fun l => { l with nlcChanged := true })).post (srcDS c) 0x07 (hCarrier c)
      [k]

/-! ## Lock and loss (R331, R332) -/

/-- The format fields of a profile (R306, R308). -/
def Profile.fmt (p : Profile) : Nat × Nat := p.format.getD (0, 0)

/-- The receive chain starts from a lock (R331). -/
def State.dspLock (s : State) (c : Nat) (d : Detection) : State :=
  let p := d.prof
  let f := p.fmt
  let fill := fillShare p.net p.fec p.baud f.2
  let s := s.mapLine c (fun l => { l with
    slipTurn := none, schedule := p.schedule, llrs := [], reachedDD := false, lstAt := s.clk.dev
    cd := d.cd, cdLock := d.cd, cdPosted := false, dgd := 0, snrLast := none, snrZero := 0, xiUp := true, nlcChanged := false })
  let s := (s.setI (DS_CDEST_CD c) d.cd).set (DS_CDEST_SRC c) 1
  let s := s.eqIdentity c
  let s := if s.on (DS_NLC_XIAUTO c) then (s.set (DS_NLC_XI c) 0).set (DS_NLC_GAIN c) 0 else s
  let s := s.set (DS_NLC_STEPS c) (s.nlcSteps c)
  let s := (s.setI (DS_FOFS_FOFS c) d.fofs).setI (DS_TIM_RXPPM c) d.ppm
  let s := s.setB (DS_TIM_TLOCK c) true
  let s := ((s.set (DS_RXFMT_MOD c) f.1).set (DS_RXFMT_ENT c) f.2).setB (DS_RXFMT_FILLSYNC c) p.noFill
  s.set (DS_FILL_RXFILL c) fill

/-- The carrier is not locked: adaptation stops, and the monitors read 0 but for FOFS, which shows what acquisition
last estimated (R319, R332). -/
def State.dspUnlock (s : State) (c : Nat) : State :=
  let st := s.get (DS_EQSTAT_STATE c)
  let s := if st = 1 ∨ st = 2 then s.eqUnknown c else s
  let s := s.setI (DS_FOFS_FOFS c) (s.getI (ACQ_C_FOFS_FOFS c))
  s.zero [DS_EQSTAT_STATE c, DS_CDEST_CD c, DS_CDEST_SRC c, DS_PMD_DGD c, DS_PMD_PDL c, DS_PMD_SOP c, DS_SNR_SNRX c,
    DS_SNR_SNRY c, DS_SNR_OSNR c, DS_TIM_RXPPM c, DS_TIM_TLOCK c, DS_RXFMT_MOD c, DS_RXFMT_ENT c, DS_RXFMT_FILLSYNC c,
    DS_FILL_RXFILL c]

/-- The transmit format shown while the carrier is ENABLED (R336). -/
def State.showTxFormat (s : State) (c : Nat) : State :=
  let d := (s.car c).desc
  if (s.car c).ost = .enabled then
    let f := (txFormat d).getD (0, 0)
    ((s.set (DS_TXFMT_MOD c) f.1).set (DS_TXFMT_ENT c) f.2 |>.set (DS_TXFMT_ROLLOFF c) (cdRolloff d)).set (DS_FILL_TXFILL c)
      (fillShare (cdNet d) (cdFec d) (cdBaud d) f.2)
  else s.zero [DS_TXFMT_MOD c, DS_TXFMT_ENT c, DS_TXFMT_ROLLOFF c, DS_FILL_TXFILL c]

/-! ## Laser steering (R325, R326, R552) -/

/-- A quotient rounded to the nearest whole number, halves away from zero (R325). -/
def roundAway (n d : Int) : Int := if 0 ≤ n then (2 * n + d) / (2 * d) else -((-2 * n + d) / (2 * d))

/-- The 16 bits of a correction word (R552). -/
def lsteerWord (seq : Nat) (c : Int) : Nat :=
  let w := 32768 + seq % 64 * 512 + encSigned 8 c * 2
  w + (if popCount 16 w % 2 = 0 then 1 else 0)

/-- The steering period that ends lies wholly in the lock (R326, R331). -/
def State.lstWhole (s : State) (c : Nat) : Bool :=
  (s.acq c).lock.isSome && decide ((s.line c).lstAt + 1000000 * s.get (DS_LSTCTL_PERIOD c) ≤ s.clk.dev)

/-- A steering period ends with a mean offset of `f` MHz. -/
def State.lsteer (s : State) (c : Nat) (f : Int) : State :=
  if s.lstWhole c && (s.car c).ost == .enabled && s.on (DS_LSTCTL_LSTEN c)
      && decide (10 * s.get (DS_LSTCTL_DEADBAND c) < f.natAbs) then
    let big : Int := s.get (DS_LSTCTL_MAXSTEP c)
    let w := max (-big) (min big (roundAway (s.get (DS_LSTCTL_GAIN c) * f) 80))
    let sum := s.getI (DS_FOFS_LSTSUM c) + w
    if sum.natAbs ≤ 50 * s.get (DS_LSTCTL_LIMIT c) then
      let l := s.line c
      let s := s.setLine c { l with lstSeq := (l.lstSeq + 1) % 64, word := some (lsteerWord l.lstSeq w) }
      ((s.setI (DS_FOFS_LSTSUM c) sum).setB (DS_EVENT_LSTSENT c) true).post (srcDS c) 0x03 (hCarrier c) [iw w, iw sum]
    else
      let s := s.setB (DS_EVENT_LSTLIM c) true
      if (s.line c).limPosted then s
      else
        (s.mapLine c (fun l => { l with limPosted := true })).post (srcDS c) 0x04 (hCarrier c)
          [iw (s.getI (DS_FOFS_LSTSUM c)), iw w]
  else s

/-! ## Monitors (R332, R333) -/

/-- The OSNR estimate in 0.1 dB (R333), rounded down and kept within its field (log entry 13). -/
def osnrOf (x y trx baud : Nat) : Nat :=
  let sn := (Fix.pow10 x 200 + Fix.pow10 y 200) / 2
  let t := Fix.pow10 trx 200
  if t ≤ sn then 0x3FF
  else
    let l := Fix.div Fix.one (Fix.div Fix.one sn - Fix.div Fix.one t)
    (max 0 (min 0x3FF (Fix.db10x100 (l * baud / 25) / 10))).toNat

/-- The periodic monitors. -/
def State.monitors (s : State) (c : Nat) (m : MonitorMeas) : State :=
  if (s.acq c).lock.isNone then s
  else
    let s := s.setI (DS_CDEST_CD c) ((s.line c).cd + m.residual)
    let s := ((s.set (DS_PMD_DGD c) (min 4095 ((s.line c).dgd + m.dgd).natAbs)).set (DS_PMD_PDL c) (min 255 m.pdl)).set (DS_PMD_SOP c) (min 4095 m.sop)
    let s := (s.setI (DS_FOFS_FOFS c) m.fofs).setI (DS_TIM_RXPPM c) m.ppm
    match m.snr with
    | none => s
    | some (x, y) =>
      let x := min 1023 x
      let y := min 1023 y
      ((s.set (DS_SNR_SNRX c) x).set (DS_SNR_SNRY c) y).set (DS_SNR_OSNR c)
        (osnrOf x y (s.get (DS_OSNRCAL_SNRTRX c)) (s.rxRun c).baud)

/-! ## Commands -/

/-- DISPERSION_TRACKING (R316): the residual dispersion seen in the taps, in ps/nm. -/
def execDispersionTracking (c : Fin 2) (residual : Int) (s : State) : Outcome :=
  let l := s.line c
  let cd := max (-160000) (min 160000 (l.cd + max (-20) (min 20 residual)))
  answer (if (s.acq c).lock.isSome then
    (let s := s.setLine c { l with cd := cd }
     let s := (s.setI (DS_CDEST_CD c) (l.cd + residual)).set (DS_CDEST_SRC c) 2
     if 2000 < (cd - l.cdLock).natAbs ∧ l.cdPosted = false then
       ((s.mapLine c (fun l => { l with cdPosted := true })).setB (DS_EVENT_CDSTEP c) true).post (srcDS c) 0x06 (hCarrier c)
         [iw l.cdLock, iw cd]
     else s)
    else s)

/-- BULK_DGD_UPDATE (R317): the delay that the taps show, in 0.1 ps. -/
def execBulkDgdUpdate (c : Fin 2) (delay : Int) (s : State) : Outcome :=
  let l := s.line c
  let d := l.dgd + max (-20) (min 20 (delay - l.dgd))
  answer (if (s.acq c).lock.isSome then s.setLine c { l with dgd := max (-4000) (min 4000 d) } else s)

/-- EQ_RESTART (R319): DSx_EQCTL written with RESTART 1, its other fields as they stand. -/
def execEqRestart (c : Fin 2) (s : State) : Outcome :=
  answer (s.gated (adr_DS_EQCTL c) (fun s => s.eqctlWrite c (s.eqctlWord c true (s.on (DS_EQCTL_FREEZE c)))))

/-- EQ_FREEZE (R319): FREEZE written 1. -/
def execEqFreeze (c : Fin 2) (s : State) : Outcome :=
  answer (s.gated (adr_DS_EQCTL c) (fun s => s.eqctlWrite c (s.eqctlWord c false true)))

/-- EQ_UNFREEZE (R319): FREEZE written 0. -/
def execEqUnfreeze (c : Fin 2) (s : State) : Outcome :=
  answer (s.gated (adr_DS_EQCTL c) (fun s => s.eqctlWrite c (s.eqctlWord c false false)))

/-- EQ_DD_ENTRY (R319): 16 pilot blocks in a row have carried their own sequences. -/
def execEqDdEntry (c : Fin 2) (s : State) : Outcome :=
  answer (if s.get (DS_EQSTAT_STATE c) = 1 ∧ 16 ≤ (s.line c).ownRun then s.eqInDD c else s)

/-- EQREINIT (R319): 4 pilot blocks in a row have carried the same sequence on both outputs. -/
def execEqreinit (c : Fin 2) (s : State) : Outcome :=
  let st := s.get (DS_EQSTAT_STATE c)
  answer (if (st = 1 ∨ st = 2) ∧ 4 ≤ (s.line c).sameRun then
    (let s := (s.eqUnknown c).mapLine c (fun l => { l with ownRun := 0, sameRun := 0 })
     let s := (s.set (DS_EQSTAT_STATE c) 1).bump (DS_EQSTAT_REINIT c) 1
     ((s.setB (DS_EVENT_EQREINIT c) true).post (srcDS c) 0x01 (hCarrier c) []).calCheck)
    else s)

/-- LSTEER_PERIOD (R325): the mean frequency offset of the period in MHz. -/
def execLsteerPeriod (c : Fin 2) (f : Int) (s : State) : Outcome := answer (s.lsteer c f)

/-- XI_SEARCH (R322, R323): the SNR measured over the 100 ms, in 0.05 dB. -/
def execXiSearch (c : Fin 2) (snr : Nat) (s : State) : Outcome :=
  let l := s.line c
  let xi := s.get (DS_NLC_XI c)
  answer (if (s.acq c).lock.isSome && s.on (DS_NLC_XIAUTO c) then
    (if l.nlcChanged then s.setLine c { l with nlcChanged := false }
     else
      let up := match l.snrLast with
        | none => true
        | some b => if b ≤ snr then l.xiUp else !l.xiUp
      let base := if l.snrLast.isNone then snr else l.snrZero
      let s := s.setLine c { l with snrLast := some snr, snrZero := base, xiUp := up }
      let s := s.setI (DS_NLC_GAIN c) (max (-128) (min 127 ((snr : Int) - base)))
      s.set (DS_NLC_XI c) (if up then min 255 (xi + 1) else xi - 1))
    else s)

/-- FILLSYNC (R330): the receive schedule is held. -/
def execFillsync (c : Fin 2) (s : State) : Outcome :=
  answer (if (s.acq c).lock.isSome && (s.line c).schedule.held then s.setB (DS_RXFMT_FILLSYNC c) true else s)

/-- MONITOR_UPDATE (R332, R333). -/
def execMonitorUpdate (c : Fin 2) (m : MonitorMeas) (s : State) : Outcome := answer (s.monitors c m)

/-- TAPSEL_WRITE (R336). -/
def execTapselWrite (c : Fin 2) (v : W32) (s : State) : Outcome :=
  answer (s.gated (adr_DS_TAPSEL c) (fun s => s.tapselWrite c v.toNat))

/-- DSx_LSTCTL is written (R336, R337). -/
def State.lstctlWrite (s : State) (c v : Nat) : State :=
  let g := (DS_LSTCTL_GAIN c).of v
  let m := (DS_LSTCTL_MAXSTEP c).of v
  if 1 ≤ g ∧ g ≤ 8 ∧ 1 ≤ m ∧ m ≤ 100 ∧ 1 ≤ (DS_LSTCTL_PERIOD c).of v ∧ 1 ≤ (DS_LSTCTL_LIMIT c).of v then
    s.wrs v [DS_LSTCTL_LSTEN c, DS_LSTCTL_GAIN c, DS_LSTCTL_DEADBAND c, DS_LSTCTL_MAXSTEP c, DS_LSTCTL_PERIOD c,
      DS_LSTCTL_LIMIT c]
  else s

/-- DSx_TXCTL is written (R336, R337). -/
def State.txctlWrite (s : State) (c v : Nat) : State :=
  if (DS_TXCTL_SWING c).of v = 0 then s else s.wrs v [DS_TXCTL_SWING c, DS_TXCTL_PDOFF c, DS_TXCTL_PEOFF c]

/-- DSP_CONTROL_WRITE (R337): register 0 is DSx_LSTCTL, 1 DSx_TXCTL, 2 DSx_EQCTL. -/
def execDspControlWrite (c : Fin 2) (reg : Fin 3) (v : W32) (s : State) : Outcome :=
  answer (match reg.val with
    | 0 => s.gated (adr_DS_LSTCTL c) (fun s => s.lstctlWrite c v.toNat)
    | 1 => s.gated (adr_DS_TXCTL c) (fun s => s.txctlWrite c v.toNat)
    | _ => s.gated (adr_DS_EQCTL c) (fun s => s.eqctlWrite c v.toNat))

end Sys2Proof.Machine
end

