-- ==== Sys2Proof/Machine/RingCode.lean ====
section
/-! DEFINITION. The levee ring's messages and code groups: the fields and the CRC-16 of R410, the 8b/10b code of IEEE 802.3 (R408; its
tables are PRESUMED, log entry 90), and what makes the link come UP and go DOWN. -/

namespace Sys2Proof.Machine

/-! ## Messages (R410) -/

/-- The CRC of bytes 0 to 13. -/
def ringCrc (ty src hops seq payload res : Nat) : Nat :=
  crcBits 16 0x1021 0xFFFF (bitsBE 8 ty ++ bitsBE 8 src ++ bitsBE 8 hops ++ bitsBE 8 seq ++ bitsBE 64 payload ++ bitsBE 16 res)

/-- A message with its CRC. -/
def ringMsg (ty src hops seq payload res : Nat) : RingMsg :=
  ⟨ty, src, hops, seq, payload, res, ringCrc ty src hops seq payload res⟩

/-- The 16 bytes of a message. -/
def RingMsg.bytes (m : RingMsg) : List Nat :=
  ([(8, m.ty), (8, m.src), (8, m.hops), (8, m.seq), (64, m.payload), (16, m.res), (16, m.crc)].flatMap (fun f =>
    (bytesBE (f.1 / 8) f.2).map BitVec.toNat))

/-- The CRC of a message that arrives checks: over the bytes as they came. -/
def ringOk (m : RingIn) : Bool := crcBits 16 0x1021 0xFFFF (bitsBE 112 (m.msg.toNat / 2 ^ 16)) == m.crc

/-- A message as it arrived. -/
def ringAsIs (m : RingIn) : RingMsg :=
  ⟨m.ty, m.msg.toNat / 2 ^ 112 % 256, m.hops, m.seq, m.payload, m.res, m.crc⟩

/-! ## Code groups (R408) -/

/-- The 6-bit code of x at negative running disparity, bit a first. -/
def code6 (x : Nat) : Nat :=
  [0b100111, 0b011101, 0b101101, 0b110001, 0b110101, 0b101001, 0b011001, 0b111000,
   0b111001, 0b100101, 0b010101, 0b110100, 0b001101, 0b101100, 0b011100, 0b010111,
   0b011011, 0b100011, 0b010011, 0b110010, 0b001011, 0b101010, 0b011010, 0b111010,
   0b110011, 0b100110, 0b010110, 0b110110, 0b001110, 0b101110, 0b011110, 0b101011].getD x 0

/-- The 4-bit codes of y at negative running disparity, for data and for control groups. -/
def code4 (y : Nat) : Nat := [0b1011, 0b1001, 0b0101, 0b1100, 0b1101, 0b1010, 0b0110, 0b1110].getD y 0
def code4k (y : Nat) : Nat := [0b1011, 0b0110, 0b1010, 0b1100, 0b1101, 0b0101, 0b1001, 0b0111].getD y 0

/-- The 10-bit code group of an octet, control or data, at a running disparity (`true`: positive), bit a first, and the disparity
after it. -/
def codeGroup (plus control : Bool) (octet : Nat) : Nat × Bool :=
  let x := octet % 32
  let y := octet / 32
  let six := if control && x == 28 then 0b001111 else code6 x
  let odd6 := popCount 6 six != 3
  let six := if plus && (odd6 || x == 7) then 63 - six else six
  let mid := plus != odd6
  let alt := y == 7 && ((!mid && [17, 18, 20].contains x) || (mid && [11, 13, 14].contains x))
  let four := if control then code4k y else if alt then 0b0111 else code4 y
  let odd4 := popCount 4 four != 2
  let four := if mid && (control || odd4 || y == 3) then 15 - four else four
  (16 * six + four, mid != odd4)

/-- Octets in a row: their code groups and the disparity after them. -/
def codeGroups : List (Bool × Nat) → Bool → List Nat × Bool
  | [], plus => ([], plus)
  | o :: t, plus =>
    let g := codeGroup plus o.1 o.2
    let r := codeGroups t g.2
    (g.1 :: r.1, r.2)

/-- The control octets of the code: K28.0 to K28.7, K23.7, K27.7, K29.7 and K30.7. -/
def controlOctets : List Nat := (List.range 8).map (fun y => 32 * y + 28) ++ [0xF7, 0xFB, 0xFD, 0xFE]

/-- A message on the line: /K27.7/ and its 16 bytes. -/
def RingMsg.octets (m : RingMsg) : List (Bool × Nat) := (true, 0xFB) :: m.bytes.map (fun b => (false, b))

/-- An idle pair: /K28.5/D16.2/. -/
def idlePair : List (Bool × Nat) := [(true, 0xBC), (false, 0x50)]

/-- A code group is valid at a running disparity. -/
def groupValid (plus : Bool) (g : Nat) : Bool :=
  (List.range 256).any (fun o => (codeGroup plus false o).1 == g) || controlOctets.any (fun o => (codeGroup plus true o).1 == g)

/-- The running disparity that a code group leaves. -/
def groupLeaves (plus : Bool) (g : Nat) : Bool :=
  if popCount 10 g = 5 then plus else decide (5 < popCount 10 g)

/-- RING_IN after code groups: its disparity, how many were invalid, how many valid ones stand in a row, and the latest 1,024. -/
def Tim.hear (t : Tim) : List Nat → Tim × Nat
  | [] => (t, 0)
  | g :: gs =>
    let ok := groupValid t.inPlus g
    let t' := { t with inPlus := groupLeaves t.inPlus g, validRun := if ok then t.validRun + 1 else 0
                       latest := (ok :: t.latest).take 1024 }
    let r := t'.hear gs
    (r.1, r.2 + (!ok).toNat)

/-- The link may come UP: 1,024 valid code groups in a row; it goes DOWN at 16 invalid ones within 1,024. -/
def Tim.linkGood (t : Tim) : Bool := decide (1024 ≤ t.validRun)
def Tim.linkBad (t : Tim) : Bool := decide (16 ≤ (t.latest.filter (fun b => !b)).length)

end Sys2Proof.Machine
end

