-- ==== Sys2Proof/Machine/Tim.lean ====
section
/-! DEFINITION. Reference selection, the loop, holdover, frame and published phase, output pins and the levee ring (R388
to R418). Offsets are in units of 10⁻⁶ ppm, the build-out in fs. -/

namespace Sys2Proof.Machine

open Reg

/-! ## The reference set (R71, R404) -/

def State.rsWord (s : State) (w lo n : Nat) : Nat := dfld (s.refset.getD []) w lo n

/-- The rank of an input: 15 while the set is UNBOUND, and for input 6 on the ring master (R396, R404). -/
def State.rank (s : State) (i : Nat) : Nat :=
  if s.refset.isNone ∨ (i = 6 ∧ s.on TIM_RINGCTL_MASTER = true) then 15 else s.rsWord 1 (60 - 4 * i) 4

def rsFreq (d : List Nat) (i : Nat) : Nat := dfld d 2 (48 + 4 * i) 4
def rsRank (d : List Nat) (i : Nat) : Nat := dfld d 1 (60 - 4 * i) 4
def rsSoft (d : List Nat) : Nat := if dfld d 3 52 12 = 0 then 46 else dfld d 3 52 12
def rsHard (d : List Nat) : Nat := if dfld d 3 40 12 = 0 then 92 else dfld d 3 40 12
def rsSlope (d : List Nat) : Nat := if dfld d 1 16 16 = 0 then 15 else dfld d 1 16 16
def rsQualwin (d : List Nat) : Nat := if dfld d 3 28 12 = 0 then 100 else dfld d 3 28 12

def State.qualwin (s : State) : Nat := rsQualwin (s.refset.getD [])
/-- SOFT and HARD in units of 10⁻⁶ ppm. -/
def State.soft (s : State) : Int := 100000 * (rsSoft (s.refset.getD []) : Int)
def State.hard (s : State) : Int := 100000 * (rsHard (s.refset.getD []) : Int)

/-- A defined frequency code (R389). -/
def freqOk (k : Nat) : Bool := decide (1 ≤ k ∧ k ≤ 12)

/-- Twice the frequency of a code in Hz (R389). -/
def freqHz2 (k : Nat) : Nat :=
  [0, 4096000, 20000000, 38880000, 50000000, 77760000, 100000000, 155520000, 200000000, 250000000, 311040000, 312500000,
    322265625].getD k 0

/-- The nominal period of an input in fs, rounded down (R388). -/
def State.periodFs (s : State) (i : Nat) : Nat :=
  if i < 4 then 2 * 10 ^ 15 / max 1 (freqHz2 (rsFreq (s.refset.getD []) i))
  else if i < 6 then 2000000 / max 1 (s.rxRun (i - 4)).baud
  else 10 ^ 15 / 622080000

/-! ## Inputs (R388, R391, R392) -/

def State.timIn (s : State) (i : Nat) : TimIn := Assoc.get {} i s.tim.ins
def State.mapTim (s : State) (f : Tim → Tim) : State := { s with tim := f s.tim }
def State.mapIn (s : State) (i : Nat) (f : TimIn → TimIn) : State :=
  s.mapTim (fun t => { t with ins := Assoc.modify {} i f t.ins })

/-- An input is present (R388). -/
def State.present (s : State) (i : Nat) : Bool :=
  if i < 4 then (s.timIn i).active
  else if i < 6 then s.on (DS_TIM_TLOCK (i - 4))
  else s.on TIM_RINGSTAT_LINK

def timInputs : List Nat := List.range 7

/-- The QUALIFIED inputs. -/
def State.qualified (s : State) : List Nat := timInputs.filter (fun i => s.get (TIM_IN_STATE i) == 3)

/-- A signed number kept within 16 bits. -/
def sat16 (v : Int) : Int := max (-32768) (min 32767 v)

/-- An offset in 0.01 ppm, to the nearest. -/
def ppm100 (v : Int) : Int := roundDivT v 10000
where
  /-- A quotient to the nearest whole number, halves up. -/
  roundDivT (n d : Int) : Int := (2 * n + d) / (2 * d)

/-- The median of a list: the mean of the two middle values when the count is even (R391). -/
def medianInt (l : List Int) : Int :=
  let t := l.mergeSort (fun a b => a ≤ b)
  let n := t.length
  if n % 2 = 1 then t.getD (n / 2) 0 else (t.getD (n / 2 - 1) 0 + t.getD (n / 2) 0) / 2

/-- An input leaves QUALIFIED (R392). -/
def State.disqualify (s : State) (i state cause : Nat) : State :=
  let was := s.get (TIM_IN_STATE i) == 3
  let s := (s.set (TIM_IN_STATE i) state).set (TIM_IN_CAUSE i) cause
  let s := (s.set (TIM_IN_QLEFT i) (if state = 2 then s.qualwin else 0)).setB (TIM_IN_WARN i) false
  if was then
    (s.setB TIM_EVENT_DISQ true).post srcTIM 0x02 0 [i, 0, cause, iw (ppm100 (s.timIn i).d)]
  else s

/-! ## The loop (R394, R395, R397, R400) -/

/-- REMAIN and PULL show the build-out (R400). -/
def State.showPull (s : State) : State :=
  let ns := (2 * s.tim.pull + 1000000) / 2000000
  (s.setI TIM_PULL_REMAIN (sat16 ns)).setB TIM_STATUS_PULL (decide (s.tim.pull ≠ 0))

/-- B is a phase that nothing states: a free value in (−P/2, P/2] (R400, log entry 25). -/
def buildOut (v p : Nat) : Int := let r := v % max 1 p; if p < 2 * r then (r : Int) - p else r

/-- The selected input is preferred by rank, then not demoted, then number (R394). -/
def State.better (s : State) (i j : Nat) : Bool :=
  let r (x : Nat) : Nat := s.rank x * 16 + (if s.on (TIM_IN_DEMOTED x) then 8 else 0) + x
  decide (r i < r j)

/-- The input that R394 prefers. -/
def State.preferred (s : State) : Option Nat :=
  match s.qualified with
  | [] => none
  | q :: qs => some (qs.foldl (fun b i => if s.better i b then i else b) q)

/-- XOU in units of 10⁻⁶ ppm. -/
def State.xou (s : State) : Int := 10000 * (s.get TIM_CTL_XOU : Int)

/-- Pairs of QUALIFIED inputs of equal rank that disagree (R395). -/
def State.disagreeing (s : State) : List (Nat × Nat) :=
  let q := s.qualified
  (q.flatMap (fun i => q.map (fun j => (i, j)))).filter (fun p =>
    decide (p.1 < p.2) && s.rank p.1 == s.rank p.2
      && decide (2 * s.xou < (((s.timIn p.1).f - (s.timIn p.2).f).natAbs : Int)))

/-- Demotion and AMBIGUOUS (R395). -/
def State.judge (s : State) : State × List (Nat × Nat) :=
  let m := medianInt (0 :: s.qualified.map (fun i => (s.timIn i).f))
  let dist (i : Nat) : Int := (((s.timIn i).f - m).natAbs : Int)
  let pairs := s.disagreeing
  let clear := timInputs.foldl (fun s i => s.setB (TIM_IN_DEMOTED i) false) s
  let s' := pairs.foldl (fun t p =>
    if s.xou < ((dist p.1 - dist p.2).natAbs : Int) then
      t.setB (TIM_IN_DEMOTED (if dist p.1 < dist p.2 then p.2 else p.1)) true
    else t) clear
  let amb := pairs.filter (fun p => !(decide (s.xou < ((dist p.1 - dist p.2).natAbs : Int))))
  let entered := !(amb.isEmpty) && !(s.on TIM_STATUS_AMBIGUOUS)
  let s' := s'.setB TIM_STATUS_AMBIGUOUS (!amb.isEmpty)
  match (if entered then amb.head? else none) with
  | some p =>
    ((s'.setB TIM_EVENT_AMBIG true).post srcTIM 0x04 0
      [p.1, p.2, iw (ppm100 (s.timIn p.1).f), iw (ppm100 (s.timIn p.2).f)], amb)
  | none => (s', amb)

/-- The loop is about to leave LOCKED, which MGT's wake reports (R468). -/
def State.leaveLocked (s : State) : State :=
  if s.get TIM_STATUS_LOOP = 3 then { s with clk := { s.clk with leftLocked := true } } else s

/-- Entry to ACQUIRE on an input: the build-out is measured (R397, R400). -/
def State.acquire (s : State) (i : Nat) : State :=
  let old := s.get TIM_STATUS_SEL
  let r := s.leaveLocked.free
  let b := buildOut r.1 (s.periodFs i)
  let s := r.2.mapTim (fun t => { t with pull := b, fresh := true, selFor := 0, phase := [], whole := false })
  let s := ((s.set TIM_STATUS_SEL i).set TIM_STATUS_LOOP 2).set TIM_STATUS_BW 0
  let s := ((s.setB TIM_STATUS_NOHIST false).setB TIM_EVENT_SWITCH true).showPull
  s.post srcTIM 0x01 0 [old, i, 2, iw ((2 * b + 1000000) / 2000000)]

/-- No input is QUALIFIED any more (R397). -/
def State.coast (s : State) : State :=
  let s := (s.leaveLocked.set TIM_STATUS_SEL 7).mapTim (fun t => { t with whole := false, selFor := 0, phase := [] })
  if s.rsWord 1 35 1 = 0 ∧ s.on TIM_STATUS_HOAVAIL = true then
    let s := (s.set TIM_STATUS_LOOP 1).mapTim (fun t => { t with waiting := [] })
    (s.setB TIM_EVENT_HOLDOVER true).post srcTIM 0x05 0 [iw (s.getI TIM_HOLD_EST)]
  else
    let no := s.rsWord 1 35 1 == 0
    let s := (s.set TIM_STATUS_LOOP 0).setB TIM_STATUS_NOHIST no
    (s.setB TIM_EVENT_FREERUN true).post srcTIM 0x06 0 [no.toNat]

/-- Choose the selected input, and move the loop (R394, R395, R397). -/
def State.reselect (s : State) : State :=
  let r := s.judge
  let s := r.1
  let amb := r.2
  let cur := s.get TIM_STATUS_SEL
  let running := decide (2 ≤ s.get TIM_STATUS_LOOP)
  let keep := s.rsWord 1 34 1 == 0 && s.get (TIM_IN_STATE cur) == 3 && !(s.on (TIM_IN_DEMOTED cur)) && decide (cur < 7)
  match s.preferred with
  | none => if running then s.coast else s
  | some i =>
    let tie := amb.any (fun p => (p.1 == cur && p.2 == i) || (p.2 == cur && p.1 == i))
    let i := if keep || tie then cur else i
    if running && i == cur then s else s.acquire i

/-- An input is lost at once (R390, R392): no history sample for this second. -/
def State.timLost (s : State) (i : Nat) : State :=
  let s := s.mapIn i (fun x => { x with means := [] })
  if s.get (TIM_IN_STATE i) = 0 then s
  else
    let s := if s.get TIM_STATUS_SEL = i then s.mapTim (fun t => { t with whole := false }) else s
    (s.disqualify i 1 1).reselect

/-! ## A second (R391 to R399) -/

/-- Take in a second's offset of an input. -/
def State.takeOffset (s : State) (i : Nat) (v : Int) : State :=
  if s.present i then
    s.mapIn i (fun x =>
      let l := (v :: x.means).take 4095
      let k := l.take s.qualwin
      { x with means := l, f := k.sum / k.length })
  else s

/-- The deviations of all inputs (R391). -/
def State.takeDeviations (s : State) : State :=
  let q := s.qualified
  timInputs.foldl (fun t i =>
    let f := (s.timIn i).f
    let d := f - medianInt (0 :: (q.filter (fun j => j != i)).map (fun j => (s.timIn j).f))
    let t := t.mapIn i (fun x => { x with d := d })
    if s.present i then (t.setI (TIM_DEV_OFS i) (sat16 (ppm100 f))).setI (TIM_DEV_DEV i) (sat16 (ppm100 d)) else t) s

/-- The phase check on the selected input (R393): its sum over QUALWIN seconds, when it applies. -/
def State.phaseFails (s : State) (i : Nat) : Bool :=
  let q := s.qualwin
  s.get TIM_STATUS_SEL == i && decide (2 ≤ s.get TIM_STATUS_LOOP) && decide (q ≤ s.tim.selFor) && s.on TIM_STATUS_HOAVAIL
    && decide (q ≤ s.tim.phase.length) && s.get TIM_CTL_PHLIM != 0
    && decide (1000000 * (s.get TIM_CTL_PHLIM : Int) < (((s.tim.phase.take q).sum).natAbs : Int))

/-- One input's row of R392 at the end of a second. -/
def State.qualify (s : State) (i : Nat) : State :=
  let st := s.get (TIM_IN_STATE i)
  let d := (s.timIn i).d
  let off : Int := (d.natAbs : Int)
  let q := s.qualwin
  if s.rank i = 15 then
    let s := if st = 3 then s.setB TIM_EVENT_DISQ true else s
    ((s.set (TIM_IN_STATE i) 0).set (TIM_IN_QLEFT i) 0).setB (TIM_IN_WARN i) false
  else if s.present i = false then (if st = 0 then s else s.disqualify i 1 1)
  else if st ≤ 1 then (s.set (TIM_IN_STATE i) 2).set (TIM_IN_QLEFT i) q
  else if st = 2 then
    (if s.soft < off then s.set (TIM_IN_QLEFT i) q
     else
      let left := s.get (TIM_IN_QLEFT i) - 1
      let s := s.set (TIM_IN_QLEFT i) left
      if left = 0 then
        (s.set (TIM_IN_STATE i) 3).post srcTIM 0x02 0 [i, 1, s.get (TIM_IN_CAUSE i), iw (ppm100 d)]
      else s)
  else if s.hard < off then s.disqualify i 2 2
  else if s.phaseFails i then s.disqualify i 2 3
  else if s.soft < off then
    (if s.on (TIM_IN_WARN i) then s
     else ((s.setB (TIM_IN_WARN i) true).setB TIM_EVENT_WARN true).post srcTIM 0x03 0 [i, iw (ppm100 d)])
  else s.setB (TIM_IN_WARN i) false

/-- B reaches 0 (R400). -/
def State.pullDone (s : State) : State :=
  if s.tim.pull = 0 then s
  else
    (((s.mapTim (fun t => { t with pull := 0 })).showPull).setB TIM_EVENT_PULLDONE true).post srcTIM 0x07 0
      [s.get TIM_STATUS_SEL]

/-- A second of pull (R400): |B| falls by SLOPE, while an input is selected; not for the second in which it was measured. -/
def State.pullSecond (s : State) : State :=
  let k : Int := 500000 * (rsSlope (s.refset.getD []) : Int)
  if s.get TIM_STATUS_LOOP < 2 ∨ s.tim.fresh = true then s
  else if (s.tim.pull.natAbs : Int) ≤ k then s.pullDone
  else (s.mapTim (fun t => { t with pull := if 0 < t.pull then t.pull - k else t.pull + k })).showPull

/-- The holdover estimate follows the eligible samples (R399). -/
def State.showHistory (s : State) : State :=
  let l := s.tim.eligible
  let est := if l.isEmpty then 0 else l.sum / l.length
  let s := s.mapTim (fun t => { t with est := est })
  ((s.set TIM_HOLD_HIST l.length).setB TIM_STATUS_HOAVAIL (decide (900 ≤ l.length))).setI TIM_HOLD_EST
    (sat16 ((2 * est + 1000) / 2000))

/-- The end of a second of device time. -/
def State.timSecond (s : State) (x : RefSecond) : State :=
  let sel := s.get TIM_STATUS_SEL
  let s := timInputs.foldl (fun s i => s.takeOffset i (x.offsets.getD i 0)) s
  let s := s.takeDeviations
  let s := s.mapTim (fun t => { t with
    waiting := if t.whole then t.waiting ++ [x.output] else t.waiting
    phase := if t.fresh then [] else if sel < 7 ∧ s.on TIM_STATUS_HOAVAIL = true then ((x.offsets.getD sel 0 - t.est) :: t.phase).take 3600 else []
    selFor := if sel < 7 ∧ t.fresh = false then t.selFor + 1 else 0 })
  let s := (timInputs.foldl State.qualify s.pullSecond).reselect
  s.mapTim (fun t => { t with whole := s.get TIM_STATUS_LOOP == 3, fresh := false })

/-! ## Frame and published phase (R401 to R403) -/

/-- An enable brings a carrier up (R401, R402): with none enabled before, the frame clock may step to the ring phase; the
first since power-on or cold reset defines the published phase. -/
def State.timCarrierUp (s : State) (noneBefore : Bool) : State :=
  let r := s.getI TIM_RINGPH_OFS
  let s := if noneBefore && s.on TIM_RINGCTL_FALIGN && s.get TIM_RINGPH_OFS != 0x80000000 then
    (let f := s.frameClk
     let n := (((f.fnum : Int) * 1280 + r + 1279) / 1280 % 256).toNat
     (({ s with frameClk := { f with fnum := n, boundaryDone := decide (n ≠ 0) } } : State).setI TIM_PHASE_OFS
       (s.getI TIM_PHASE_OFS - r)).setI TIM_RINGPH_OFS 0)
    else s
  if s.on TIM_STATUS_PUBLISHED then s else (s.setB TIM_STATUS_PUBLISHED true).set TIM_PHASE_OFS 0

/-- A superframe boundary completes a REALIGN that waits (R403). -/
def State.realignNow (s : State) : State :=
  if [0, 1, 2, 3].any (fun e => (s.eng e).entries.any (fun en => en.waits.contains .realign)) then
    let step := s.getI TIM_PHASE_OFS
    let s := (s.set TIM_PHASE_OFS 0).setB TIM_EVENT_REALIGN true
    (s.post srcTIM 0x08 0 [iw step]).finishWait .realign 0
  else s

/-- REFSET comes into force (R404). -/
def State.refsetIn (s : State) (d : List Nat) : State :=
  let old := s.refset
  let s : State := { s with refset := some d }
  let changed (i : Nat) : Bool := match old with
    | none => true
    | some o => rsRank o i != rsRank d i || (decide (i < 4) && rsFreq o i != rsFreq d i)
  let s := timInputs.foldl (fun s i =>
    if changed i then
      (let s := if s.get (TIM_IN_STATE i) = 3 then s.setB TIM_EVENT_DISQ true else s
       let s := if i < 4 ∧ rsFreq (old.getD []) i ≠ rsFreq d i then s.mapIn i (fun x => { x with means := [] }) else s
       ((s.set (TIM_IN_STATE i) (if s.rank i = 15 ∨ s.present i = true then 0 else 1)).set (TIM_IN_QLEFT i) 0).setB
         (TIM_IN_WARN i) false)
    else s) s
  s.reselect

/-- An enable of a carrier has completed since the latest reset (R506). -/
def State.everUp (s : State) : Bool := s.carA.everEnabled || s.carB.everEnabled

/-- HCLK_OUTx toggles (R405, R506). -/
def State.hclkRuns (s : State) (x : Nat) : Bool :=
  s.everUp && s.on (if x = 0 then TIM_OUT_H0EN else TIM_OUT_H1EN)
    && !(s.on TIM_OUT_SQFR && s.get TIM_STATUS_LOOP == 0)

/-- TSTAT[2:0] (R406). -/
def State.tstat (s : State) : Nat :=
  if s.ready = false then 0
  else match s.get TIM_STATUS_LOOP with
    | 0 => 1
    | 1 => 2
    | 2 => 3
    | _ => if s.on TIM_STATUS_AMBIGUOUS then 7 else if s.on (TIM_IN_WARN (s.get TIM_STATUS_SEL)) then 5
           else if s.on TIM_STATUS_PULL then 6 else 4

/-! ## The levee ring (R408 to R414) -/

/-- RING events by what happened (log entry 26): 0 wicket closed, 1 opened, 2 link up, 3 link down, 4 DUPID. -/
def State.ringEvent (s : State) (k : Nat) : State := s.post srcTIM 0x09 0 [k]

/-- The device has inserted itself. -/
def State.wicketOpen (s : State) : Bool := s.on TIM_RINGSTAT_WICKET

/-- Close the wicket: what waits for a gap is dropped. -/
def State.closeWicket (s : State) : State :=
  if s.wicketOpen then
    ((s.setB TIM_RINGSTAT_WICKET false).mapTim (fun t => { t with ringWait := [] })).ringEvent 0
  else s

/-- A message goes out on RING_OUT as code groups (R408). -/
def State.ringPut (s : State) (m : RingMsg) : State :=
  s.mapTim (fun t =>
    let g := codeGroups m.octets t.outPlus
    { t with ringOut := some m, ringLine := g.1, outPlus := g.2 })

/-- The idle pair that RING_OUT sends between messages (R408). -/
def State.ringIdle (s : State) : List Nat := (codeGroups idlePair s.tim.outPlus).1

/-- A message of this device waits for an idle gap (R411). -/
def State.ringSend (s : State) (ty payload : Nat) : State :=
  s.mapTim (fun t => { t with ringWait := t.ringWait ++ [(ty, payload)] })

/-- The place in which a type is sent: SYNC first, then STATE, then DELAY (R411). -/
def ringPlace (ty : Nat) : Nat := if ty = 1 then 0 else if ty = 2 then 1 else 2

/-- An idle gap on RING_OUT: the first of the messages that wait goes out (R410, R411). -/
def State.ringGap (s : State) : State :=
  match [1, 2, 3].findSome? (fun ty => s.tim.ringWait.find? (fun w => w.1 == ty)) with
  | some w =>
    let m := ringMsg w.1 (s.get TIM_RINGCTL_ID) 0 s.tim.seq w.2 0
    (s.mapTim (fun t => { t with
      ringWait := t.ringWait.erase w, seq := (t.seq + 1) % 256, sent := (t.seq :: t.sent).take 4 })).ringPut m
  | none => s

/-- What a device with its wicket open does with a message on its way (R411): remove its own and spent ones, forward
the others. -/
def State.ringPass (s : State) (m : RingIn) : State :=
  if s.wicketOpen = false then s
  else if m.src = s.get TIM_RINGCTL_ID then
    (if s.tim.sent.contains m.seq then s else (s.setB TIM_RINGSTAT_DUPID true).ringEvent 4)
  else if 15 ≤ m.hops then s
  else s.ringPut (ringMsg m.ty m.src (m.hops + 1) m.seq m.payload ((m.res + 160 + m.above) % 65536))

/-- A phase within a superframe of 327,680 ns, reduced to (−half, half] (log entry 27). -/
def wrapPhase (v : Int) : Int := let r := v % 327680; if 163840 < r then r - 327680 else r

/-- TODEN: device time follows the master (R413). `e` is the payload time less this device's time at the boundary. -/
def State.todAdjust (s : State) (e : Int) : State :=
  let put (s : State) (v : Int) : State := { s with clk := { s.clk with dev := (v % (2 : Int) ^ 64).toNat } }
  if s.on TIM_RINGCTL_TODEN = false ∨ s.mgtOn = false then s
  else if 1000 < e.natAbs then
    ((put s (s.clk.dev + e)).set MGT_TIME_UNCERT_UNCERT 0).post srcTIM 0x0A 0 [iw e]
  else put s (s.clk.dev + e.tdiv 16)

/-- A SYNC that its master sent comes back (R412): `loopNs` is its arrival minus its departure. -/
def State.syncReturned (s : State) (m : RingIn) (loopNs : Nat) : State :=
  let k := m.hops + 1
  let share := (loopNs - m.res) / k % 65536
  ((s.mapTim (fun t => { t with share := share })).set TIM_RINGSTAT_LINKS (min 31 k)).set TIM_RINGSTAT_SHARE share

/-- A SYNC from the master (R412, R413): `arrival` is its arrival in ns after a superframe boundary of the frame clock. -/
def State.syncMeasured (s : State) (m : RingIn) (arrival : Int) : State :=
  let k := m.hops + 1
  let l := s.get TIM_RINGCTL_LINKDLY
  let link := if l ≠ 0 then l else s.tim.share
  let path : Int := m.res + k * link
  let s := (s.set TIM_RINGSTAT_LINKS (min 31 k)).set TIM_RINGSTAT_SHARE link
  let s := s.setI TIM_RINGPH_OFS (wrapPhase (-(arrival - path - 1000)))
  s.todAdjust ((m.payload : Int) - ((s.clk.dev : Int) - path - 1000))

/-- A message arrives: through the closed wicket it leaves as it came (R409); one whose CRC fails is discarded and counted, one of
another type is discarded (R410, R411, R415). -/
def State.ringChecked (s : State) (ty : Nat) (m : RingIn) (f : State → State) : State :=
  let s := if s.wicketOpen then s else s.ringPut (ringAsIs m)
  if ringOk m = false then s.bump TIM_RINGERR_CRC 1 else if m.ty ≠ ty then s else f s

/-- Code groups have been received on RING_IN; the invalid ones are counted (R408). -/
def State.ringHear (s : State) (groups : List (BitVec 10)) : State :=
  let r := s.tim.hear (groups.map BitVec.toNat)
  ({ s with tim := r.1 } : State).bump TIM_RINGERR_CODE r.2

/-- The content of this device's STATE (R414): bytes 4 and 5. -/
def State.stateContent (s : State) : Nat :=
  let b (f : Fld) (w : Nat) : Nat := if s.on f then 2 ^ w else 0
  b (FRM_C_STATUS_SF 0) 15 + b (FRM_C_STATUS_SD 0) 14 + b (FRM_C_STATUS_SF 1) 13 + b (FRM_C_STATUS_SD 1) 12
    + b FRM_CPG_STATUS_SEL 11 + s.get FRM_CPG_STATUS_REQ % 16 * 16

/-- A STATE is stored for its source (R414). -/
def State.storePeer (s : State) (m : RingIn) : State :=
  let p := m.src
  let c := m.payload / 2 ^ 48
  let bits := [(TIM_PEER_ASF p, 15), (TIM_PEER_ASD p, 14), (TIM_PEER_BSF p, 13), (TIM_PEER_BSD p, 12), (TIM_PEER_CPSEL p, 11)]
  let same := s.on (TIM_PEER_VALID p) && bits.all (fun b => s.get b.1 == bitOf c b.2) && s.get (TIM_PEER_CPREQ p) == fieldOf c 4 4
  let s := bits.foldl (fun s b => s.set b.1 (bitOf c b.2)) s
  let s := (s.set (TIM_PEER_CPREQ p) (fieldOf c 4 4)).setB (TIM_PEER_VALID p) true
  if same then s else (s.post srcTIM 0x0B 0 [p, c]).fireWake 3

/-- TIM_OUT is written (R418). -/
def State.timOutWrite (s : State) (v : Nat) : State :=
  if freqOk (TIM_OUT_H0FREQ.of v) && freqOk (TIM_OUT_H1FREQ.of v) then
    s.wrs v [TIM_OUT_H0EN, TIM_OUT_H0FREQ, TIM_OUT_H1EN, TIM_OUT_H1FREQ, TIM_OUT_SQFR, TIM_OUT_FPOEN]
  else s

/-! ## Commands -/

/-- QUALIFICATION_SECOND (R392). -/
def execQualificationSecond (x : RefSecond) (s : State) : Outcome := answerIf x.wf (s.timSecond x)

/-- LOS (R390). -/
def execLos (i : Fin 4) (s : State) : Outcome := answer ((s.mapIn i (fun x => { x with active := false })).timLost i)

/-- REF_ACTIVE (R390, R460). -/
def execRefActive (i : Fin 4) (s : State) : Outcome :=
  answer ((s.mapIn i (fun x => { x with active := true })).fireWake 2)

/-- BANDWIDTH_STEP (R398). -/
def execBandwidthStep (s : State) : Outcome :=
  let b := s.get TIM_STATUS_BW + 1
  answer (if s.get TIM_STATUS_LOOP = 2 then
    (let s := s.set TIM_STATUS_BW b
     if b = 4 then s.set TIM_STATUS_LOOP 3 else s) else s)

/-- SAMPLE_ELIGIBLE (R399): the oldest sample that waits. -/
def execSampleEligible (s : State) : Outcome :=
  answer (match s.tim.waiting with
    | [] => s
    | x :: t => (s.mapTim (fun y => { y with waiting := t, eligible := (x :: y.eligible).take 900 })).showHistory)

/-- PULLDONE (R400). -/
def execPulldone (s : State) : Outcome := answer s.pullDone

/-- RING_LINK_UP (R408, R460). -/
def execRingLinkUp (s : State) : Outcome :=
  answer (if s.on TIM_RINGSTAT_LINK = false ∧ s.tim.linkGood = true then
    ((s.setB TIM_RINGSTAT_LINK true).ringEvent 2).fireWake 3 else s)

/-- RING_LINK_DOWN (R408): what RING_IN has received; the link goes DOWN on a loss of signal or on invalid code groups. -/
def execRingLinkDown (x : RingHeard) (s : State) : Outcome :=
  let s := s.ringHear x.groups
  let s := if x.los then s.mapTim (fun t => { t with validRun := 0, latest := [] }) else s
  answer (if s.on TIM_RINGSTAT_LINK = true ∧ (x.los || s.tim.linkBad) = true then
    ((s.setB TIM_RINGSTAT_LINK false).ringEvent 3).timLost 6 else s)

/-- WICKET_OPEN (R409). -/
def execWicketOpen (s : State) : Outcome :=
  answer (if s.on TIM_RINGCTL_EN && s.on TIM_RINGSTAT_LINK && s.rails.good.contains 5 && !(s.rst.asserted) && !(s.wicketOpen) then
    (s.setB TIM_RINGSTAT_WICKET true).ringEvent 1 else s)

/-- WICKET_CLOSE (R409). -/
def execWicketClose (s : State) : Outcome := answer (if s.on TIM_RINGCTL_EN then s else s.closeWicket)

/-- RING_SYNC (R411 to R413). `at_` is, for a SYNC of the device's own, the loop delay in ns, and otherwise the arrival in ns after
a superframe boundary of the frame clock. -/
def execRingSync (m : RingIn) (at_ : Nat) (s : State) : Outcome :=
  answer (s.ringChecked 1 m (fun s =>
    let own := decide (m.src = s.get TIM_RINGCTL_ID)
    let s' := if own then (if s.on TIM_RINGCTL_MASTER && s.wicketOpen && s.tim.sent.contains m.seq then s.syncReturned m at_ else s)
      else if s.on TIM_RINGCTL_MASTER = false ∧ m.src = s.get TIM_RINGCTL_MID then s.syncMeasured m at_ else s
    s'.ringPass m))

/-- RING_STATE (R411, R414). -/
def execRingState (m : RingIn) (s : State) : Outcome :=
  answer (s.ringChecked 2 m (fun s =>
    (if m.src = s.get TIM_RINGCTL_ID then s else s.storePeer m).ringPass m))

/-- RING_DELAY (R411, R412): SHARE in bytes 4 and 5. -/
def execRingDelay (m : RingIn) (s : State) : Outcome :=
  answer (s.ringChecked 3 m (fun s =>
    let s := if s.on TIM_RINGCTL_MASTER = false ∧ m.src = s.get TIM_RINGCTL_MID ∧ m.src ≠ s.get TIM_RINGCTL_ID then
      s.mapTim (fun t => { t with share := m.payload / 2 ^ 48 }) else s
    s.ringPass m))

/-- STATE_SEND (R414). -/
def execStateSend (s : State) : Outcome :=
  answer (if s.wicketOpen then s.ringSend 2 (s.stateContent * 2 ^ 48) else s)

/-- PEER_TIMEOUT (R414). -/
def execPeerTimeout (p : Fin 16) (s : State) : Outcome := answer (s.setB (TIM_PEER_VALID p) false)

/-- TIM_OUT_WRITE (R418). -/
def execTimOutWrite (v : W32) (s : State) : Outcome := answer (s.gated adr_TIM_OUT (fun s => s.timOutWrite v.toNat))

/-- PUBLISHED_SUPERFRAME_BOUNDARY (R402, R405, R412): the FPO pulse, and the master's SYNC, with DELAY after every 256th. -/
def execPublishedSuperframeBoundary (s : State) : Outcome :=
  let s := s.mapTim (fun t => { t with fpo := s.on TIM_STATUS_PUBLISHED && s.on TIM_OUT_FPOEN && s.everUp })
  answer (if s.on TIM_STATUS_PUBLISHED && s.on TIM_RINGCTL_MASTER && s.wicketOpen then
    (let s := (s.ringSend 1 (s.clk.dev % 2 ^ 64)).mapTim (fun t => { t with syncs := t.syncs + 1 })
     if s.tim.syncs % 256 = 0 then s.ringSend 3 (s.tim.share * 2 ^ 48) else s)
    else s)

end Sys2Proof.Machine
end

