-- ==== Sys2Proof/Machine/Acq.lean ====
section
/-! DEFINITION. Signal acquisition: profiles, sweeps, the candidate queue, confirmation, lock, loss and watch mode (R338 to
R360), and the pilot block (R303). -/

namespace Sys2Proof.Machine

open Reg

/-! ## Profiles and lanes (R338 to R340, R345, R353) -/

/-- Change acquisition of a carrier. -/
def State.mapAcq (s : State) (c : Nat) (f : Acq → Acq) : State := s.setAcq c (f (s.acq c))

/-- Entry k of the profile table, when it is usable. -/
def State.profEntry (s : State) (k : Nat) : Option Profile :=
  let p : Profile := ⟨k, s.get (ACQ_PROF_BAUD k), s.get (ACQ_PROF_NET k), s.get (ACQ_PROF_FEC k), s.get (ACQ_PROF_MOD k)⟩
  if 120 ≤ p.baud ∧ p.baud ≤ 600 ∧ 2 ≤ p.net ∧ p.net ≤ 24 ∧ p.fec ≤ 2 ∧ p.format.isSome = true then some p else none

/-- Equal in all four fields. -/
def Profile.same (p q : Profile) : Bool := p.baud == q.baud && p.net == q.net && p.fec == q.fec && p.mod == q.mod

/-- The profiles to search, and the entries left out as bad (R338). -/
def State.searched (s : State) (c : Nat) : List Profile × List Nat :=
  let d := (s.car c).desc
  ([0, 1, 2, 3].filter (fun k => bitOf (cdAcqProf d) k == 1)).foldl (fun (a : List Profile × List Nat) k =>
    match s.profEntry k with
    | none => (a.1, a.2 ++ [k])
    | some p => if a.1.any (fun q => q.same p) then a else (a.1 ++ [p], a.2)) ([rxProfile d], [])

/-- Show which lanes sweep: those whose symbol rate does not exceed a limit. -/
def State.showLanes (s : State) (c limit : Nat) : State :=
  s.set (ACQ_C_STATUS_LANES c)
    (((s.acq c).profiles.filter (fun p => decide (p.baud ≤ limit))).foldl (fun m p => setBitN m p.code) 0)

/-- Above every symbol rate. -/
def anyBaud : Nat := 1024

/-! ## Search (R341 to R344) -/

/-- Show how many candidates wait. -/
def State.showQueue (s : State) (c : Nat) : State := s.set (ACQ_C_STATUS_QUEUED c) (s.acq c).queue.length

/-- Nothing is in confirmation and nothing locked: what the registers of R358 show then. -/
def State.acqClear (s : State) (c : Nat) : State :=
  let s := s.mapAcq c (fun a => { a with cand := none, blocks := 0, pass := 0, coded := [], windows := 0, lock := none, rival := none, lossRun := 0,
                                         rivalRun := 0, setupDue := false })
  let s := ((s.setB (ACQ_C_STATUS_LOCKED c) false).set (ACQ_C_STATUS_STAGE c) 0).set (ACQ_C_STATUS_PROF c) 7
  (s.set (ACQ_C_METRIC_CUR c) 0x8000).set (ACQ_C_METRIC_RIVAL c) 0x8000

/-- Entry to SEARCH: the table is read, and every lane sweeps (R338 to R341). -/
def State.acqSearch (s : State) (c : Nat) : State :=
  let r := s.searched c
  let s := s.acqClear c
  let new := r.2.filter (fun k => !((s.acq c).bad.contains k))
  let s := s.mapAcq c (fun a => { a with profiles := r.1, searchAt := s.clk.dev, bad := a.bad ++ new, preempted := false })
  let s := new.foldl (fun s k => (s.setB (ACQ_C_EVENT_PROFBAD c) true).post srcACQ 0x05 (hCarrier c) [k]) s
  ((s.set (ACQ_C_STATUS_STATE c) 1).showLanes c anyBaud).showQueue c

/-- Acquisition of a carrier may run: its enable has completed, and nothing holds it. -/
def State.acqMay (s : State) (c : Nat) : Bool := (s.car c).ost == .enabled && (s.car c).tx.running && !s.carHeld

/-- Acquisition rests: no candidate, no lock, no lane (R346, R356). -/
def State.acqIdle (s : State) (c : Nat) : State :=
  let s := (s.acqClear c).mapAcq c (fun a => { a with queue := [], rejects := [], profiles := [], preempted := false })
  ((s.set (ACQ_C_STATUS_STATE c) 0).set (ACQ_C_STATUS_LANES c) 0).showQueue c

/-- The receive direction runs without a lock: framing, pool and signal processing let go (R209, R243, R246, R291, R319), and the recovered clock
is lost (R390). -/
def State.rxDown (s : State) (c : Nat) : State :=
  let lost := s.on (DS_TIM_TLOCK c)
  let s := ((((s.poolUnlock c).showFecProfile c).dspUnlock c).loseLock c).calCheck
  if lost then s.timLost (4 + c) else s

/-- Two points are near: within 500 MHz and 2,000 ps/nm (R343, R344, R353). -/
def near (a b : Detection) : Bool :=
  decide ((a.fofs - b.fofs).natAbs ≤ 500) && decide ((a.cd - b.cd).natAbs ≤ 2000)

/-- A detection at a time is ignored for a candidate rejected less than 10 ms before (R344, R356). -/
def rejectedBy (now : Nat) (d : Detection) (r : Detection × Nat) : Bool :=
  d.prof.code == r.1.prof.code && near d r.1 && decide (d.m < r.1.m + 30) && decide (now < r.2 + 10000000)

/-- The points that a sweep of the carrier covers (R341). -/
def swept (d : List Nat) (x : SweepMeas) : Bool :=
  let mid := if cdHintV d then cdCdHint d else 0
  decide (max (-160000) (mid - 80000) ≤ x.cd) && decide (x.cd ≤ min 160000 (mid + 80000)) && decide (x.fofs.natAbs ≤ 7500)
    && decide (x.ppm.natAbs ≤ 15000)

/-- The place of a profile among equals: the receive profile, then the lower entry (R343). -/
def profRank (p : Profile) : Nat := if p.code = 4 then 0 else p.code + 1

/-- Put a detection into a queue ordered by M (R343). -/
def enqueue (d : Detection) : List Detection → List Detection
  | [] => [d]
  | x :: t =>
    if x.m < d.m ∨ (x.m = d.m ∧ profRank d.prof < profRank x.prof) then d :: x :: t else x :: enqueue d t

/-- A detection joins the queue (R343): it updates a queued candidate near it on its profile, else it is added, else it
replaces the weakest if stronger. -/
def joinQueue (d : Detection) (q : List Detection) : List Detection × Bool :=
  if q.any (fun x => x.prof.code == d.prof.code && near x d) then
    (enqueue d (q.filter (fun x => !(x.prof.code == d.prof.code && near x d))), true)
  else if q.length < 3 then (enqueue d q, true)
  else match q.getLast? with
    | some w => if w.m < d.m then (enqueue d q.dropLast, true) else (q, false)
    | none => ([d], true)

/-- A sweep of a lane ends with its best point (R341, R343, R353). -/
def State.sweepEnd (s : State) (c lane : Nat) (x : SweepMeas) : State :=
  let a := s.acq c
  match a.profiles.find? (fun p => p.code == lane) with
  | none => s
  | some p =>
    let d : Detection := ⟨p, x.cd, x.fofs, x.ppm, x.m⟩
    if s.bit (ACQ_C_STATUS_LANES c) lane = false ∨ swept (s.car c).desc x = false ∨ x.m < a.detThr
        ∨ a.rejects.any (rejectedBy s.clk.dev d) = true then s
    else match a.lock with
      | some l =>
        if p.baud = l.prof.baud ∧ near d l = true then s
        else
          (match a.rival with
            | some r => if r.m < d.m then
                (s.mapAcq c (fun a => { a with rival := some d, rivalRun := if near d r && r.prof.baud == p.baud then a.rivalRun
                                                                           else 0 })).setI (ACQ_C_METRIC_RIVAL c) d.m
              else s
            | none => (s.mapAcq c (fun a => { a with rival := some d, rivalRun := 0 })).setI (ACQ_C_METRIC_RIVAL c) d.m)
      | none =>
        let q := joinQueue d a.queue
        let s := (s.mapAcq c (fun a => { a with queue := q.1 })).showQueue c
        if q.2 then s.setB (ACQ_C_EVENT_DETECT c) true else s

/-! ## Confirmation (R345 to R347) -/

/-- A candidate enters SETTLE: the path is loaded with its point, and faster lanes pause (R345, R346). -/
def State.settleIn (s : State) (c : Nat) (d : Detection) : State :=
  let s := s.mapAcq c (fun a => { a with
    cand := some d, blocks := 0, pass := 0, schedule := d.prof.schedule, coded := [], windows := 0 })
  let s := ((s.set (ACQ_C_STATUS_STATE c) 2).set (ACQ_C_STATUS_STAGE c) 1).set (ACQ_C_STATUS_PROF c) d.prof.code
  let s := ((s.setI (ACQ_C_FOFS_FOFS c) d.fofs).setI (ACQ_C_FOFS_PPM c) d.ppm).setI (ACQ_C_CDSCAN_CD c) d.cd
  (s.setI (ACQ_C_METRIC_CUR c) d.m).showLanes c d.prof.baud

/-- The stage a candidate is in (R358). -/
def State.stage (s : State) (c : Nat) : Nat := s.get (ACQ_C_STATUS_STAGE c)

/-- The candidate is rejected in its stage (R344, R346). -/
def State.reject (s : State) (c : Nat) : State :=
  match (s.acq c).cand with
  | none => s
  | some d =>
    let st := s.stage c
    let f := if st = 2 then ACQ_C_REJECT_PILOT c else if st = 3 then ACQ_C_REJECT_FILL c
      else if st = 4 then ACQ_C_REJECT_BLOCK c else ACQ_C_REJECT_CHECK c
    let s := ((s.bump f 1).setB (ACQ_C_EVENT_REJECT c) true).post srcACQ 0x03 (hCarrier c) [d.prof.code, st, iw d.m]
    let s := s.mapAcq c (fun a => { a with rejects := a.rejects ++ [(d, s.clk.dev)] })
    if (s.acq c).preempted then s.acqSearch c
    else ((s.acqClear c).set (ACQ_C_STATUS_STATE c) 1).showLanes c anyBaud

/-- The candidate goes on to a stage. -/
def State.toStage (s : State) (c n : Nat) : State :=
  (s.mapAcq c (fun a => { a with blocks := 0 })).set (ACQ_C_STATUS_STAGE c) n

/-- The locked carrier starts to receive (R331, R349), from the next block boundary on. -/
def State.lockIn (s : State) (c : Nat) (d : Detection) : State :=
  let t := (s.clk.dev - (s.acq c).searchAt) / 1000
  let skip := (s.get (ACQ_C_BLOCK_OFFSET c) + 30720 - (s.acq c).coded.length % 30720) % 30720
  let s := s.acqClear c
  let s := s.mapAcq c (fun a => { a with lock := some d, queue := [], setupDue := true, preempted := false })
  let s := ((s.setB (ACQ_C_STATUS_LOCKED c) true).set (ACQ_C_STATUS_STATE c) 3).set (ACQ_C_STATUS_PROF c) d.prof.code
  let s := ((s.setI (ACQ_C_METRIC_CUR c) d.m).bump (ACQ_C_LOCKS_COUNT c) 1).set (ACQ_C_LOCKTIME_TIME c) (min 0xFFFFFFFF t)
  let s := (s.showQueue c).showLanes c (if s.on (ACQ_C_CTL_WATCHEN c) then d.prof.baud else 0)
  let s := (s.setB (ACQ_C_EVENT_LOCK c) true).post srcACQ 0x01 (hCarrier c)
    [d.prof.code, iw d.fofs, iw d.cd, min 0xFFFFFFFF t]
  let s := ((s.dspLock c d).mapLine c (fun l => { l with skip := skip })).poolLock c 0
  let s := (s.showShares).reportShort
  (s.pmc 0x0B c 1).defects c

/-- The lock is dropped, and the carrier returns to SEARCH (R350). -/
def State.dropLock (s : State) (c cause : Nat) : State :=
  if (s.acq c).lock.isNone then s
  else
    let s := ((s.bump (ACQ_C_LOSS_LOST c) 1).setB (ACQ_C_EVENT_LOST c) true).post srcACQ 0x02 (hCarrier c) [cause]
    let s := if s.acqMay c then (s.acqSearch c) else s.acqIdle c
    s.rxDown c

/-- A rival displaces the lock (R354). -/
def State.preempt (s : State) (c : Nat) : State :=
  let a := s.acq c
  match a.lock, a.rival with
  | some l, some r =>
    if 32 ≤ a.rivalRun ∧ s.on (ACQ_C_CTL_WATCHEN c) = true then
      let s := ((s.bump (ACQ_C_LOSS_PREEMPT c) 1).setB (ACQ_C_EVENT_PREEMPT c) true).post srcACQ 0x04 (hCarrier c)
        [l.prof.code, iw l.m, r.prof.code, iw r.m]
      (((s.acqClear c).mapAcq c (fun a => { a with preempted := true })).settleIn c r).rxDown c
    else s
  | _, _ => s

/-- A lock is lost in a pilot block: a rival that meets R354 in the same one displaces it instead (R356). -/
def State.lockLost (s : State) (c cause : Nat) : State :=
  if 32 ≤ (s.acq c).rivalRun ∧ s.on (ACQ_C_CTL_WATCHEN c) = true then s.preempt c else s.dropLock c cause

/-- Acquisition and the receive chain of a carrier stop: it is disabled or held (R346, R356, R487). -/
def State.acqStop (s : State) (c : Nat) : State := (s.acqIdle c).rxDown c

/-- ACQ_Cc_CTL.RESTART (R346, R350, R356). -/
def State.acqRestart (s : State) (c : Nat) : State :=
  if s.acqMay c then
    let s := s.mapAcq c (fun a => { a with queue := [], rejects := [] })
    if (s.acq c).lock.isSome then s.dropLock c 4 else s.acqSearch c
  else s

/-! ## The pilot block (R303, R318 to R327, R342, R353, R360) -/

/-- Thresholds written since the last pilot block take effect (R360). -/
def State.takeThresholds (s : State) (c : Nat) : State :=
  s.mapAcq c (fun a => { a with detThr := s.get ACQ_THRESH_DETTHR, confThr := s.get ACQ_THRESH_CONFTHR
                                wMargin := s.get ACQ_THRESH_WMARGIN, swThr := s.get ACQ_THRESH_SWTHR })

/-- The symbols of a pilot block of the locked signal: slips are corrected and counted, pilots and fill removed, and LLRs
join those for the pool from the first block boundary on (R324, R329, R330, R349). -/
def State.takeSymbols (s : State) (c : Nat) (x : PilotMeas) : State :=
  let l := s.line c
  let r := unslip 64 0 x.xs x.ys l.slipTurn
  let d := demap (s.rxRun c) (symbolBlocks r.2.2) l.schedule
  let s := s.setLine c { l with
    slipTurn := r.1, slips := l.slips + r.2.1, schedule := d.1, skip := l.skip - d.2.2.length
    llrs := l.llrs ++ d.2.2.drop l.skip }
  if r.2.1 = 0 then s
  else ((s.bump (DS_CSLIP_COUNT c) r.2.1).setB (DS_EVENT_CSLIP c) true).pmc 0x08 c r.2.1

/-- What a pilot block does for a locked carrier. -/
def State.pilotLocked (s : State) (c : Nat) (x : PilotMeas) : State :=
  let a := s.acq c
  let s := s.nlcFollow c
  let s := s.setI (ACQ_C_METRIC_CUR c) x.m
  let rival := a.rival.isSome && s.on (ACQ_C_CTL_WATCHEN c)
  let s := s.mapAcq c (fun a => { a with
    lossRun := if x.m < a.detThr then a.lossRun + 1 else 0
    rivalRun := if rival && decide (x.m + a.wMargin ≤ x.rivalM) then a.rivalRun + 1 else 0
    lock := a.lock.map (fun l => { l with m := x.m })
    rival := if rival then a.rival.map (fun r => { r with m := x.rivalM }) else a.rival })
  let s := if rival then s.setI (ACQ_C_METRIC_RIVAL c) x.rivalM else s
  let s := s.mapLine c (fun l => { l with
    ownRun := if x.own then l.ownRun + 1 else 0
    sameRun := if x.same then l.sameRun + 1 else 0 })
  let s := s.takeSymbols c x
  if x.ppm.natAbs ≤ 15000 then s
  else
    let s := (s.setB (DS_EVENT_TIMRANGE c) true).post (srcDS c) 0x05 (hCarrier c) [iw (s.getI (DS_TIM_RXPPM c))]
    s.lockLost c 2

/-- What a pilot block does for the candidate in confirmation (R346). -/
def State.pilotCandidate (s : State) (c : Nat) (x : PilotMeas) : State :=
  let s := if s.stage c = 0 then s
    else (s.setI (ACQ_C_METRIC_CUR c) x.candM).mapAcq c (fun a => { a with blocks := a.blocks + 1 })
  if s.stage c = 2 then
    (if (s.acq c).confThr ≤ x.candM ∧ x.candSep = true then s.mapAcq c (fun a => { a with pass := a.pass + 1 })
     else s.reject c)
  else if 3 ≤ s.stage c then
    match (s.acq c).cand with
    | none => s
    | some d =>
      let r := demap d.prof (symbolBlocks (unslip 64 0 x.xs x.ys (some 0)).2.2) (s.acq c).schedule
      if s.stage c = 3 then
        (if r.2.1 then s.reject c else s.mapAcq c (fun a => { a with schedule := r.1 }))
      else s.mapAcq c (fun a => { a with schedule := r.1, coded := a.coded ++ r.2.2 })
  else s

/-- The receive chain processes a pilot block. -/
def State.pilotBlock (s : State) (c : Nat) (x : PilotMeas) : State :=
  let s := s.takeThresholds c
  if (s.acq c).lock.isSome then s.pilotLocked c x else s.pilotCandidate c x

/-- ACQ_THRESH is written (R360). -/
def State.threshWrite (s : State) (v : Nat) : State :=
  let d := ACQ_THRESH_DETTHR.of v
  let k := ACQ_THRESH_CONFTHR.of v
  let w := ACQ_THRESH_WMARGIN.of v
  let x := ACQ_THRESH_SWTHR.of v
  if 10 ≤ d ∧ d ≤ 200 ∧ d ≤ k ∧ k ≤ 250 ∧ 10 ≤ w ∧ w ≤ 200 ∧ 64 ≤ x ∧ x ≤ 120 then
    s.wrs v [ACQ_THRESH_DETTHR, ACQ_THRESH_CONFTHR, ACQ_THRESH_WMARGIN, ACQ_THRESH_SWTHR]
  else s

/-! ## Commands -/

/-- PILOT_BLOCK (R303). -/
def execPilotBlock (c : Fin 2) (x : PilotMeas) (s : State) : Outcome := answer (s.pilotBlock c x)

/-- SWEEP_END (R341) of a lane: 0 to 3 a table entry, 4 the receive profile. -/
def execSweepEnd (c : Fin 2) (lane : Fin 5) (x : SweepMeas) (s : State) : Outcome := answer (s.sweepEnd c lane x)

/-- CONFIRM_START (R346). -/
def execConfirmStart (c : Fin 2) (s : State) : Outcome :=
  answer (match (s.acq c).queue with
    | d :: q =>
      if s.get (ACQ_C_STATUS_STATE c) = 1 ∧ (s.acq c).cand.isNone = true then
        ((s.mapAcq c (fun a => { a with queue := q })).showQueue c).settleIn c d
      else s
    | [] => s)

/-- SETTLE_END (R346): 2,048 pilot blocks have passed. -/
def execSettleEnd (c : Fin 2) (s : State) : Outcome :=
  answer (if s.stage c = 1 ∧ 2048 ≤ (s.acq c).blocks then s.toStage c 2 else s)

/-- PILOT_PASS (R346): 16 pilot blocks in a row have passed. -/
def execPilotPass (c : Fin 2) (s : State) : Outcome :=
  answer (match (s.acq c).cand with
    | some d =>
      if s.stage c = 2 ∧ 16 ≤ (s.acq c).pass then s.toStage c (if d.prof.noFill then 4 else 3) else s
    | none => s)

/-- FILL_HOLD (R346): the schedule is held. -/
def execFillHold (c : Fin 2) (s : State) : Outcome :=
  answer (if s.stage c = 3 ∧ (s.acq c).schedule.held = true then s.toStage c 4 else s)

/-- FILL_TIMEOUT (R346): 8,192 pilot blocks without a hold. -/
def execFillTimeout (c : Fin 2) (s : State) : Outcome :=
  answer (if s.stage c = 3 ∧ 8192 ≤ (s.acq c).blocks ∧ (s.acq c).schedule.held = false then s.reject c else s)

/-- A window of 1,024 trial offsets has been received and is tested (R347). -/
def State.blockWindow (s : State) (c zeros pick : Nat) (d : Detection) : State :=
  let a := s.acq c
  let r := bestOffset d.prof.fec (hardBits zeros a.coded) a.windows pick
  let s := (s.set (ACQ_C_BLOCK_SW c) (meanWeight d.prof.fec 32 r.1)).mapAcq c (fun a => { a with windows := a.windows + 1 })
  if weightOk d.prof.fec 32 r.1 a.swThr then (s.set (ACQ_C_BLOCK_OFFSET c) (1024 * a.windows + r.2)).toStage c 5
  else if 30 ≤ a.windows + 1 then s.reject c else s

/-- BLOCK_WINDOW (R347): `zeros` are the hard decisions of LLRs of zero, `pick` chooses among offsets of equal weight. -/
def execBlockWindow (c : Fin 2) (zeros : Nat) (pick : Fin 1024) (s : State) : Outcome :=
  answer (match (s.acq c).cand with
    | some d => if s.stage c = 4 ∧ windowBits (s.acq c).windows ≤ (s.acq c).coded.length then s.blockWindow c zeros pick d else s
    | none => s)

/-- The 64 blocks after the window that found the offset have been received and are checked (R346). -/
def State.blockCheck (s : State) (c zeros : Nat) (d : Detection) : State :=
  let a := s.acq c
  let sum := unsatisfiedFrom d.prof.fec (hardBits zeros a.coded) (30720 * 64 * a.windows + s.get (ACQ_C_BLOCK_OFFSET c)) 64
  let s := s.set (ACQ_C_BLOCK_SW c) (meanWeight d.prof.fec 64 sum)
  if weightOk d.prof.fec 64 sum a.swThr then s.lockIn c d else s.reject c

/-- CHECK_END (R346): `zeros` are the hard decisions of LLRs of zero. -/
def execCheckEnd (c : Fin 2) (zeros : Nat) (s : State) : Outcome :=
  answer (match (s.acq c).cand with
    | some d =>
      if s.stage c = 5 ∧ checkBits (s.acq c).windows (s.get (ACQ_C_BLOCK_OFFSET c)) ≤ (s.acq c).coded.length then
        s.blockCheck c zeros d
      else s
    | none => s)

/-- REJECT_EXPIRY (R344): the oldest zone's 10 ms end. -/
def execRejectExpiry (c : Fin 2) (s : State) : Outcome :=
  answer (s.mapAcq c (fun a => { a with rejects := a.rejects.drop 1 }))

/-- LOSS_OF_PILOTS (R350, R356). -/
def execLossOfPilots (c : Fin 2) (s : State) : Outcome :=
  answer (if 32 ≤ (s.acq c).lossRun then s.lockLost c 1 else s)

/-- SETUP_CHECK (R350): 1 ms after lock. -/
def execSetupCheck (c : Fin 2) (s : State) : Outcome :=
  answer (if (s.acq c).setupDue then
    (let s := s.mapAcq c (fun a => { a with setupDue := false })
     if s.on (DS_RXFMT_FILLSYNC c) ∧ (s.line c).reachedDD = true then s else s.lockLost c 3)
    else s)

/-- ACQ_RESTART (R356): ACQ_Cc_CTL written with RESTART 1. -/
def execAcqRestart (c : Fin 2) (s : State) : Outcome := answer (s.gated (adr_ACQ_C_CTL c) (fun s => s.acqRestart c))

/-- PREEMPT (R354). -/
def execPreempt (c : Fin 2) (s : State) : Outcome := answer (s.preempt c)

/-- ACQ_THRESH_WRITE (R360). -/
def execAcqThreshWrite (v : W32) (s : State) : Outcome := answer (s.gated adr_ACQ_THRESH (fun s => s.threshWrite v.toNat))

end Sys2Proof.Machine
end

