-- ==== Sys2Proof/Machine/RegTable.lean ====
section
/-! DEFINITION. The register tables of the spec, block by block (R567, R570 to R581): base address, counts and
strides, and each field with its access type, its reset value and whether it survives warm reset. -/

namespace Sys2Proof.Machine

/-- The registers of block GLB. -/
def glbRegs : List RegRow :=
[
  -- GLB_ID
  ⟨0x0, 1, 0x4, 1, 0x4,
    [⟨16, 16, .ro, 0x4812, false⟩, ⟨8, 8, .ro, 0xb0, false⟩, ⟨0, 8, .ro, 0, true⟩]⟩,
  -- GLB_FENCE
  ⟨0x20, 1, 0x4, 1, 0x4,
    [⟨1, 1, .ro, 0, false⟩, ⟨0, 1, .wo, 0, false⟩]⟩,
  -- GLB_STATUS
  ⟨0x4, 1, 0x4, 1, 0x4,
    [⟨31, 1, .ro, 0, false⟩, ⟨30, 1, .ro, 0, false⟩, ⟨29, 1, .ro, 0, false⟩, ⟨26, 3, .ro, 0, false⟩]⟩,
  -- GLB_CTL
  ⟨0x8, 1, 0x4, 1, 0x4,
    [⟨0, 1, .w1s, 0, false⟩]⟩,
  -- GLB_INT
  ⟨0x10, 1, 0x4, 1, 0x4,
    [⟨3, 1, .w1c, 0, false⟩, ⟨2, 1, .ro, 0, false⟩, ⟨1, 1, .ro, 0, false⟩, ⟨0, 1, .ro, 0, false⟩]⟩,
  -- GLB_INTEN
  ⟨0x14, 1, 0x4, 1, 0x4,
    [⟨3, 1, .rw, 0, false⟩, ⟨2, 1, .rw, 0, false⟩, ⟨1, 1, .rw, 0, false⟩, ⟨0, 1, .rw, 0, false⟩]⟩,
  -- GLB_I2CADDR
  ⟨0x18, 1, 0x4, 1, 0x4,
    [⟨0, 7, .rw, 0x5c, false⟩]⟩,
  -- GLB_OPTCTL
  ⟨0x30, 1, 0x4, 1, 0x4,
    [⟨31, 1, .rw, 0, true⟩, ⟨30, 1, .rw, 1, true⟩, ⟨29, 1, .rw, 0, true⟩, ⟨28, 1, .rw, 1, true⟩, ⟨24, 4, .ro, 5, false⟩, ⟨8, 6, .ro, 0, false⟩, ⟨0, 6, .ro, 0, false⟩]⟩,
  -- GLB_BOOTERR
  ⟨0x34, 1, 0x4, 1, 0x4,
    [⟨28, 4, .ro, 0, false⟩, ⟨26, 2, .ro, 0, false⟩]⟩,
  -- GLB_SCRATCH
  ⟨0xc, 1, 0x4, 1, 0x4,
    [⟨0, 32, .rw, 0, true⟩]⟩]

/-- The registers of block SLU. -/
def sluRegs : List RegRow :=
[
  -- SLU_LOAD
  ⟨0x80000, 1, 0x4, 1, 0x4,
    [⟨31, 1, .wo, 0, false⟩, ⟨0, 2, .rw, 0, false⟩]⟩,
  -- SLU_LOAD_STATUS
  ⟨0x80004, 1, 0x4, 1, 0x4,
    [⟨24, 8, .ro, 0, false⟩, ⟨16, 4, .w1c, 0, false⟩, ⟨12, 4, .ro, 0, false⟩, ⟨8, 4, .w1c, 0, false⟩, ⟨4, 4, .ro, 0, false⟩, ⟨0, 4, .ro, 0, true⟩]⟩,
  -- SLU_ENG_CTL
  ⟨0x80100, 4, 0x10, 1, 0x10,
    [⟨4, 1, .w1s, 0, false⟩, ⟨3, 1, .w1s, 0, false⟩, ⟨2, 1, .w1s, 0, false⟩, ⟨0, 2, .rw, 0, false⟩]⟩,
  -- SLU_ENG_STATUS
  ⟨0x80104, 4, 0x10, 1, 0x10,
    [⟨14, 18, .ro, 0, false⟩, ⟨4, 7, .ro, 0, false⟩, ⟨0, 3, .ro, 1, false⟩]⟩,
  -- SLU_ENG_FLT0
  ⟨0x80200, 4, 0x20, 1, 0x20,
    [⟨31, 1, .ro, 0, false⟩, ⟨30, 1, .ro, 0, false⟩, ⟨18, 8, .ro, 0, false⟩, ⟨0, 18, .ro, 0, false⟩]⟩,
  -- SLU_ENG_FLT1
  ⟨0x80204, 4, 0x20, 1, 0x20,
    [⟨16, 16, .ro, 0, false⟩, ⟨0, 16, .ro, 0, false⟩]⟩,
  -- SLU_ENG_MASKLO
  ⟨0x80208, 4, 0x20, 1, 0x20,
    [⟨0, 32, .ro, 0, false⟩]⟩,
  -- SLU_ENG_MASKHI
  ⟨0x8020c, 4, 0x20, 1, 0x20,
    [⟨0, 32, .ro, 0, false⟩]⟩,
  -- SLU_ENG_RESUME
  ⟨0x80108, 4, 0x10, 1, 0x10,
    [⟨0, 1, .rw, 0, false⟩]⟩]

/-- The registers of block MGT. -/
def mgtRegs : List RegRow :=
[
  -- MGT_LOAD
  ⟨0x90010, 1, 0x4, 1, 0x4,
    [⟨24, 8, .ro, 0, false⟩, ⟨16, 8, .ro, 0, false⟩, ⟨12, 4, .ro, 0, false⟩, ⟨8, 4, .ro, 0, false⟩, ⟨0, 8, .ro, 0, false⟩]⟩,
  -- MGT_INCOMPLETE
  ⟨0x90014, 1, 0x4, 1, 0x4,
    [⟨0, 32, .rc, 0, false⟩]⟩,
  -- MGT_TIME_STATUS
  ⟨0x90028, 1, 0x4, 1, 0x4,
    [⟨31, 1, .w1c, 0, true⟩, ⟨30, 1, .w1c, 0, true⟩, ⟨29, 1, .w1s, 0, false⟩, ⟨0, 2, .ro, 3, true⟩]⟩,
  -- MGT_TIME_UNCERT
  ⟨0x9002c, 1, 0x4, 1, 0x4,
    [⟨0, 32, .ro, 0, true⟩]⟩,
  -- MGT_MBXIN
  ⟨0x90100, 16, 0x4, 1, 0x4,
    [⟨0, 32, .rw, 0, false⟩]⟩,
  -- MGT_MBXOUT
  ⟨0x90140, 16, 0x4, 1, 0x4,
    [⟨0, 32, .ro, 0, false⟩]⟩,
  -- MGT_EVQ_REC
  ⟨0x90200, 4, 0x4, 1, 0x4,
    [⟨0, 32, .ro, 0, false⟩]⟩,
  -- MGT_MBXCTL
  ⟨0x90180, 1, 0x4, 1, 0x4,
    [⟨31, 1, .w1s, 0, false⟩, ⟨30, 1, .w1s, 0, false⟩]⟩,
  -- MGT_MBXSTAT
  ⟨0x90184, 1, 0x4, 1, 0x4,
    [⟨31, 1, .ro, 0, false⟩, ⟨16, 8, .ro, 0, false⟩, ⟨0, 5, .ro, 0, false⟩]⟩,
  -- MGT_EVQ_STAT
  ⟨0x90210, 1, 0x4, 1, 0x4,
    [⟨16, 16, .rc, 0, false⟩, ⟨0, 13, .ro, 0, false⟩]⟩,
  -- MGT_EVQ_CTL
  ⟨0x90214, 1, 0x4, 1, 0x4,
    [⟨0, 1, .w1s, 0, false⟩]⟩,
  -- MGT_TIMELO
  ⟨0x90020, 1, 0x4, 1, 0x4,
    [⟨0, 32, .ro, 0, true⟩]⟩,
  -- MGT_TIMEHI
  ⟨0x90024, 1, 0x4, 1, 0x4,
    [⟨0, 32, .ro, 0, true⟩]⟩]

/-- The registers of block HLN. -/
def hlnRegs : List RegRow :=
[
  -- HLN_LANE_CTL
  ⟨0x100000, 28, 0x40, 1, 0x40,
    [⟨5, 1, .w1s, 0, false⟩, ⟨4, 1, .rw, 0, false⟩, ⟨3, 1, .rw, 0, true⟩, ⟨2, 1, .rw, 0, true⟩, ⟨1, 1, .rw, 0, false⟩, ⟨0, 1, .rw, 0, false⟩]⟩,
  -- HLN_LANE_STATUS
  ⟨0x100004, 28, 0x40, 1, 0x40,
    [⟨24, 8, .ro, 0, false⟩, ⟨16, 5, .ro, 0, false⟩, ⟨7, 1, .ro, 0, false⟩, ⟨6, 1, .ro, 0, false⟩, ⟨5, 1, .ro, 0, false⟩, ⟨4, 1, .ro, 0, false⟩, ⟨0, 3, .ro, 0, false⟩]⟩,
  -- HLN_LANE_EVENT
  ⟨0x100008, 28, 0x40, 1, 0x40,
    [⟨4, 1, .w1c, 0, false⟩, ⟨3, 1, .w1c, 0, false⟩, ⟨2, 1, .w1c, 0, false⟩, ⟨1, 1, .w1c, 0, false⟩, ⟨0, 1, .w1c, 0, false⟩]⟩,
  -- HLN_LANE_ADAPT0
  ⟨0x10000c, 28, 0x40, 1, 0x40,
    [⟨16, 5, .ro, 0xc, false⟩, ⟨8, 8, .ro, 0, false⟩, ⟨0, 8, .ro, 0, false⟩]⟩,
  -- HLN_LANE_ADAPT1
  ⟨0x100010, 28, 0x40, 1, 0x40,
    [⟨0, 30, .ro, 0, false⟩]⟩,
  -- HLN_LANE_TXEQ
  ⟨0x100014, 28, 0x40, 1, 0x40,
    [⟨8, 8, .rw, 5, true⟩, ⟨0, 8, .rw, 0xa, true⟩]⟩,
  -- HLN_LANE_PRBS
  ⟨0x100018, 28, 0x40, 1, 0x40,
    [⟨31, 1, .w1s, 0, false⟩, ⟨30, 1, .ro, 0, false⟩, ⟨8, 3, .rw, 0, false⟩, ⟨7, 1, .rw, 0, false⟩, ⟨4, 3, .rw, 0, false⟩, ⟨3, 1, .rw, 0, false⟩]⟩,
  -- HLN_LANE_ERRLO
  ⟨0x10001c, 28, 0x40, 1, 0x40,
    [⟨0, 32, .ro, 0, false⟩]⟩,
  -- HLN_LANE_ERRHI
  ⟨0x100020, 28, 0x40, 1, 0x40,
    [⟨0, 16, .ro, 0, false⟩]⟩,
  -- HLN_LANE_BITLO
  ⟨0x100024, 28, 0x40, 1, 0x40,
    [⟨0, 32, .ro, 0, false⟩]⟩,
  -- HLN_LANE_BITHI
  ⟨0x100028, 28, 0x40, 1, 0x40,
    [⟨0, 16, .ro, 0, false⟩]⟩,
  -- HLN_GRP_STATUS
  ⟨0x101000, 28, 0x20, 1, 0x20,
    [⟨27, 5, .ro, 0, false⟩, ⟨23, 4, .ro, 0, false⟩, ⟨20, 3, .ro, 7, false⟩, ⟨0, 2, .ro, 0, false⟩]⟩,
  -- HLN_GRP_SKEW
  ⟨0x101004, 28, 0x20, 1, 0x20,
    [⟨16, 1, .ro, 0, false⟩, ⟨0, 16, .ro, 0, false⟩]⟩,
  -- HLN_GRP_EVENT
  ⟨0x101008, 28, 0x20, 1, 0x20,
    [⟨1, 1, .w1c, 0, false⟩, ⟨0, 1, .w1c, 0, false⟩]⟩,
  -- HLN_LOCKMAP
  ⟨0x102000, 1, 0x4, 1, 0x4,
    [⟨0, 28, .ro, 0, false⟩]⟩,
  -- HLN_THRESH
  ⟨0x102004, 1, 0x4, 1, 0x4,
    [⟨8, 8, .rw, 0x48, false⟩, ⟨0, 8, .rw, 0x3c, false⟩]⟩,
  -- HLN_GRP_CORRLO
  ⟨0x10100c, 28, 0x20, 1, 0x20,
    [⟨0, 32, .ro, 0, false⟩]⟩,
  -- HLN_GRP_CORRHI
  ⟨0x101010, 28, 0x20, 1, 0x20,
    [⟨0, 16, .ro, 0, false⟩]⟩,
  -- HLN_GRP_UNCLO
  ⟨0x101014, 28, 0x20, 1, 0x20,
    [⟨0, 32, .ro, 0, false⟩]⟩,
  -- HLN_GRP_UNCHI
  ⟨0x101018, 28, 0x20, 1, 0x20,
    [⟨0, 16, .ro, 0, false⟩]⟩]

/-- The registers of block TRB. -/
def trbRegs : List RegRow :=
[
  -- TRB_T_PLACE
  ⟨0x140000, 2, 0x8000, 1024, 0x20,
    [⟨31, 1, .ro, 0, false⟩, ⟨30, 1, .ro, 0, false⟩, ⟨29, 1, .ro, 0, false⟩, ⟨28, 1, .ro, 0, false⟩, ⟨27, 1, .ro, 0, false⟩, ⟨0, 15, .ro, 0, false⟩]⟩,
  -- TRB_T_RUNS
  ⟨0x140004, 2, 0x8000, 1024, 0x20,
    [⟨16, 16, .ro, 0, false⟩, ⟨0, 15, .ro, 0, false⟩]⟩,
  -- TRB_T_RATE
  ⟨0x140008, 2, 0x8000, 1024, 0x20,
    [⟨0, 32, .ro, 0, false⟩]⟩,
  -- TRB_T_EVENT
  ⟨0x14000c, 2, 0x8000, 1024, 0x20,
    [⟨4, 1, .w1c, 0, false⟩, ⟨3, 1, .w1c, 0, false⟩, ⟨2, 1, .w1c, 0, false⟩, ⟨1, 1, .w1c, 0, false⟩, ⟨0, 1, .w1c, 0, false⟩]⟩,
  -- TRB_T_INS
  ⟨0x140010, 2, 0x8000, 1024, 0x20,
    [⟨0, 32, .rc, 0, false⟩]⟩,
  -- TRB_T_DEL
  ⟨0x140014, 2, 0x8000, 1024, 0x20,
    [⟨0, 32, .rc, 0, false⟩]⟩,
  -- TRB_CMSEL
  ⟨0x160000, 1, 0x4, 1, 0x4,
    [⟨31, 1, .rw, 0, false⟩, ⟨30, 1, .rw, 0, false⟩, ⟨29, 1, .rw, 0, false⟩, ⟨0, 15, .rw, 0, false⟩]⟩,
  -- TRB_CMDATA
  ⟨0x160004, 1, 0x4, 1, 0x4,
    [⟨0, 32, .ro, 0, false⟩]⟩,
  -- TRB_PG
  ⟨0x160010, 4, 0x4, 1, 0x4,
    [⟨16, 16, .ro, 0, false⟩, ⟨15, 1, .ro, 0, false⟩, ⟨0, 15, .ro, 0, false⟩]⟩,
  -- TRB_MAPERR
  ⟨0x160020, 1, 0x4, 1, 0x4,
    [⟨16, 16, .rc, 0, false⟩, ⟨0, 16, .rc, 0, false⟩]⟩,
  -- TRB_DEFRAG
  ⟨0x160030, 1, 0x4, 1, 0x4,
    [⟨31, 1, .rw, 1, false⟩, ⟨16, 7, .rw, 0x32, false⟩, ⟨0, 16, .rc, 0, false⟩]⟩,
  -- TRB_BADCELL
  ⟨0x160040, 1, 0x4, 1, 0x4,
    [⟨0, 32, .rc, 0, false⟩]⟩]

/-- The registers of block CIP. -/
def cipRegs : List RegRow :=
[
  -- CIP_T_KEY
  ⟨0x180000, 2, 0x8000, 1024, 0x20,
    [⟨31, 1, .ro, 0, false⟩, ⟨20, 11, .ro, 0, false⟩, ⟨19, 1, .ro, 0, false⟩, ⟨18, 1, .ro, 0, false⟩, ⟨17, 1, .ro, 0, false⟩, ⟨0, 11, .ro, 0, false⟩]⟩,
  -- CIP_T_SEAL
  ⟨0x180004, 2, 0x8000, 1024, 0x20,
    [⟨30, 2, .ro, 0, false⟩, ⟨29, 1, .ro, 0, false⟩, ⟨0, 19, .ro, 0, false⟩]⟩,
  -- CIP_T_CTRLO
  ⟨0x180008, 2, 0x8000, 1024, 0x20,
    [⟨0, 32, .ro, 0, true⟩]⟩,
  -- CIP_T_CTRHI
  ⟨0x18000c, 2, 0x8000, 1024, 0x20,
    [⟨0, 24, .ro, 0, true⟩]⟩,
  -- CIP_T_OK
  ⟨0x180010, 2, 0x8000, 1024, 0x20,
    [⟨0, 32, .rc, 0, false⟩]⟩,
  -- CIP_T_FAIL
  ⟨0x180014, 2, 0x8000, 1024, 0x20,
    [⟨0, 32, .rc, 0, false⟩]⟩,
  -- CIP_T_EVENT
  ⟨0x180018, 2, 0x8000, 1024, 0x20,
    [⟨7, 1, .w1c, 0, false⟩, ⟨6, 1, .w1c, 0, false⟩, ⟨5, 1, .w1c, 0, false⟩, ⟨4, 1, .w1c, 0, false⟩, ⟨3, 1, .w1c, 0, false⟩, ⟨2, 1, .w1c, 0, false⟩, ⟨1, 1, .w1c, 0, false⟩, ⟨0, 1, .w1c, 0, false⟩]⟩,
  -- CIP_T_LAST
  ⟨0x18001c, 2, 0x8000, 1024, 0x20,
    [⟨28, 4, .ro, 0, false⟩, ⟨0, 24, .ro, 0, false⟩]⟩,
  -- CIP_LCS
  ⟨0x190000, 1, 0x4, 1, 0x4,
    [⟨16, 16, .wo, 0, false⟩, ⟨12, 4, .wo, 0, false⟩, ⟨11, 1, .ro, 0, false⟩, ⟨8, 3, .ro, 0, true⟩, ⟨0, 2, .ro, 0, true⟩]⟩,
  -- CIP_EPOCH
  ⟨0x190004, 1, 0x4, 1, 0x4,
    [⟨31, 1, .ro, 0, true⟩, ⟨30, 1, .ro, 0, true⟩, ⟨0, 24, .ro, 0, true⟩]⟩,
  -- CIP_TAMPER
  ⟨0x190008, 1, 0x4, 1, 0x4,
    [⟨16, 16, .ro, 0, true⟩, ⟨5, 1, .ro, 0, true⟩, ⟨4, 1, .ro, 0, true⟩, ⟨3, 1, .w1c, 0, true⟩, ⟨2, 1, .w1c, 0, true⟩, ⟨1, 1, .w1c, 0, true⟩, ⟨0, 1, .w1c, 0, true⟩]⟩,
  -- CIP_KSSEL
  ⟨0x190010, 1, 0x4, 1, 0x4,
    [⟨0, 11, .rw, 0, false⟩]⟩,
  -- CIP_KSINFO
  ⟨0x190014, 1, 0x4, 1, 0x4,
    [⟨30, 2, .ro, 0, false⟩, ⟨29, 1, .ro, 0, false⟩, ⟨28, 1, .ro, 0, false⟩, ⟨27, 1, .ro, 0, false⟩, ⟨26, 1, .ro, 0, false⟩]⟩,
  -- CIP_KSID
  ⟨0x190018, 1, 0x4, 1, 0x4,
    [⟨0, 32, .ro, 0, false⟩]⟩,
  -- CIP_KSCNTLO
  ⟨0x19001c, 1, 0x4, 1, 0x4,
    [⟨0, 32, .ro, 0, true⟩]⟩,
  -- CIP_KSCNTHI
  ⟨0x190020, 1, 0x4, 1, 0x4,
    [⟨0, 9, .ro, 0, true⟩]⟩,
  -- CIP_KEKBUF
  ⟨0x190040, 16, 0x4, 1, 0x4,
    [⟨0, 32, .wo, 0, false⟩]⟩,
  -- CIP_KEKCTL
  ⟨0x190080, 1, 0x4, 1, 0x4,
    [⟨31, 1, .w1s, 0, false⟩, ⟨30, 1, .rw, 0, false⟩, ⟨4, 3, .rw, 0, false⟩, ⟨0, 3, .rw, 0, false⟩]⟩,
  -- CIP_KEKSTAT
  ⟨0x190084, 1, 0x4, 1, 0x4,
    [⟨31, 1, .ro, 0, false⟩, ⟨0, 8, .ro, 0, false⟩]⟩]

/-- The registers of block FRM. -/
def frmRegs : List RegRow :=
[
  -- FRM_C_STATUS
  ⟨0x1c0000, 2, 0x100, 1, 0x100,
    [⟨31, 1, .ro, 1, false⟩, ⟨30, 1, .ro, 0, false⟩, ⟨10, 1, .ro, 0, false⟩, ⟨9, 1, .ro, 0, false⟩, ⟨8, 1, .ro, 0, false⟩, ⟨7, 1, .ro, 0, false⟩, ⟨6, 1, .ro, 0, false⟩, ⟨5, 1, .ro, 0, false⟩, ⟨4, 1, .ro, 0, false⟩, ⟨3, 1, .ro, 0, false⟩, ⟨2, 1, .ro, 0, false⟩, ⟨1, 1, .ro, 0, false⟩, ⟨0, 1, .ro, 0, false⟩]⟩,
  -- FRM_C_EVENT
  ⟨0x1c0004, 2, 0x100, 1, 0x100,
    [⟨10, 1, .w1c, 0, false⟩, ⟨9, 1, .w1c, 0, false⟩, ⟨8, 1, .w1c, 0, false⟩, ⟨7, 1, .w1c, 0, false⟩, ⟨6, 1, .w1c, 0, false⟩, ⟨5, 1, .w1c, 0, false⟩, ⟨4, 1, .w1c, 0, false⟩, ⟨3, 1, .w1c, 0, false⟩, ⟨2, 1, .w1c, 0, false⟩, ⟨1, 1, .w1c, 0, false⟩, ⟨0, 1, .w1c, 0, false⟩]⟩,
  -- FRM_C_ALIGN
  ⟨0x1c0008, 2, 0x100, 1, 0x100,
    [⟨31, 1, .ro, 0, false⟩, ⟨28, 3, .ro, 0, false⟩, ⟨24, 4, .ro, 0, false⟩, ⟨0, 19, .ro, 0, false⟩]⟩,
  -- FRM_C_CANDS
  ⟨0x1c000c, 2, 0x100, 1, 0x100,
    [⟨0, 32, .rc, 0, false⟩]⟩,
  -- FRM_C_OCORR
  ⟨0x1c0018, 2, 0x100, 1, 0x100,
    [⟨0, 32, .rc, 0, false⟩]⟩,
  -- FRM_C_OUNC
  ⟨0x1c001c, 2, 0x100, 1, 0x100,
    [⟨0, 32, .rc, 0, false⟩]⟩,
  -- FRM_C_ES
  ⟨0x1c0020, 2, 0x100, 1, 0x100,
    [⟨0, 32, .ro, 0, false⟩]⟩,
  -- FRM_C_SES
  ⟨0x1c0024, 2, 0x100, 1, 0x100,
    [⟨0, 32, .ro, 0, false⟩]⟩,
  -- FRM_C_UAS
  ⟨0x1c0028, 2, 0x100, 1, 0x100,
    [⟨0, 32, .ro, 0, false⟩]⟩,
  -- FRM_C_FES
  ⟨0x1c002c, 2, 0x100, 1, 0x100,
    [⟨0, 32, .ro, 0, false⟩]⟩,
  -- FRM_C_FSES
  ⟨0x1c0030, 2, 0x100, 1, 0x100,
    [⟨0, 32, .ro, 0, false⟩]⟩,
  -- FRM_C_FUAS
  ⟨0x1c0034, 2, 0x100, 1, 0x100,
    [⟨0, 32, .ro, 0, false⟩]⟩,
  -- FRM_C_DEG
  ⟨0x1c0038, 2, 0x100, 1, 0x100,
    [⟨24, 4, .rw, 7, false⟩, ⟨0, 20, .rw, 0x1e85, false⟩]⟩,
  -- FRM_C_APS
  ⟨0x1c003c, 2, 0x100, 1, 0x100,
    [⟨31, 1, .ro, 0, false⟩, ⟨0, 8, .ro, 0, false⟩]⟩,
  -- FRM_C_RXSRCLO
  ⟨0x1c0040, 2, 0x100, 1, 0x100,
    [⟨0, 32, .ro, 0, true⟩]⟩,
  -- FRM_C_RXSRCHI
  ⟨0x1c0044, 2, 0x100, 1, 0x100,
    [⟨0, 32, .ro, 0, true⟩]⟩,
  -- FRM_C_EXPLO
  ⟨0x1c0048, 2, 0x100, 1, 0x100,
    [⟨0, 32, .rw, 0, true⟩]⟩,
  -- FRM_C_EXPHI
  ⟨0x1c004c, 2, 0x100, 1, 0x100,
    [⟨0, 32, .rw, 0, true⟩]⟩,
  -- FRM_C_TXSRCLO
  ⟨0x1c0050, 2, 0x100, 1, 0x100,
    [⟨0, 32, .rw, 0, true⟩]⟩,
  -- FRM_C_TXSRCHI
  ⟨0x1c0054, 2, 0x100, 1, 0x100,
    [⟨0, 32, .rw, 0, true⟩]⟩] ++ [
  -- FRM_C_CTL
  ⟨0x1c0058, 2, 0x100, 1, 0x100,
    [⟨0, 1, .rw, 0, true⟩]⟩,
  -- FRM_C_SFN
  ⟨0x1c005c, 2, 0x100, 1, 0x100,
    [⟨0, 32, .ro, 0, false⟩]⟩,
  -- FRM_CPG_STATUS
  ⟨0x1c0200, 1, 0x4, 1, 0x4,
    [⟨28, 4, .ro, 0, false⟩, ⟨27, 1, .ro, 0, false⟩, ⟨26, 1, .ro, 0, false⟩, ⟨25, 1, .ro, 0, false⟩, ⟨24, 1, .ro, 0, false⟩, ⟨20, 4, .ro, 0, false⟩, ⟨19, 1, .ro, 0, false⟩, ⟨18, 1, .ro, 0, false⟩, ⟨10, 8, .ro, 0, false⟩, ⟨0, 10, .ro, 0, false⟩]⟩,
  -- FRM_TP_STATUS
  ⟨0x1d0000, 1024, 0x10, 1, 0x10,
    [⟨28, 4, .ro, 0, false⟩, ⟨27, 1, .ro, 0, false⟩, ⟨26, 1, .ro, 0, false⟩, ⟨25, 1, .ro, 0, false⟩, ⟨24, 1, .ro, 0, false⟩, ⟨20, 4, .ro, 0, false⟩, ⟨19, 1, .ro, 0, false⟩, ⟨18, 1, .ro, 0, false⟩, ⟨10, 8, .ro, 0, false⟩, ⟨0, 10, .ro, 0, false⟩]⟩,
  -- FRM_CPG_DD
  ⟨0x1c0204, 1, 0x4, 1, 0x4,
    [⟨0, 32, .ro, 0x80000000, false⟩]⟩,
  -- FRM_TP_DD
  ⟨0x1d0004, 1024, 0x10, 1, 0x10,
    [⟨0, 32, .ro, 0x80000000, false⟩]⟩,
  -- FRM_CPG_SW
  ⟨0x1c0208, 1, 0x4, 1, 0x4,
    [⟨0, 32, .rc, 0, false⟩]⟩,
  -- FRM_TP_SW
  ⟨0x1d0008, 1024, 0x10, 1, 0x10,
    [⟨0, 32, .rc, 0, false⟩]⟩,
  -- FRM_CPG_EVENT
  ⟨0x1c020c, 1, 0x4, 1, 0x4,
    [⟨3, 1, .w1c, 0, false⟩, ⟨2, 1, .w1c, 0, false⟩, ⟨1, 1, .w1c, 0, false⟩, ⟨0, 1, .w1c, 0, false⟩]⟩,
  -- FRM_TP_EVENT
  ⟨0x1d000c, 1024, 0x10, 1, 0x10,
    [⟨3, 1, .w1c, 0, false⟩, ⟨2, 1, .w1c, 0, false⟩, ⟨1, 1, .w1c, 0, false⟩, ⟨0, 1, .w1c, 0, false⟩]⟩,
  -- FRM_C_EFLO
  ⟨0x1c0010, 2, 0x100, 1, 0x100,
    [⟨0, 32, .ro, 0, false⟩]⟩,
  -- FRM_C_EFHI
  ⟨0x1c0014, 2, 0x100, 1, 0x100,
    [⟨0, 16, .ro, 0, false⟩]⟩]

/-- The registers of block FEC. -/
def fecRegs : List RegRow :=
[
  -- FEC_C_STATUS
  ⟨0x200000, 2, 0x100, 1, 0x100,
    [⟨31, 1, .ro, 0, false⟩, ⟨30, 1, .ro, 1, false⟩, ⟨29, 1, .ro, 0, false⟩, ⟨28, 1, .ro, 0, false⟩, ⟨26, 2, .ro, 0, false⟩, ⟨21, 5, .ro, 0, false⟩, ⟨13, 8, .ro, 0, false⟩, ⟨5, 8, .ro, 0, false⟩]⟩,
  -- FEC_C_EVENT
  ⟨0x200004, 2, 0x100, 1, 0x100,
    [⟨3, 1, .w1c, 0, false⟩, ⟨2, 1, .w1c, 0, false⟩, ⟨1, 1, .w1c, 0, false⟩, ⟨0, 1, .w1c, 0, false⟩]⟩,
  -- FEC_C_BER
  ⟨0x200030, 2, 0x100, 1, 0x100,
    [⟨0, 24, .ro, 0xffffff, false⟩]⟩,
  -- FEC_C_MARGIN
  ⟨0x200034, 2, 0x100, 1, 0x100,
    [⟨0, 16, .ro, 0x8000, false⟩]⟩,
  -- FEC_C_HISTSEL
  ⟨0x200038, 2, 0x100, 1, 0x100,
    [⟨0, 5, .rw, 0, false⟩]⟩,
  -- FEC_C_HISTLO
  ⟨0x20003c, 2, 0x100, 1, 0x100,
    [⟨0, 32, .ro, 0, false⟩]⟩,
  -- FEC_C_HISTHI
  ⟨0x200040, 2, 0x100, 1, 0x100,
    [⟨0, 16, .ro, 0, false⟩]⟩,
  -- FEC_C_SF
  ⟨0x200044, 2, 0x100, 1, 0x100,
    [⟨8, 8, .rw, 8, true⟩, ⟨0, 8, .rw, 8, true⟩]⟩,
  -- FEC_C_SD
  ⟨0x200048, 2, 0x100, 1, 0x100,
    [⟨24, 8, .rw, 0x50, true⟩, ⟨16, 8, .rw, 0x46, true⟩, ⟨8, 8, .rw, 1, true⟩, ⟨0, 4, .rw, 3, true⟩]⟩,
  -- FEC_C_CTL
  ⟨0x20004c, 2, 0x100, 1, 0x100,
    [⟨0, 1, .w1s, 0, false⟩]⟩,
  -- FEC_POOL
  ⟨0x200800, 1, 0x4, 1, 0x4,
    [⟨28, 4, .ro, 0, false⟩, ⟨22, 6, .ro, 0x28, false⟩, ⟨17, 5, .ro, 0x18, false⟩, ⟨0, 12, .ro, 0x910, false⟩]⟩,
  -- FEC_ALLOC
  ⟨0x200804, 1, 0x4, 1, 0x4,
    [⟨8, 5, .rw, 6, true⟩, ⟨0, 4, .rw, 3, true⟩]⟩,
  -- FEC_SHARE
  ⟨0x200808, 1, 0x4, 1, 0x4,
    [⟨16, 10, .ro, 0, false⟩, ⟨0, 10, .ro, 0, false⟩]⟩,
  -- FEC_GEVENT
  ⟨0x20080c, 1, 0x4, 1, 0x4,
    [⟨1, 1, .w1c, 0, false⟩, ⟨0, 1, .w1c, 0, false⟩]⟩,
  -- FEC_C_C1LO
  ⟨0x200008, 2, 0x100, 1, 0x100,
    [⟨0, 32, .ro, 0, false⟩]⟩,
  -- FEC_C_C1HI
  ⟨0x20000c, 2, 0x100, 1, 0x100,
    [⟨0, 16, .ro, 0, false⟩]⟩,
  -- FEC_C_C0LO
  ⟨0x200010, 2, 0x100, 1, 0x100,
    [⟨0, 32, .ro, 0, false⟩]⟩,
  -- FEC_C_C0HI
  ⟨0x200014, 2, 0x100, 1, 0x100,
    [⟨0, 16, .ro, 0, false⟩]⟩,
  -- FEC_C_BLKLO
  ⟨0x200018, 2, 0x100, 1, 0x100,
    [⟨0, 32, .ro, 0, false⟩]⟩,
  -- FEC_C_BLKHI
  ⟨0x20001c, 2, 0x100, 1, 0x100,
    [⟨0, 16, .ro, 0, false⟩]⟩] ++ [
  -- FEC_C_UNCLO
  ⟨0x200020, 2, 0x100, 1, 0x100,
    [⟨0, 32, .ro, 0, false⟩]⟩,
  -- FEC_C_UNCHI
  ⟨0x200024, 2, 0x100, 1, 0x100,
    [⟨0, 16, .ro, 0, false⟩]⟩,
  -- FEC_C_CUTLO
  ⟨0x200028, 2, 0x100, 1, 0x100,
    [⟨0, 32, .ro, 0, false⟩]⟩,
  -- FEC_C_CUTHI
  ⟨0x20002c, 2, 0x100, 1, 0x100,
    [⟨0, 16, .ro, 0, false⟩]⟩]

/-- The registers of block DSP. -/
def dspRegs : List RegRow :=
[
  -- DS_TXFMT
  ⟨0x240000, 2, 0x40000, 1, 0x40000,
    [⟨30, 2, .ro, 0, false⟩, ⟨23, 7, .ro, 0, false⟩, ⟨13, 10, .ro, 0, false⟩]⟩,
  -- DS_RXFMT
  ⟨0x240004, 2, 0x40000, 1, 0x40000,
    [⟨30, 2, .ro, 0, false⟩, ⟨23, 7, .ro, 0, false⟩, ⟨0, 1, .ro, 0, false⟩]⟩,
  -- DS_FILL
  ⟨0x240008, 2, 0x40000, 1, 0x40000,
    [⟨16, 16, .ro, 0, false⟩, ⟨0, 16, .ro, 0, false⟩]⟩,
  -- DS_TXCTL
  ⟨0x24000c, 2, 0x40000, 1, 0x40000,
    [⟨24, 8, .rw, 0x40, true⟩, ⟨1, 1, .rw, 0, false⟩, ⟨0, 1, .rw, 0, false⟩]⟩,
  -- DS_CDEST
  ⟨0x240010, 2, 0x40000, 1, 0x40000,
    [⟨12, 20, .ro, 0, false⟩, ⟨10, 2, .ro, 0, false⟩]⟩,
  -- DS_PMD
  ⟨0x240014, 2, 0x40000, 1, 0x40000,
    [⟨20, 12, .ro, 0, false⟩, ⟨12, 8, .ro, 0, false⟩, ⟨0, 12, .ro, 0, false⟩]⟩,
  -- DS_SNR
  ⟨0x240018, 2, 0x40000, 1, 0x40000,
    [⟨22, 10, .ro, 0, false⟩, ⟨12, 10, .ro, 0, false⟩, ⟨2, 10, .ro, 0, false⟩]⟩,
  -- DS_OSNRCAL
  ⟨0x24001c, 2, 0x40000, 1, 0x40000,
    [⟨0, 10, .rw, 0x190, true⟩]⟩,
  -- DS_FOFS
  ⟨0x240020, 2, 0x40000, 1, 0x40000,
    [⟨16, 16, .ro, 0, false⟩, ⟨0, 16, .ro, 0, false⟩]⟩,
  -- DS_LSTCTL
  ⟨0x240024, 2, 0x40000, 1, 0x40000,
    [⟨31, 1, .rw, 1, true⟩, ⟨27, 4, .rw, 4, true⟩, ⟨19, 8, .rw, 5, true⟩, ⟨12, 7, .rw, 0xa, true⟩, ⟨4, 8, .rw, 0xa, true⟩, ⟨0, 4, .rw, 5, true⟩]⟩,
  -- DS_EQCTL
  ⟨0x240028, 2, 0x40000, 1, 0x40000,
    [⟨8, 1, .w1s, 0, false⟩, ⟨7, 1, .rw, 0, false⟩, ⟨4, 3, .rw, 2, true⟩, ⟨0, 4, .rw, 0, true⟩]⟩,
  -- DS_EQSTAT
  ⟨0x24002c, 2, 0x40000, 1, 0x40000,
    [⟨24, 8, .rc, 0, false⟩, ⟨0, 2, .ro, 0, false⟩]⟩,
  -- DS_TAPSEL
  ⟨0x240030, 2, 0x40000, 1, 0x40000,
    [⟨6, 2, .rw, 0, false⟩, ⟨0, 6, .rw, 0, false⟩]⟩,
  -- DS_TAPDATA
  ⟨0x240034, 2, 0x40000, 1, 0x40000,
    [⟨16, 16, .ro, 0, false⟩, ⟨0, 16, .ro, 0, false⟩]⟩,
  -- DS_NLC
  ⟨0x240038, 2, 0x40000, 1, 0x40000,
    [⟨24, 8, .ro, 0, false⟩, ⟨16, 8, .ro, 0, false⟩, ⟨8, 8, .rw, 0x40, true⟩, ⟨7, 1, .rw, 1, true⟩]⟩,
  -- DS_CR
  ⟨0x24003c, 2, 0x40000, 1, 0x40000,
    [⟨0, 4, .rw, 7, true⟩]⟩,
  -- DS_CSLIP
  ⟨0x240040, 2, 0x40000, 1, 0x40000,
    [⟨0, 32, .rc, 0, false⟩]⟩,
  -- DS_TIM
  ⟨0x240044, 2, 0x40000, 1, 0x40000,
    [⟨16, 16, .ro, 0, false⟩, ⟨15, 1, .ro, 0, false⟩]⟩,
  -- DS_EVENT
  ⟨0x240048, 2, 0x40000, 1, 0x40000,
    [⟨5, 1, .w1c, 0, false⟩, ⟨4, 1, .w1c, 0, false⟩, ⟨3, 1, .w1c, 0, false⟩, ⟨2, 1, .w1c, 0, false⟩, ⟨1, 1, .w1c, 0, false⟩, ⟨0, 1, .w1c, 0, false⟩]⟩]

/-- The registers of block ACQ. -/
def acqRegs : List RegRow :=
[
  -- ACQ_C_STATUS
  ⟨0x2c0000, 2, 0x100, 1, 0x100,
    [⟨31, 1, .ro, 0, false⟩, ⟨28, 3, .ro, 0, false⟩, ⟨25, 3, .ro, 7, false⟩, ⟨23, 2, .ro, 0, false⟩, ⟨16, 5, .ro, 0, false⟩, ⟨0, 2, .ro, 0, false⟩]⟩,
  -- ACQ_C_FOFS
  ⟨0x2c0004, 2, 0x100, 1, 0x100,
    [⟨16, 16, .ro, 0, false⟩, ⟨0, 16, .ro, 0, false⟩]⟩,
  -- ACQ_C_CDSCAN
  ⟨0x2c0008, 2, 0x100, 1, 0x100,
    [⟨12, 20, .ro, 0, false⟩]⟩,
  -- ACQ_C_METRIC
  ⟨0x2c000c, 2, 0x100, 1, 0x100,
    [⟨16, 16, .ro, 0x8000, false⟩, ⟨0, 16, .ro, 0x8000, false⟩]⟩,
  -- ACQ_C_BLOCK
  ⟨0x2c0010, 2, 0x100, 1, 0x100,
    [⟨24, 8, .ro, 0, false⟩, ⟨0, 15, .ro, 0, false⟩]⟩,
  -- ACQ_C_LOCKS
  ⟨0x2c0014, 2, 0x100, 1, 0x100,
    [⟨0, 32, .rc, 0, false⟩]⟩,
  -- ACQ_C_REJECT
  ⟨0x2c0018, 2, 0x100, 1, 0x100,
    [⟨24, 8, .rc, 0, false⟩, ⟨16, 8, .rc, 0, false⟩, ⟨8, 8, .rc, 0, false⟩, ⟨0, 8, .rc, 0, false⟩]⟩,
  -- ACQ_C_LOSS
  ⟨0x2c001c, 2, 0x100, 1, 0x100,
    [⟨16, 16, .rc, 0, false⟩, ⟨0, 16, .rc, 0, false⟩]⟩,
  -- ACQ_C_LOCKTIME
  ⟨0x2c0020, 2, 0x100, 1, 0x100,
    [⟨0, 32, .ro, 0, false⟩]⟩,
  -- ACQ_C_CTL
  ⟨0x2c0024, 2, 0x100, 1, 0x100,
    [⟨1, 1, .w1s, 0, false⟩, ⟨0, 1, .rw, 1, true⟩]⟩,
  -- ACQ_C_EVENT
  ⟨0x2c0028, 2, 0x100, 1, 0x100,
    [⟨5, 1, .w1c, 0, false⟩, ⟨4, 1, .w1c, 0, false⟩, ⟨3, 1, .w1c, 0, false⟩, ⟨2, 1, .w1c, 0, false⟩, ⟨1, 1, .w1c, 0, false⟩, ⟨0, 1, .w1c, 0, false⟩]⟩,
  -- ACQ_PROF
  ⟨0x2c0400, 4, 0x4, 1, 0x4,
    [⟨22, 10, .rw, 0, true⟩, ⟨17, 5, .rw, 0, true⟩, ⟨15, 2, .rw, 0, true⟩, ⟨13, 2, .rw, 0, true⟩]⟩,
  -- ACQ_THRESH
  ⟨0x2c0410, 1, 0x4, 1, 0x4,
    [⟨24, 8, .rw, 0x28, true⟩, ⟨16, 8, .rw, 0x3c, true⟩, ⟨8, 8, .rw, 0x3c, true⟩, ⟨0, 8, .rw, 0x66, true⟩]⟩]

/-- The registers of block CNV. -/
def cnvRegs : List RegRow :=
[
  -- CNV_C_STATUS
  ⟨0x300000, 2, 0x100, 1, 0x100,
    [⟨31, 1, .ro, 0, false⟩, ⟨30, 1, .ro, 0, false⟩, ⟨29, 1, .ro, 0, false⟩, ⟨28, 1, .ro, 1, false⟩, ⟨27, 1, .ro, 1, false⟩, ⟨25, 2, .ro, 0, false⟩, ⟨23, 2, .ro, 0, false⟩, ⟨0, 10, .ro, 0, false⟩]⟩,
  -- CNV_C_CALCTL
  ⟨0x300004, 2, 0x100, 1, 0x100,
    [⟨24, 8, .rw, 0xa, true⟩, ⟨4, 1, .rw, 1, true⟩, ⟨3, 1, .rw, 1, true⟩, ⟨2, 1, .rw, 0, false⟩, ⟨1, 1, .rw, 0, true⟩]⟩,
  -- CNV_C_MAP
  ⟨0x300008, 2, 0x100, 1, 0x100,
    [⟨11, 1, .rw, 0, true⟩, ⟨10, 1, .rw, 0, true⟩, ⟨9, 1, .rw, 0, true⟩, ⟨8, 1, .rw, 0, true⟩, ⟨4, 4, .rw, 0, true⟩, ⟨0, 4, .rw, 0, true⟩]⟩,
  -- CNV_C_EVENT
  ⟨0x30000c, 2, 0x100, 1, 0x100,
    [⟨3, 1, .w1c, 0, false⟩, ⟨2, 1, .w1c, 0, false⟩, ⟨1, 1, .w1c, 0, false⟩, ⟨0, 1, .w1c, 0, false⟩]⟩,
  -- CNV_C_COUNT
  ⟨0x300010, 2, 0x100, 1, 0x100,
    [⟨24, 8, .rc, 0, false⟩, ⟨16, 8, .rc, 0, false⟩, ⟨8, 8, .rc, 0, false⟩, ⟨0, 8, .rc, 0, false⟩]⟩,
  -- CNV_C_DIFF
  ⟨0x300014, 2, 0x100, 1, 0x100,
    [⟨31, 1, .ro, 0, false⟩, ⟨28, 3, .ro, 0, false⟩, ⟨26, 2, .ro, 0, false⟩, ⟨0, 16, .ro, 0, false⟩]⟩,
  -- CNV_C_TXSKEW
  ⟨0x300020, 2, 0x100, 4, 0x4,
    [⟨19, 13, .rw, 0, true⟩, ⟨0, 13, .ro, 0, false⟩]⟩,
  -- CNV_C_RXSKEW
  ⟨0x300030, 2, 0x100, 4, 0x4,
    [⟨0, 13, .ro, 0, false⟩]⟩,
  -- CNV_C_TXIQ
  ⟨0x300040, 2, 0x100, 1, 0x100,
    [⟨22, 10, .ro, 0, false⟩, ⟨12, 10, .ro, 0, false⟩]⟩,
  -- CNV_C_RXIQ
  ⟨0x300044, 2, 0x100, 1, 0x100,
    [⟨22, 10, .ro, 0, false⟩, ⟨12, 10, .ro, 0, false⟩]⟩,
  -- CNV_C_RXPH
  ⟨0x300048, 2, 0x100, 1, 0x100,
    [⟨21, 11, .ro, 0, false⟩, ⟨10, 11, .ro, 0, false⟩]⟩,
  -- CNV_C_TABSEL
  ⟨0x300050, 2, 0x100, 1, 0x100,
    [⟨10, 1, .rw, 0, false⟩, ⟨8, 2, .rw, 0, false⟩, ⟨0, 8, .rw, 0, false⟩]⟩,
  -- CNV_C_TABDATA
  ⟨0x300054, 2, 0x100, 1, 0x100,
    [⟨0, 16, .ro, 0, false⟩]⟩,
  -- CNV_SETS
  ⟨0x300800, 1, 0x4, 1, 0x4,
    [⟨0, 32, .ro, 0, true⟩]⟩,
  -- CNV_BINSEL
  ⟨0x300804, 1, 0x4, 1, 0x4,
    [⟨3, 2, .rw, 0, false⟩, ⟨0, 3, .rw, 0, false⟩]⟩,
  -- CNV_BININFO
  ⟨0x300808, 1, 0x4, 1, 0x4,
    [⟨22, 10, .ro, 0, false⟩, ⟨21, 1, .ro, 0, false⟩, ⟨20, 1, .ro, 0, false⟩]⟩,
  -- CNV_MTP
  ⟨0x30080c, 1, 0x4, 1, 0x4,
    [⟨16, 16, .ro, 0, true⟩, ⟨14, 2, .ro, 0, true⟩, ⟨11, 3, .ro, 0, false⟩, ⟨8, 3, .ro, 5, true⟩, ⟨7, 1, .ro, 0, true⟩, ⟨6, 1, .w1c, 0, false⟩, ⟨5, 1, .w1c, 0, false⟩]⟩,
  -- CNV_STCTL
  ⟨0x300810, 1, 0x4, 1, 0x4,
    [⟨31, 1, .w1s, 0, false⟩, ⟨30, 1, .rw, 1, true⟩, ⟨0, 8, .rw, 0x18, true⟩]⟩,
  -- CNV_MTPCNT
  ⟨0x300814, 1, 0x4, 1, 0x4,
    [⟨16, 16, .ro, 0, true⟩, ⟨0, 16, .ro, 0, true⟩]⟩]

/-- The registers of block TIM. -/
def timRegs : List RegRow :=
[
  -- TIM_STATUS
  ⟨0x50000, 1, 0x4, 1, 0x4,
    [⟨29, 3, .ro, 0, false⟩, ⟨27, 2, .ro, 0, true⟩, ⟨24, 3, .ro, 7, true⟩, ⟨21, 3, .ro, 0, true⟩, ⟨20, 1, .ro, 0, true⟩, ⟨19, 1, .ro, 0, true⟩, ⟨18, 1, .ro, 0, true⟩, ⟨17, 1, .ro, 0, true⟩, ⟨16, 1, .ro, 0, true⟩]⟩,
  -- TIM_EVENT
  ⟨0x50004, 1, 0x4, 1, 0x4,
    [⟨7, 1, .w1c, 0, false⟩, ⟨6, 1, .w1c, 0, false⟩, ⟨5, 1, .w1c, 0, false⟩, ⟨4, 1, .w1c, 0, false⟩, ⟨3, 1, .w1c, 0, false⟩, ⟨2, 1, .w1c, 0, false⟩, ⟨1, 1, .w1c, 0, false⟩, ⟨0, 1, .w1c, 0, false⟩]⟩,
  -- TIM_IN
  ⟨0x50010, 7, 0x4, 1, 0x4,
    [⟨30, 2, .ro, 0, true⟩, ⟨29, 1, .ro, 0, true⟩, ⟨28, 1, .ro, 0, true⟩, ⟨26, 2, .ro, 0, true⟩, ⟨0, 12, .ro, 0, true⟩]⟩,
  -- TIM_DEV
  ⟨0x50030, 7, 0x4, 1, 0x4,
    [⟨16, 16, .ro, 0, false⟩, ⟨0, 16, .ro, 0, false⟩]⟩,
  -- TIM_HOLD
  ⟨0x50050, 1, 0x4, 1, 0x4,
    [⟨16, 16, .ro, 0, true⟩, ⟨0, 10, .ro, 0, true⟩]⟩,
  -- TIM_PULL
  ⟨0x50054, 1, 0x4, 1, 0x4,
    [⟨16, 16, .ro, 0, true⟩]⟩,
  -- TIM_CTL
  ⟨0x50058, 1, 0x4, 1, 0x4,
    [⟨16, 16, .rw, 0x64, true⟩, ⟨8, 8, .rw, 5, true⟩]⟩,
  -- TIM_OUT
  ⟨0x5005c, 1, 0x4, 1, 0x4,
    [⟨31, 1, .rw, 0, true⟩, ⟨27, 4, .rw, 2, true⟩, ⟨26, 1, .rw, 0, true⟩, ⟨22, 4, .rw, 2, true⟩, ⟨21, 1, .rw, 0, true⟩, ⟨20, 1, .rw, 1, true⟩]⟩,
  -- TIM_PHASE
  ⟨0x50060, 1, 0x4, 1, 0x4,
    [⟨0, 32, .ro, 0, true⟩]⟩,
  -- TIM_RINGPH
  ⟨0x50064, 1, 0x4, 1, 0x4,
    [⟨0, 32, .ro, 0x80000000, true⟩]⟩,
  -- TIM_RINGCTL
  ⟨0x50080, 1, 0x4, 1, 0x4,
    [⟨31, 1, .rw, 0, true⟩, ⟨30, 1, .rw, 0, true⟩, ⟨29, 1, .rw, 0, true⟩, ⟨28, 1, .rw, 0, true⟩, ⟨24, 4, .rw, 0, true⟩, ⟨20, 4, .rw, 0, true⟩, ⟨0, 16, .rw, 0, true⟩]⟩,
  -- TIM_RINGSTAT
  ⟨0x50084, 1, 0x4, 1, 0x4,
    [⟨31, 1, .ro, 0, false⟩, ⟨30, 1, .ro, 0, false⟩, ⟨29, 1, .w1c, 0, false⟩, ⟨24, 5, .ro, 0, false⟩, ⟨0, 16, .ro, 0, false⟩]⟩,
  -- TIM_RINGERR
  ⟨0x50088, 1, 0x4, 1, 0x4,
    [⟨16, 16, .rc, 0, false⟩, ⟨0, 16, .rc, 0, false⟩]⟩,
  -- TIM_PEER
  ⟨0x500c0, 16, 0x4, 1, 0x4,
    [⟨31, 1, .ro, 0, false⟩, ⟨30, 1, .ro, 0, false⟩, ⟨29, 1, .ro, 0, false⟩, ⟨28, 1, .ro, 0, false⟩, ⟨27, 1, .ro, 0, false⟩, ⟨26, 1, .ro, 0, false⟩, ⟨22, 4, .ro, 0, false⟩]⟩]

/-- The registers of block MEM. -/
def memRegs : List RegRow :=
[
  -- MEM_BANK_STATUS
  ⟨0x60000, 192, 0x4, 1, 0x4,
    [⟨24, 8, .ro, 0, true⟩, ⟨23, 1, .ro, 0, true⟩, ⟨22, 1, .ro, 0, true⟩, ⟨21, 1, .ro, 0, true⟩, ⟨20, 1, .ro, 0, false⟩, ⟨19, 1, .ro, 0, true⟩, ⟨15, 4, .ro, 0, true⟩, ⟨8, 7, .ro, 0, true⟩]⟩,
  -- MEM_FREE
  ⟨0x60400, 1, 0x4, 1, 0x4,
    [⟨16, 8, .ro, 0, true⟩, ⟨8, 8, .ro, 0, true⟩, ⟨0, 8, .ro, 0, false⟩]⟩,
  -- MEM_CLAIM
  ⟨0x60404, 1, 0x4, 1, 0x4,
    [⟨31, 1, .w1s, 0, false⟩, ⟨30, 1, .rw, 0, false⟩, ⟨0, 8, .rw, 0, false⟩]⟩,
  -- MEM_CLAIMSTAT
  ⟨0x60408, 1, 0x4, 1, 0x4,
    [⟨31, 1, .ro, 0, false⟩, ⟨0, 2, .ro, 0, false⟩]⟩,
  -- MEM_ACCCTL
  ⟨0x60410, 1, 0x4, 1, 0x4,
    [⟨31, 1, .w1s, 0, false⟩, ⟨30, 1, .rw, 0, false⟩, ⟨29, 1, .rw, 0, false⟩, ⟨16, 8, .rw, 0, false⟩, ⟨0, 16, .rw, 0, false⟩]⟩,
  -- MEM_ACCDLO
  ⟨0x60414, 1, 0x4, 1, 0x4,
    [⟨0, 32, .rw, 0, false⟩]⟩,
  -- MEM_ACCDHI
  ⟨0x60418, 1, 0x4, 1, 0x4,
    [⟨0, 32, .rw, 0, false⟩]⟩,
  -- MEM_ACCSTAT
  ⟨0x6041c, 1, 0x4, 1, 0x4,
    [⟨31, 1, .ro, 0, false⟩, ⟨4, 1, .ro, 0, false⟩, ⟨3, 1, .ro, 0, false⟩, ⟨2, 1, .ro, 0, false⟩, ⟨1, 1, .ro, 0, false⟩, ⟨0, 1, .ro, 0, false⟩]⟩,
  -- MEM_SCRUB
  ⟨0x60420, 1, 0x4, 1, 0x4,
    [⟨31, 1, .rw, 1, true⟩, ⟨0, 16, .rw, 0xa, true⟩]⟩,
  -- MEM_BIST
  ⟨0x60424, 1, 0x4, 1, 0x4,
    [⟨31, 1, .rw, 1, true⟩, ⟨0, 16, .rw, 0xa8, true⟩]⟩,
  -- MEM_COLL
  ⟨0x60428, 1, 0x4, 1, 0x4,
    [⟨0, 32, .rc, 0, false⟩]⟩]

/-- The registers of block ECC. -/
def eccRegs : List RegRow :=
[
  -- ECC_EVENT
  ⟨0x70000, 1, 0x4, 1, 0x4,
    [⟨7, 1, .w1c, 0, false⟩, ⟨6, 1, .w1c, 0, false⟩, ⟨5, 1, .w1c, 0, false⟩, ⟨4, 1, .w1c, 0, false⟩, ⟨3, 1, .w1c, 0, false⟩, ⟨2, 1, .w1c, 0, false⟩, ⟨1, 1, .w1c, 0, false⟩, ⟨0, 1, .w1c, 0, false⟩]⟩,
  -- ECC_CECNT
  ⟨0x70004, 1, 0x4, 1, 0x4,
    [⟨0, 32, .rc, 0, false⟩]⟩,
  -- ECC_UECNT
  ⟨0x70008, 1, 0x4, 1, 0x4,
    [⟨0, 32, .rc, 0, false⟩]⟩,
  -- ECC_PCONS
  ⟨0x7000c, 1, 0x4, 1, 0x4,
    [⟨24, 8, .rc, 0, false⟩, ⟨16, 8, .rc, 0, false⟩, ⟨8, 8, .rc, 0, false⟩, ⟨0, 8, .rc, 0, false⟩]⟩,
  -- ECC_LAST
  ⟨0x70010, 1, 0x4, 1, 0x4,
    [⟨24, 8, .ro, 0, false⟩, ⟨23, 1, .ro, 0, false⟩, ⟨16, 7, .ro, 0, false⟩, ⟨0, 16, .ro, 0, false⟩]⟩,
  -- ECC_BUCKET
  ⟨0x70014, 1, 0x4, 1, 0x4,
    [⟨24, 7, .rw, 0x10, true⟩, ⟨0, 16, .rw, 0x3e8, true⟩]⟩,
  -- ECC_INJ
  ⟨0x70018, 1, 0x4, 1, 0x4,
    [⟨31, 1, .w1s, 0, false⟩, ⟨30, 1, .rw, 0, false⟩, ⟨16, 7, .rw, 0, false⟩, ⟨8, 7, .rw, 0, false⟩, ⟨0, 8, .rw, 0, false⟩]⟩,
  -- ECC_SELFTEST
  ⟨0x7001c, 1, 0x4, 1, 0x4,
    [⟨31, 1, .ro, 0, false⟩, ⟨30, 1, .ro, 0, false⟩, ⟨0, 8, .ro, 0, false⟩]⟩,
  -- ECC_LOGCTL
  ⟨0x70020, 1, 0x4, 1, 0x4,
    [⟨31, 1, .w1s, 0, false⟩, ⟨30, 1, .ro, 0, true⟩, ⟨29, 1, .ro, 0, false⟩, ⟨0, 9, .ro, 0, true⟩]⟩,
  -- ECC_LOGSEL
  ⟨0x70024, 1, 0x4, 1, 0x4,
    [⟨0, 8, .rw, 0, false⟩]⟩,
  -- ECC_LOGDLO
  ⟨0x70028, 1, 0x4, 1, 0x4,
    [⟨0, 32, .ro, 0, false⟩]⟩,
  -- ECC_LOGDHI
  ⟨0x7002c, 1, 0x4, 1, 0x4,
    [⟨24, 8, .ro, 0, false⟩, ⟨22, 2, .ro, 0, false⟩, ⟨18, 4, .ro, 0, false⟩, ⟨14, 4, .ro, 0, false⟩, ⟨7, 7, .ro, 0, false⟩]⟩]

/-- The registers of block PWR. -/
def pwrRegs : List RegRow :=
[
  -- PWR_PD_STATUS
  ⟨0x20000, 40, 0x10, 1, 0x10,
    [⟨30, 2, .ro, 0, true⟩, ⟨29, 1, .ro, 0, false⟩, ⟨28, 1, .ro, 0, false⟩, ⟨26, 2, .ro, 0, true⟩, ⟨24, 2, .ro, 0, true⟩, ⟨0, 16, .ro, 0, true⟩]⟩,
  -- PWR_PD_LTOL
  ⟨0x20004, 40, 0x10, 1, 0x10,
    [⟨0, 32, .ro, 0xffffffff, true⟩]⟩,
  -- PWR_PD_EVENT
  ⟨0x20008, 40, 0x10, 1, 0x10,
    [⟨2, 1, .w1c, 0, false⟩, ⟨1, 1, .w1c, 0, false⟩, ⟨0, 1, .w1c, 0, false⟩]⟩,
  -- PWR_PD_WAKES
  ⟨0x2000c, 40, 0x10, 1, 0x10,
    [⟨16, 16, .rc, 0, false⟩, ⟨0, 16, .rc, 0, false⟩]⟩,
  -- PWR_CTL
  ⟨0x20400, 1, 0x4, 1, 0x4,
    [⟨8, 8, .rw, 0xa, true⟩, ⟨0, 8, .rw, 0xa, true⟩]⟩,
  -- PWR_SEQ
  ⟨0x20404, 1, 0x4, 1, 0x4,
    [⟨31, 1, .w1c, 0, true⟩, ⟨30, 1, .w1c, 0, true⟩, ⟨29, 1, .w1c, 0, true⟩, ⟨0, 6, .ro, 0, true⟩]⟩,
  -- PWR_TIMER
  ⟨0x20408, 1, 0x4, 1, 0x4,
    [⟨0, 32, .rw, 0, true⟩]⟩,
  -- PWR_OFFACC
  ⟨0x2040c, 1, 0x4, 1, 0x4,
    [⟨0, 32, .rc, 0, false⟩]⟩,
  -- PWR_LASTWAKE
  ⟨0x20410, 1, 0x4, 1, 0x4,
    [⟨24, 8, .ro, 0, true⟩, ⟨0, 6, .ro, 0, true⟩]⟩]

/-- The registers of block THM. -/
def thmRegs : List RegRow :=
[
  -- THM_STATUS
  ⟨0x30000, 1, 0x4, 1, 0x4,
    [⟨28, 4, .ro, 0, true⟩, ⟨25, 3, .ro, 0, true⟩, ⟨24, 1, .ro, 0, true⟩, ⟨23, 1, .ro, 0, true⟩, ⟨22, 1, .ro, 0, true⟩, ⟨21, 1, .ro, 0, false⟩, ⟨20, 1, .ro, 0, true⟩, ⟨16, 4, .ro, 0, false⟩, ⟨0, 11, .ro, 0, false⟩]⟩,
  -- THM_EVENT
  ⟨0x30004, 1, 0x4, 1, 0x4,
    [⟨7, 1, .w1c, 0, false⟩, ⟨6, 1, .w1c, 0, false⟩, ⟨5, 1, .w1c, 0, false⟩, ⟨4, 1, .w1c, 0, false⟩, ⟨3, 1, .w1c, 0, false⟩, ⟨2, 1, .w1c, 0, false⟩, ⟨1, 1, .w1c, 0, false⟩, ⟨0, 1, .w1c, 0, false⟩]⟩,
  -- THM_ZONE
  ⟨0x30010, 16, 0x4, 1, 0x4,
    [⟨21, 11, .ro, 0, true⟩, ⟨20, 1, .ro, 0, true⟩, ⟨0, 16, .ro, 0, false⟩]⟩,
  -- THM_DIODE
  ⟨0x30050, 12, 0x4, 1, 0x4,
    [⟨21, 11, .ro, 0, false⟩, ⟨18, 3, .ro, 0, true⟩, ⟨10, 8, .ro, 0, true⟩]⟩,
  -- THM_CTL
  ⟨0x30080, 1, 0x4, 1, 0x4,
    [⟨24, 8, .rw, 0x64, true⟩, ⟨20, 4, .rw, 5, true⟩, ⟨16, 4, .rw, 4, true⟩]⟩,
  -- THM_PWR
  ⟨0x30084, 1, 0x4, 1, 0x4,
    [⟨16, 16, .ro, 0, false⟩, ⟨0, 16, .rw, 0x410, true⟩]⟩,
  -- THM_DWELL
  ⟨0x30088, 1, 0x4, 1, 0x4,
    [⟨16, 16, .rw, 0x3e8, true⟩, ⟨0, 16, .rw, 0x64, true⟩]⟩,
  -- THM_DIODECTL
  ⟨0x3008c, 1, 0x4, 1, 0x4,
    [⟨0, 12, .w1s, 0, false⟩]⟩,
  -- THM_COUNT
  ⟨0x30090, 1, 0x4, 1, 0x4,
    [⟨16, 16, .rc, 0, false⟩, ⟨0, 16, .rc, 0, false⟩]⟩]

/-- The registers of block RST. -/
def rstRegs : List RegRow :=
[
  -- RST_STATUS
  ⟨0x10000, 1, 0x4, 1, 0x4,
    [⟨28, 4, .ro, 0, true⟩, ⟨27, 1, .ro, 0, true⟩, ⟨26, 1, .ro, 0, true⟩, ⟨25, 1, .ro, 0, true⟩, ⟨24, 1, .w1c, 0, true⟩, ⟨23, 1, .w1c, 0, true⟩]⟩,
  -- RST_CTL
  ⟨0x10004, 1, 0x4, 1, 0x4,
    [⟨16, 16, .wo, 0, false⟩, ⟨0, 2, .wo, 0, false⟩]⟩,
  -- RST_STRAP
  ⟨0x10008, 1, 0x4, 1, 0x4,
    [⟨4, 1, .ro, 0, true⟩, ⟨2, 2, .ro, 0, true⟩, ⟨0, 2, .ro, 0, true⟩]⟩,
  -- RST_TRIM
  ⟨0x1000c, 1, 0x4, 1, 0x4,
    [⟨24, 8, .ro, 0, true⟩, ⟨16, 8, .ro, 0, true⟩, ⟨0, 9, .ro, 0, true⟩]⟩,
  -- RST_CRIT
  ⟨0x10010, 1, 0x4, 1, 0x4,
    [⟨28, 4, .ro, 0, true⟩, ⟨27, 1, .ro, 0, true⟩, ⟨26, 1, .ro, 0, true⟩]⟩,
  -- RST_COUNT
  ⟨0x10014, 1, 0x4, 1, 0x4,
    [⟨24, 8, .rc, 0, true⟩, ⟨16, 8, .rc, 0, true⟩, ⟨8, 8, .rc, 0, true⟩]⟩]

/-- The registers of block HKA. -/
def hkaRegs : List RegRow :=
[
  -- HKA_CTL
  ⟨0x40000, 1, 0x4, 1, 0x4,
    [⟨31, 1, .rw, 0, true⟩, ⟨30, 1, .rw, 0, true⟩, ⟨29, 1, .w1s, 0, false⟩, ⟨24, 3, .rw, 2, true⟩, ⟨20, 4, .rw, 4, true⟩, ⟨16, 4, .rw, 4, true⟩, ⟨0, 5, .rw, 0, true⟩]⟩,
  -- HKA_SCAN
  ⟨0x40004, 1, 0x4, 1, 0x4,
    [⟨0, 25, .rw, 0, true⟩]⟩,
  -- HKA_STATUS
  ⟨0x40008, 1, 0x4, 1, 0x4,
    [⟨31, 1, .ro, 0, false⟩, ⟨30, 1, .ro, 0, false⟩, ⟨29, 1, .ro, 0, false⟩, ⟨0, 5, .ro, 0, false⟩]⟩,
  -- HKA_DATA
  ⟨0x4000c, 1, 0x4, 1, 0x4,
    [⟨31, 1, .rc, 0, false⟩, ⟨24, 5, .ro, 0, false⟩, ⟨0, 24, .ro, 0, false⟩]⟩,
  -- HKA_EVENT
  ⟨0x40010, 1, 0x4, 1, 0x4,
    [⟨7, 1, .w1c, 0, false⟩, ⟨6, 1, .w1c, 0, false⟩, ⟨5, 1, .w1c, 0, false⟩, ⟨4, 1, .w1c, 0, false⟩, ⟨0, 4, .w1c, 0, false⟩]⟩,
  -- HKA_ALM
  ⟨0x40020, 4, 0x8, 1, 0x8,
    [⟨31, 1, .rw, 0, true⟩, ⟨8, 5, .rw, 0, true⟩, ⟨0, 8, .rw, 0, true⟩]⟩,
  -- HKA_ALMLIM
  ⟨0x40024, 4, 0x8, 1, 0x8,
    [⟨16, 16, .rw, 0xffff, true⟩, ⟨0, 16, .rw, 0, true⟩]⟩,
  -- HKA_RES
  ⟨0x40040, 25, 0x4, 1, 0x4,
    [⟨31, 1, .rc, 0, false⟩, ⟨0, 16, .ro, 0, false⟩]⟩]

/-- The registers of block PMC. -/
def pmcRegs : List RegRow :=
[
  -- PMC_CNTLO
  ⟨0xa0000, 64, 0x10, 1, 0x10,
    [⟨0, 32, .ro, 0, false⟩]⟩,
  -- PMC_CNTHI
  ⟨0xa0004, 64, 0x10, 1, 0x10,
    [⟨0, 16, .ro, 0, false⟩]⟩,
  -- PMC_SEL
  ⟨0xa0008, 64, 0x10, 1, 0x10,
    [⟨31, 1, .rw, 0, true⟩, ⟨30, 1, .rw, 0, true⟩, ⟨29, 1, .w1s, 0, false⟩, ⟨16, 8, .rw, 0, true⟩, ⟨0, 5, .rw, 0, true⟩]⟩,
  -- PMC_CTL
  ⟨0xa0400, 1, 0x4, 1, 0x4,
    [⟨31, 1, .rw, 0, true⟩, ⟨30, 1, .rw, 0, false⟩, ⟨29, 1, .w1s, 0, false⟩]⟩,
  -- PMC_OVFLO
  ⟨0xa0404, 1, 0x4, 1, 0x4,
    [⟨0, 32, .w1c, 0, false⟩]⟩,
  -- PMC_OVFHI
  ⟨0xa0408, 1, 0x4, 1, 0x4,
    [⟨0, 32, .w1c, 0, false⟩]⟩,
  -- PMC_ACCESS
  ⟨0xa0410, 1, 0x4, 1, 0x4,
    [⟨4, 4, .rw, 0, true⟩, ⟨0, 4, .rw, 0, true⟩]⟩]

/-- The register rows whose block range holds an address (R567): none outside the map and none in RNG (R568, R569). -/
def blockRegs (a : Nat) : List RegRow :=
  let b := a / 0x10000
  if b = 0 then glbRegs
  else if b = 1 then rstRegs
  else if b = 2 then pwrRegs
  else if b = 3 then thmRegs
  else if b = 4 then hkaRegs
  else if b = 5 then timRegs
  else if b = 6 then memRegs
  else if b = 7 then eccRegs
  else if b = 8 then sluRegs
  else if b = 9 then mgtRegs
  else if b = 10 then pmcRegs
  else if 0x10 ≤ b ∧ b < 0x14 then hlnRegs
  else if 0x14 ≤ b ∧ b < 0x18 then trbRegs
  else if 0x18 ≤ b ∧ b < 0x1c then cipRegs
  else if 0x1c ≤ b ∧ b < 0x20 then frmRegs
  else if 0x20 ≤ b ∧ b < 0x24 then fecRegs
  else if 0x24 ≤ b ∧ b < 0x2c then dspRegs
  else if 0x2c ≤ b ∧ b < 0x30 then acqRegs
  else if 0x30 ≤ b ∧ b < 0x34 then cnvRegs
  else []

/-- The fields of the register at an address: none at an unassigned address (R10). The polder numbers 13 to 15
have no registers (R470). -/
def regFields (a : Nat) : List FieldRow :=
  if 0x200D0 ≤ a ∧ a < 0x20100 then []
  else match (blockRegs a).find? (fun r => r.hit a) with
    | some r => r.fields
    | none => []

/-- The row of the field that holds a key, if any. -/
def rowOfKey (k : Nat) : Option FieldRow :=
  (regFields (k / 32)).find? (fun r => r.lo == k % 32)

end Sys2Proof.Machine
end

