-- ==== Sys2Proof/Machine/Engine.lean ====
section
/-! DEFINITION. The sluice engines: images and their verification, fetch, start, acceptance, completion, faults and
recovery, and the data and control instructions (R38 to R57, R74 to R93, R102 to R105). -/

namespace Sys2Proof.Machine

open Reg

/-! ## Images (R74 to R79) -/

/-- The first word of store bank `k` (banks 188 to 191). -/
def storeBase (k : Nat) : Nat := (188 + k) * 65536

/-- A word of the image in store bank `k`. -/
def State.imgWord (s : State) (k i : Nat) : Nat := s.wordData (storeBase k + i)

def State.codeWords (s : State) (k : Nat) : Nat := fieldOf (s.imgWord k 1) 32 32
def State.dataBytes (s : State) (k : Nat) : Nat := fieldOf (s.imgWord k 1) 0 32
def State.entryWord (s : State) (k : Nat) : Nat := fieldOf (s.imgWord k 2) 32 32

/-- Words of the code area, its padding to a multiple of 64 bytes included (R74; log entry 72). -/
def State.codeLen (s : State) (k : Nat) : Nat := (s.codeWords k + 7) / 8 * 8

/-- Where the data area starts: the code area is padded to a multiple of 64 bytes (R74). -/
def dataStart (codeWords : Nat) : Nat := 64 + (8 * codeWords + 63) / 64 * 64

/-- Bytes of an image. -/
def imageBytes (codeWords dataBytes : Nat) : Nat := dataStart codeWords + dataBytes

/-- The bytes of an image in the order in which R77 feeds them, the CRC field as zero. -/
def State.crcBytes (s : State) (k n : Nat) : List Byte :=
  (List.range n).map (fun o => if 28 ≤ o ∧ o < 32 then 0 else Memory.read s.mem.bytes (8 * storeBase k + o))

/-- LAST_ERR of a verification: the lowest code of the checks that fail, 0 when all pass (R75, R77, R78, R83). -/
def State.verifyCode (s : State) (k : Nat) : Nat :=
  let w (i : Nat) := s.imgWord k i
  let cw := s.codeWords k
  let db := s.dataBytes k
  let lenOk := decide (1 ≤ cw ∧ cw ≤ 65528 ∧ db % 64 = 0 ∧ s.entryWord k < cw ∧ imageBytes cw db ≤ 524288)
  let resOk := fieldOf (w 0) 0 16 == 0 && fieldOf (w 2) 0 32 == 0 && fieldOf (w 3) 0 32 == 0
    && [4, 5, 6, 7].all (fun i => w i == 0)
  let words := if lenOk then imageBytes cw db / 8 else 8
  if fieldOf (w 0) 32 32 ≠ 0x524E4A4E then 1
  else if fieldOf (w 0) 16 16 ≠ 1 then 2
  else if lenOk = false then 3
  else if crc32 (s.crcBytes k (imageBytes cw db)) ≠ fieldOf (w 3) 32 32 then 4
  else if resOk = false then 8
  else if (List.range words).any (fun i => s.wordPoison (storeBase k + i)) then 9 else 0

/-- A bank is LOCKED: an engine that runs its image is in RUN, DRAIN or FAULTED (R81). -/
def State.bankLocked (s : State) (k : Nat) : Bool :=
  [0, 1, 2, 3].any (fun e => (s.eng e).bank == k && [2, 3, 5].contains (s.engState e))

/-- GO for a store bank (R78), whatever the state of MEM23, which holds the store (log entry 79). -/
def State.loadGo (s : State) (k : Nat) : State :=
  let s := s.set SLU_LOAD_BANK k
  if s.bit SLU_LOAD_STATUS_BUSY k then s
  else if s.bankLocked k then s.set SLU_LOAD_STATUS_LAST_ERR 5
  else (s.clrBit SLU_LOAD_STATUS_VALID k).setBit SLU_LOAD_STATUS_BUSY k

/-- Verification of a store bank ends (R78): over its words as they stand (log entry 79). -/
def State.loadEnd (s : State) (k : Nat) : State :=
  if s.bit SLU_LOAD_STATUS_BUSY k then
    let c := s.verifyCode k
    let s := s.clrBit SLU_LOAD_STATUS_BUSY k
    if c = 0 then s.setBit SLU_LOAD_STATUS_VALID k
    else (s.setBit SLU_LOAD_STATUS_ERR k).set SLU_LOAD_STATUS_LAST_ERR c
  else s

/-- A host write of 32 bits through the window (R76, R79, R421): the word keeps its other half, and its POISON. During a
boot-flash load it is discarded (R546). -/
def State.windowWrite (s : State) (off v : Nat) : State :=
  let k := off / 524288
  if s.rst.flashLoading then s
  else if s.bankLocked k then s.setBit SLU_LOAD_STATUS_WPHIT k
  else
    let s := s.clrBit SLU_LOAD_STATUS_VALID k
    let s := if s.bit SLU_LOAD_STATUS_BUSY k then
      ((s.clrBit SLU_LOAD_STATUS_BUSY k).setBit SLU_LOAD_STATUS_ERR k).set SLU_LOAD_STATUS_LAST_ERR 7 else s
    let w := storeBase 0 + off / 8
    let r := s.readMem w
    let d := r.1.data
    let d' := if off / 4 % 2 = 0 then d / 2 ^ 32 * 2 ^ 32 + v else v * 2 ^ 32 + d % 2 ^ 32
    r.2.storeWord w d' r.1.poison

/-- A host read of 32 bits through the window (R76, R438). -/
def State.windowRead (s : State) (off : Nat) : Nat × State :=
  let w := storeBase 0 + off / 8
  let r := s.readMem w
  let v := if off / 4 % 2 = 0 then r.1.data % 2 ^ 32 else r.1.data / 2 ^ 32
  (v, if r.1.poison then (r.2.consume w 1).setB ECC_EVENT_HOSTPOIS true else r.2)

/-! ## Faults (R56, R102) -/

/-- A fault code (low byte) or none, with the reason that FLT1 shows. -/
structure StartFault where
  code : Nat
  reason : Nat
deriving DecidableEq, Repr

/-- Fault codes (R101). -/
def fILLEGAL : Nat := 1
def fOPERAND : Nat := 2
def fALIGN : Nat := 3
def fRANGE : Nat := 4
def fPRIV : Nat := 5
def fREFUSED : Nat := 6
def fPOISON : Nat := 7

/-- An instruction of an engine faults: noted, counted as done in flight, and a running engine enters FAULTED (R81,
R102). -/
def State.faultAt (s : State) (e pc code reason handle : Nat) : State :=
  let x := s.eng e
  let s := s.setEng e { x with
    faults := x.faults ++ [⟨pc, code, reason, handle⟩]
    entries := x.entries.map (fun en => if en.pc == pc then { en with completed := true, accepted := true, faulted := true,
                                                                      taken := true, waits := [] } else en) }
  let s := if s.engState e = 2 then s.set (SLU_ENG_STATUS_STATE e) 5 else s
  s.retireEng e

/-! ## Fetch and start (R85, R89 to R91) -/

/-- Class of an opcode as to how it runs: control transfers and waits hold every later instruction (R46). -/
def holdsAll (op : Nat) : Bool := (0x01 ≤ op && op ≤ 0x06) || op == 0x71

/-- Opcodes accepted at start (R87): all but those whose state, field or unwrap checks may still refuse them. DISABLE and
KEYROLL are, after a check that is made at their start. -/
def acceptedAtStart (op : Nat) : Bool := !(0x20 ≤ op && op ≤ 0x60) || op == 0x22 || op == 0x32

/-- Opcodes whose effect may be taken after a later instruction has started: register accesses, EVPOST, and those not
accepted at start. -/
def overlaps (op : Nat) : Bool := !(acceptedAtStart op) || op == 0x1C || op == 0x1D || op == 0x70

/-- Skip the words that a resumed run has already completed (R104): the next word, and the words still to skip. A completed
control transfer is the last word of its run (R46) and leads where it led. -/
def skipTo (branch : Option (Nat × Nat)) (skip : List Nat) : Nat → Nat → Nat × List Nat
  | 0, pc => (pc, skip)
  | k + 1, pc =>
    if skip.contains pc then
      match branch with
      | some (b, t) => if b = pc then (t, []) else skipTo branch skip k (pc + 1)
      | none => skipTo branch skip k (pc + 1)
    else (pc, skip)

/-- The next word to start. -/
def Engine.next (x : Engine) : Nat := (skipTo x.branch x.skipWords 64 x.pc).1

/-- The words to skip from there. -/
def Engine.skipLeft (x : Engine) : List Nat := (skipTo x.branch x.skipWords 64 x.pc).2

/-- The store word of a code word. -/
def Engine.codeAddr (x : Engine) (pc : Nat) : Nat := storeBase x.bank + 8 + pc

/-- The word at the next place of an engine, as stored. -/
def State.nextWord (s : State) (e : Nat) : Nat :=
  let x := s.eng e
  s.wordData (x.codeAddr x.next)

/-- A register still awaits the result of an instruction in flight (R43). -/
def Engine.regPending (x : Engine) (r : Nat) : Bool :=
  r != 0 && x.entries.any (fun en => !en.completed && writesD (opOf en.word) && dOf en.word == r)

/-- The registers that an instruction word reads, and the one it writes. -/
def regsOf (w : Nat) : List Nat :=
  let op := opOf w
  (if usesA w then [aOf w] else []) ++ (if usesD op then [dOf w] else [])
    ++ (if op = 0x03 ∨ (0x13 ≤ op ∧ op ≤ 0x19) then [brOf w] else []) ++ (if op = 0x05 ∨ op = 0x04 then [15] else [])

/-- A fence in flight holds an instruction: before it, one is not accepted (R89), or its condition does not hold and the
instruction is one of those it holds (R90). -/
def fenceHolds (f : Entry) (before : List Entry) (w a : Nat) : Bool :=
  let op := opOf f.word
  before.any (fun en => !en.accepted)
    || (!f.completed && (op == 0x80 || (op == 0x81 && namesHandle (opOf w) && sameObject (namedHandle w a) (f.handle.getD 0))
      || (op == 0x82 && accessesReg (opOf w))))

/-- Some fence among the entries holds the instruction. -/
def fencesHold (w a : Nat) : List Entry → List Entry → Bool
  | _, [] => false
  | before, f :: t => (isFence (opOf f.word) && fenceHolds f before w a) || fencesHold w a (before ++ [f]) t

/-- An engine may start its next instruction: in RUN, with its polders on, with room, nothing that holds it, and its
registers known. -/
def State.canStart (s : State) (e : Nat) : Bool :=
  let x := s.eng e
  let w := s.nextWord e
  s.engState e == 2 && s.pdOn pdSLU && s.pdOn pdMEM23 && decide (x.entries.length < 64)
    && !(x.entries.any (fun en => holdsAll (opOf en.word)))
    && !((regsOf w).any x.regPending)
    && !(fencesHold w (x.reg (aOf w)) [] x.entries)

/-- The store byte offset of an LD or ST: w[A] + OFF modulo 2^64. -/
def memOffset (x : Engine) (w : Nat) : Nat := (((x.reg (aOf w) : Int) + offOf w) % (2 : Int) ^ 64).toNat

/-- The offset lies in the data area of the engine's image, `len` bytes of it (R56). -/
def State.inData (s : State) (k off len : Nat) : Bool :=
  let lo := k * 524288 + dataStart (s.codeWords k)
  decide (lo ≤ off ∧ off + len ≤ lo + s.dataBytes k)

/-- A register access by an engine is refused (R48, R563): never at an unassigned address, and never while the register's
polder is not on. -/
def State.regPriv (s : State) (e a : Nat) (write : Bool) : Bool :=
  let fs := regFields a
  let pmc := a / 0x10000 == 0x0A
  let bits := if write then s.get PMC_ACCESS_WR else s.get PMC_ACCESS_RD
  decide (0x01000000 ≤ a ∧ a < 0x01200000)
    || (!fs.isEmpty && s.regOn a
      && ((write && fs.all (fun f => f.acc == .ro || f.acc == .rc)) || (pmc && bitOf bits e == 0)
        || (write && a == adr_PMC_ACCESS)))

/-- The address of a RDREG or WRREG. -/
def regAddr (w a : Nat) : Nat := if flag0 w then (addrOf w + a) % 2 ^ 32 else addrOf w

/-- The words of the descriptor or record at ARG, as the instruction copies them (R63, R194). -/
def State.argWords (s : State) (w : Nat) : List Nat :=
  (List.range 8).map (fun i => s.wordData (storeBase 0 + argOf w / 8 + i))

/-- A word of the descriptor or record at ARG carries POISON. -/
def State.argPoison (s : State) (w : Nat) : Option Nat :=
  ((List.range 8).map (fun i => storeBase 0 + argOf w / 8 + i)).find? (fun a => s.wordPoison a)

/-- The fault that an instruction word meets at its start, if any (R56): ILLEGAL, then OPERAND, ALIGN, RANGE, PRIV and
POISON. `a` is w[A]. -/
def State.startFault (s : State) (e w : Nat) : Option StartFault :=
  let x := s.eng e
  let op := opOf w
  let a := x.reg (aOf w)
  let f (c : Nat) : Option StartFault := some ⟨c, 0x0800 + c⟩
  if legal w = false then f fILLEGAL
  else if namesHandle op && !(handleOk op (namedHandle w a)) then f fOPERAND
  else if copiesWords op && (argOf w % 64 != 0) then f fALIGN
  else if (op == 0x1A || op == 0x1B) && (memOffset x w % 8 != 0) then f fALIGN
  else if copiesWords op && !(s.inData x.bank (argOf w) 64) then f fRANGE
  else if (op == 0x1A || op == 0x1B) && !(s.inData x.bank (memOffset x w) 8) then f fRANGE
  else if (op == 0x02 || op == 0x03 || op == 0x04) && decide (s.codeLen x.bank ≤ targetOf w) then f fRANGE
  else if op == 0x05 && decide (s.codeLen x.bank ≤ x.reg 15 % 2 ^ 18) then f fRANGE
  else if (op == 0x1C || op == 0x1D) && s.regPriv e (regAddr w a) (op == 0x1D) then f fPRIV
  else if copiesWords op && (s.argPoison w).isSome then f fPOISON
  else if copiesWords op && op != 0x30
      && fieldOf ((s.argWords w).headD 0) 56 8 != namedHandle w a / 0x1000 then f fOPERAND
  else none

/-- The entry of an instruction that starts (R85). -/
def Engine.entryOf (x : Engine) (pc w : Nat) (desc : List Nat) : Entry :=
  { pc := pc, word := w, taken := false, accepted := acceptedAtStart (opOf w), completed := false, faulted := false
    waits := [], a := x.reg (aOf w), d := x.reg (dOf w), desc := desc }

/-- Push an entry; 64 in flight is the level FULL (R559). -/
def State.pushEntry (s : State) (e : Nat) (en : Entry) : State :=
  let x := s.eng e
  let s := s.setEng e { x with entries := x.entries ++ [en], pc := en.pc + 1
                               skipWords := x.skipLeft.filter (fun q => decide (en.pc < q)) }
  if x.entries.length + 1 = 64 then s.pmc 0x22 e 1 else s

/-- What a start comes to. -/
inductive Start where
  | held
  | faulted
  | started (pc : Nat)
deriving DecidableEq, Repr

/-- Start the next instruction of an engine: its word is fetched, checked, and put in flight, or it faults (R56, R85). -/
def State.startNext (s : State) (e : Nat) : Start × State :=
  if s.canStart e then
    let x := s.eng e
    let pc := x.next
    let ad := x.codeAddr pc
    let w := s.wordData ad
    let en := x.entryOf pc w (if copiesWords (opOf w) then s.argWords w else [])
    let h := if namesHandle (opOf w) then namedHandle w en.a else 0
    let fetchBad := s.wordPoison ad
    let beyond := decide (s.codeLen x.bank ≤ pc)
    let s' := s.pushEntry e en
    if beyond then (.faulted, s'.faultAt e pc fRANGE (0x0800 + fRANGE) 0)
    else if fetchBad then (.faulted, (s'.consume ad 1).faultAt e pc fPOISON (0x0800 + fPOISON) 0)
    else match s.startFault e w with
      | some f =>
        let s' := match (if f.code = fPOISON then s.argPoison w else none) with
          | some ad => s'.consume ad 1
          | none => s'
        (.faulted, s'.faultAt e pc f.code f.reason h)
      | none => (.started pc, s')
  else (.held, s)

/-- Start instructions that may run ahead until the word at `p` has started; answers the state and whether it has. A data or
control word, a fence, a DISABLE or a KEYROLL starts only as the next word (R88 promises no order; log entry 80). -/
def State.startTo (s : State) (e p : Nat) : Nat → Bool × State
  | 0 => (false, s)
  | k + 1 =>
    let pc := (s.eng e).next
    if p < pc then (false, s)
    else if pc ≠ p ∧ overlaps (opOf (s.nextWord e)) = false then (false, s)
    else match s.startNext e with
      | (.started q, s') => if q = p then (true, s') else s'.startTo e p k
      | (.faulted, s') => (false, s')
      | (.held, s') => (false, s')

/-- Replace the entry of a word. -/
def Engine.mapEntry (x : Engine) (pc : Nat) (f : Entry → Entry) : Engine :=
  { x with entries := x.entries.map (fun en => if en.pc == pc then f en else en) }

/-- An instruction completes with a result for w[D] if its opcode writes one, and what can retire does (R86). -/
def State.complete (s : State) (e pc v : Nat) : State :=
  let x := s.eng e
  match x.entries.find? (fun en => en.pc == pc) with
  | none => s
  | some en =>
    let x := if writesD (opOf en.word) then x.setReg (dOf en.word) v else x
    (s.setEng e (x.mapEntry pc (fun en => { en with taken := true, accepted := true, completed := true, waits := [] }))).retireEng e

/-- An instruction's effect is taken and it waits; `acc` says that no refusal can arise any more (R86, R87). -/
def State.await (s : State) (e pc : Nat) (ws : List Wait) (acc : Bool) : State :=
  s.setEng e ((s.eng e).mapEntry pc (fun en => { en with taken := true, accepted := acc, waits := ws }))

/-- What an object instruction comes to (R54, R87). -/
inductive Res where
  | ok (v : Nat)
  | refused (code : Nat)
  | wait (ws : List Wait)
deriving DecidableEq, Repr

/-- The objects whose QUERY shows a refusal of an instruction that named a handle (R61): both directions for a handle of
direction 00. -/
def refusalObjects (h : Nat) : List Nat :=
  if h / 0x1000 = 2 ∧ h / 0x400 % 4 = 0 then [hTrib 0 (h % 0x400), hTrib 1 (h % 0x400)] else [h]

/-- Note a refusal for QUERY (R61): REALIGN and TIMERD name no object. -/
def State.noteRefusal (s : State) (h code : Nat) : State :=
  if h = 0 then s else { s with refusals := (refusalObjects h).foldl (fun m o => Assoc.put o code m) s.refusals }

/-- An instruction is refused (R54, R56): the code goes to w[D], and without NF the instruction faults REFUSED. -/
def State.refuse (s : State) (e pc w h code : Nat) : State :=
  let s := s.noteRefusal h code
  if flagNF w then s.complete e pc code
  else
    let x := s.eng e
    let x := if writesD (opOf w) then x.setReg (dOf w) code else x
    (s.setEng e x).faultAt e pc fREFUSED code h

/-- Settle what an object instruction came to. -/
def State.settle (s : State) (e pc w h : Nat) (r : Res) : State :=
  match r with
  | .ok v => s.complete e pc v
  | .refused c => s.refuse e pc w h c
  | .wait ws => if ws.isEmpty then s.complete e pc 0 else s.await e pc ws true

/-- Run an object instruction: its word, at `p`, must have this opcode; it starts now, with those before it, unless it has
started, and its effect is taken (R58, R85, R88). `f` takes the entry and its handle. -/
def State.runObject (s : State) (op e p : Nat) (f : State → Entry → Nat → Res × State) : State :=
  let take (s : State) (en : Entry) : State :=
    let h := namedHandle en.word en.a
    let r := f s en h
    r.2.settle e p en.word h r.1
  match (s.eng e).entries.find? (fun en => en.pc == p) with
  | some en => if opOf en.word = op ∧ en.taken = false then take s en else s
  | none =>
    if opOf (s.wordData ((s.eng e).codeAddr p)) ≠ op then s
    else match s.startTo e p 64 with
      | (true, s') =>
        (match (s'.eng e).entries.find? (fun en => en.pc == p) with
          | some en => take s' en
          | none => s')
      | (false, s') => s'

/-- The word at `p` of an engine's code, as it started or as it stands in the store. -/
def State.objWord (s : State) (e p : Nat) : Nat :=
  match (s.eng e).entries.find? (fun en => en.pc == p) with
  | some en => en.word
  | none => s.wordData ((s.eng e).codeAddr p)

/-- Run a data or control instruction: it must be the engine's next word, with this opcode (log entry 80). `f` gives the state
after its effect, from the entry. -/
def State.runNext (s : State) (op e : Nat) (f : State → Entry → State) : State :=
  if opOf (s.nextWord e) ≠ op then s
  else match s.startNext e with
    | (.started q, s') =>
      (match (s'.eng e).entries.find? (fun en => en.pc == q) with
        | some en => f s' en
        | none => s')
    | (_, s') => s'

/-! ## Data and control instructions (R42 to R47) -/

/-- Complete a data instruction with its result. -/
def State.dataOp (s : State) (op e : Nat) (f : Engine → Nat → Nat) : State :=
  s.runNext op e (fun s en => s.complete e en.pc (f (s.eng e) en.word))

/-- The two register operands. -/
def Engine.ra (x : Engine) (w : Nat) : Nat := x.reg (aOf w)
def Engine.rb (x : Engine) (w : Nat) : Nat := x.reg (brOf w)

/-- A control transfer: execution goes on at a word (R45). -/
def State.jumpTo (s : State) (e pc target : Nat) : State :=
  (s.setEng e { s.eng e with pc := target, branch := some (pc, target) }).complete e pc 0

/-- LD (R43, R56, R438). -/
def State.execLoad (s : State) (e : Nat) : State :=
  s.runNext 0x1A e (fun s en =>
    let x := s.eng e
    let w := storeBase 0 + memOffset x en.word / 8
    match s.readMem w with
    | (r, s) =>
      if r.poison then (s.consume w 1).faultAt e en.pc fPOISON (0x0800 + fPOISON) 0
      else s.complete e en.pc r.data)

/-- ST (R45, R79): VALID stays. What it stores is visible to the other engines at once (R90, R92; log entry 81). -/
def State.execStore (s : State) (e : Nat) : State :=
  s.runNext 0x1B e (fun s en =>
    (s.storeWord (storeBase 0 + memOffset (s.eng e) en.word / 8) en.d false).complete e en.pc 0)

/-- NOP (R45). -/
def execNop (e : Fin 4) (s : State) : Outcome := answer (s.runNext 0x00 e (fun s en => s.complete e en.pc 0))

/-- HALT (R45, R81): it retires once it is the oldest in flight. -/
def execHalt (e : Fin 4) (s : State) : Outcome := answer (s.runNext 0x01 e (fun s _ => s.retireEng e))

/-- JMP (R45). -/
def execJmp (e : Fin 4) (s : State) : Outcome :=
  answer (s.runNext 0x02 e (fun s en => s.jumpTo e en.pc (targetOf en.word)))

/-- BR (R41). -/
def execBr (e : Fin 4) (s : State) : Outcome :=
  answer (s.runNext 0x03 e (fun s en =>
    let x := s.eng e
    s.jumpTo e en.pc (if condHolds (condOf en.word) (x.ra en.word) (x.rb en.word) then targetOf en.word else en.pc + 1)))

/-- CALL (R42, R45). -/
def execCall (e : Fin 4) (s : State) : Outcome :=
  answer (s.runNext 0x04 e (fun s en =>
    (s.setEng e ((s.eng e).setReg 15 (en.pc + 1))).jumpTo e en.pc (targetOf en.word)))

/-- RET (R45). -/
def execRet (e : Fin 4) (s : State) : Outcome :=
  answer (s.runNext 0x05 e (fun s en => s.jumpTo e en.pc ((s.eng e).reg 15 % 2 ^ 18)))

/-- WAIT (R45, R46): it retires when its delay has run. -/
def execWait (e : Fin 4) (s : State) : Outcome :=
  answer (s.runNext 0x06 e (fun s en => s.await e en.pc [.delay] true))

/-- WAIT_EXPIRY (R45): the delay of the WAIT in flight has run out. -/
def execWaitExpiry (e : Fin 4) (s : State) : Outcome :=
  answer ((s.setEng e ((s.eng e).finish .delay 0)).retireEng e)

/-- MOVI (R45). -/
def execMovi (e : Fin 4) (s : State) : Outcome :=
  answer (s.dataOp 0x10 e (fun _ w => if flag0 w then encSigned 64 (immSigned w) else immOf w))

/-- MOVIH (R45). -/
def execMovih (e : Fin 4) (s : State) : Outcome :=
  answer (s.dataOp 0x11 e (fun x w => immOf w % 2 ^ 24 * 2 ^ 40 + x.ra w % 2 ^ 40))

/-- ADDI (R44, R45). -/
def execAddi (e : Fin 4) (s : State) : Outcome :=
  answer (s.dataOp 0x12 e (fun x w => encSigned 64 ((x.ra w : Int) + immSigned w)))

/-- ADD (R44). -/
def execAdd (e : Fin 4) (s : State) : Outcome := answer (s.dataOp 0x13 e (fun x w => (x.ra w + x.rb w) % 2 ^ 64))

/-- SUB (R44). -/
def execSub (e : Fin 4) (s : State) : Outcome :=
  answer (s.dataOp 0x14 e (fun x w => encSigned 64 ((x.ra w : Int) - (x.rb w : Int))))

/-- AND (R45). -/
def execAnd (e : Fin 4) (s : State) : Outcome := answer (s.dataOp 0x15 e (fun x w => Nat.land (x.ra w) (x.rb w)))

/-- OR (R45). -/
def execOr (e : Fin 4) (s : State) : Outcome := answer (s.dataOp 0x16 e (fun x w => Nat.lor (x.ra w) (x.rb w)))

/-- XOR (R45). -/
def execXor (e : Fin 4) (s : State) : Outcome := answer (s.dataOp 0x17 e (fun x w => Nat.xor (x.ra w) (x.rb w)))

/-- SHL (R44). -/
def execShl (e : Fin 4) (s : State) : Outcome :=
  answer (s.dataOp 0x18 e (fun x w => x.ra w * 2 ^ (x.rb w % 64) % 2 ^ 64))

/-- SHR (R44). -/
def execShr (e : Fin 4) (s : State) : Outcome := answer (s.dataOp 0x19 e (fun x w => x.ra w / 2 ^ (x.rb w % 64)))

/-- LD (R43). -/
def execLd (e : Fin 4) (s : State) : Outcome := answer (s.execLoad e)

/-- ST (R43). -/
def execSt (e : Fin 4) (s : State) : Outcome := answer (s.execStore e)

/-- EVPOST (R45, R538): IMM[31:0], then w[A] as two words. -/
def execEvpost (e : Fin 4) (p : BitVec 18) (s : State) : Outcome :=
  answer (s.runObject 0x70 e p.toNat (fun s en _ =>
    (.ok 0, s.post (srcProgram e) 0x01 0 [immOf en.word % 2 ^ 32, en.a / 2 ^ 32, en.a % 2 ^ 32])))

/-- EVWAIT (R47). -/
def execEvwait (e : Fin 4) (s : State) : Outcome :=
  answer (s.runNext 0x71 e (fun s en => s.await e en.pc [.event (fieldOf en.word 32 8)] true))

/-- EVWAIT_TIMEOUT (R47): of an EVWAIT in flight with a timeout. -/
def execEvwaitTimeout (e : Fin 4) (s : State) : Outcome :=
  answer (match (s.eng e).entries.find? (fun en => opOf en.word == 0x71 && !en.completed) with
    | some en => if fieldOf en.word 0 32 = 0 then s else s.complete e en.pc 0
    | none => s)

/-- FENCE.ALL (R90). -/
def execFenceAll (e : Fin 4) (s : State) : Outcome := answer (s.runNext 0x80 e (fun s _ => s.retireEng e))

/-- FENCE.OBJ (R90). -/
def execFenceObj (e : Fin 4) (s : State) : Outcome := answer (s.runNext 0x81 e (fun s _ => s.retireEng e))

/-- FENCE.IO (R90). -/
def execFenceIo (e : Fin 4) (s : State) : Outcome := answer (s.runNext 0x82 e (fun s _ => s.retireEng e))

/-- UNDEFINED_OPCODE (R56): the next word's opcode is undefined, and it faults ILLEGAL. -/
def execUndefinedOpcode (e : Fin 4) (s : State) : Outcome :=
  answer (if (formatOfOp (opOf (s.nextWord e))).isNone then (s.startNext e).2 else s)

/-! ## Fault record and engine control (R81, R102 to R105) -/

/-- The fault record is written once nothing of an engine that met a fault is in flight, whether it drains by then or not
(R102, R103, R105). -/
def State.faultRecord (s : State) (e : Nat) : State :=
  let x := s.eng e
  match x.faults.mergeSort (fun a b => a.pc ≤ b.pc) with
  | [] => s
  | f :: rest =>
    if x.entries.isEmpty = false ∨ s.on (SLU_ENG_FLT0_VALID e) = true then s
    else
      let mask := (List.range 64).foldl (fun m i => if x.doneMask.contains (f.pc + i) then m + 2 ^ i else m) 0
      let s := (s.setB (SLU_ENG_FLT0_VALID e) true).setB (SLU_ENG_FLT0_MULTI e) (!rest.isEmpty)
      let s := (s.set (SLU_ENG_FLT0_FCODE e) f.code).set (SLU_ENG_FLT0_FPC e) f.pc
      let s := (s.set (SLU_ENG_FLT1_REASON e) f.reason).set (SLU_ENG_FLT1_HANDLE e) f.handle
      let s := (s.set (SLU_ENG_MASKLO_MASK e) (mask % 2 ^ 32)).set (SLU_ENG_MASKHI_MASK e) (mask / 2 ^ 32)
      let flt0 := 2 ^ 31 + (if rest.isEmpty then 0 else 2 ^ 30) + f.code * 2 ^ 18 + f.pc % 2 ^ 18
      s.post srcSLU 0x01 0 [e, flt0, f.reason * 2 ^ 16 + f.handle]

/-- Clear the fault record of an engine. -/
def State.clearRecord (s : State) (e : Nat) : State :=
  s.zero [SLU_ENG_FLT0_VALID e, SLU_ENG_FLT0_MULTI e, SLU_ENG_FLT0_FCODE e, SLU_ENG_FLT0_FPC e, SLU_ENG_FLT1_REASON e,
    SLU_ENG_FLT1_HANDLE e, SLU_ENG_MASKLO_MASK e, SLU_ENG_MASKHI_MASK e]

/-- An engine enters RUN: the level RUN (R559), and the polders that a program needs (R24). -/
def State.enterRun (s : State) (e : Nat) : State := ((s.set (SLU_ENG_STATUS_STATE e) 2).pmc 0x21 e 1).refreshNeeds

/-- Start an engine on a store bank at its ENTRY (R81, R104, R105): the record is discarded, and SKIP clears. -/
def State.startEntry (s : State) (e k : Nat) : State :=
  if s.bit SLU_LOAD_STATUS_VALID k then
    (((s.clearRecord e).setB (SLU_ENG_RESUME_SKIP e) false).setEng e { bank := k, pc := s.entryWord k % 2 ^ 18 }).enterRun e
  else s.set SLU_LOAD_STATUS_LAST_ERR 6

/-- A resumed run (R104): at FPC of the record, skipping the words whose mask bit is 1, and with SKIP the word at FPC. The
latest control transfer counts only if the mask names it: one at FPC is of an earlier pass. -/
def State.resume (s : State) (e : Nat) : State :=
  let x := s.eng e
  let fpc := s.get (SLU_ENG_FLT0_FPC e)
  let mask := s.get (SLU_ENG_MASKHI_MASK e) * 2 ^ 32 + s.get (SLU_ENG_MASKLO_MASK e)
  let done := ((List.range 64).filter (fun i => bitOf mask i == 1)).map (fun i => fpc + i)
  let skip := if s.on (SLU_ENG_RESUME_SKIP e) then fpc :: done else done
  let s := s.setEng e { x with
    pc := fpc, faults := [], doneMask := [], skipWords := skip, entries := []
    branch := x.branch.filter (fun b => done.contains b.1) }
  ((s.zero [SLU_ENG_FLT0_VALID e, SLU_ENG_CTL_START e]).setB (SLU_ENG_RESUME_SKIP e) false).enterRun e

/-- START (R81, R104): from IDLE or HALTED at ENTRY of the bank, from FAULTED at FPC of its record; while the record is not
written, START stands until it is (log entry 78). In debug halt it has no effect (R505). -/
def State.engStart (s : State) (e : Nat) : State :=
  if s.on GLB_STATUS_DEBUG then s
  else match s.engState e with
  | 1 | 4 => s.startEntry e (s.get (SLU_ENG_CTL_BANK e))
  | 5 => if s.on (SLU_ENG_FLT0_VALID e) then s.resume e else s.setB (SLU_ENG_CTL_START e) true
  | _ => s

/-- STOP, or KILL: what has started completes, nothing more starts (R81); a START that stands finds no effect. -/
def State.engDrain (s : State) (e : Nat) : State :=
  if s.engState e = 2 ∨ s.engState e = 5 then (s.setB (SLU_ENG_CTL_START e) false).set (SLU_ENG_STATUS_STATE e) 3 else s

/-- SLU_LOAD_GO (R78): SLU_LOAD written with GO 1. -/
def execSluLoadGo (k : Fin 4) (s : State) : Outcome := answer (s.gated adr_SLU_LOAD (fun s => s.loadGo k))

/-- VERIFICATION_END (R78). -/
def execVerificationEnd (k : Fin 4) (s : State) : Outcome := answer (s.loadEnd k)

/-- WINDOW_WRITE (R79): 32 bits at a word-aligned window offset, given in words. -/
def execWindowWrite (word : BitVec 19) (v : W32) (s : State) : Outcome :=
  answer (s.gated (0x01000000 + 4 * word.toNat) (fun s => s.windowWrite (4 * word.toNat) v.toNat))

/-- START (R81): SLU_ENGn_CTL written with START 1 and a bank. -/
def execStart (e : Fin 4) (bank : Fin 4) (s : State) : Outcome :=
  answer (s.gated (adr_SLU_ENG_CTL e) (fun s => (s.set (SLU_ENG_CTL_BANK e) bank).engStart e))

/-- STOP (R81). -/
def execStop (e : Fin 4) (s : State) : Outcome := answer (s.gated (adr_SLU_ENG_CTL e) (fun s => s.engDrain e))

/-- KILL (R81). -/
def execKill (e : Fin 4) (s : State) : Outcome := answer (s.gated (adr_SLU_ENG_CTL e) (fun s => s.engDrain e))

/-- ENGINE_DRAINED (R81). -/
def execEngineDrained (e : Fin 4) (s : State) : Outcome :=
  answer (if s.engState e = 3 ∧ (s.eng e).entries.isEmpty = true then s.set (SLU_ENG_STATUS_STATE e) 1 else s)

/-- A START that stands acts once the record is written (R81, R104; log entry 78). -/
def State.heldStart (s : State) (e : Nat) : State :=
  if s.on (SLU_ENG_CTL_START e) && s.on (SLU_ENG_FLT0_VALID e) && s.engState e == 5 then s.resume e else s

/-- FAULT_RECORD (R102). -/
def execFaultRecord (e : Fin 4) (s : State) : Outcome := answer ((s.faultRecord e).heldStart e)

end Sys2Proof.Machine
end

