-- ==== Sys2Proof/Machine/Carrier.lean ====
section
/-! DEFINITION. A carrier's start, hold and restart: what an enable's completion, R487, R507 and R550 share. -/

namespace Sys2Proof.Machine

open Reg

/-- Transmit starts with the next frame: pilot block 0, component block 0, word 0 (R270, R272, R303, R314). -/
def State.startTransmit (s : State) (c : Nat) : State :=
  let t := (s.car c).tx
  let s := s.setCarTx c { t with block := 0, words := [], restLen := 0, rest := 0, coded := [], bei := false, running := true }
  let s := s.mapLine c (fun l => { l with
    symN := 0, acc := 0, data := [], sentX := [], sentY := [], sentN := 0, shaped := [], dac := none })
  s.showTxFormat c

/-- Transmit and acquisition of a carrier start, or start again, and its tributaries start new first seals (R176, R487). -/
def State.startCarrier (s : State) (c : Nat) : State :=
  let s := s.startTransmit c
  let s := s.setCar c { s.car c with firstSeals := true }
  if s.carHeld then s.acqStop c else (s.acqSearch c).rxDown c

/-- Something that holds both carriers has begun (R487, R507, R550): what is enabled stops receiving. -/
def State.holdCarriers (s : State) : State :=
  if s.carHeld then
    [0, 1].foldl (fun s c => if (s.car c).active && (s.car c).tx.running then s.acqStop c else s) s
  else s

/-- A hold has ended: unless another one holds them, the carriers start as after their enable (R487, R507). -/
def State.unholdCarriers (s : State) : State :=
  if s.carHeld then s
  else [0, 1].foldl (fun s c => if (s.car c).ost == .enabled && (s.car c).tx.running then s.startCarrier c else s) s

/-- Change what may hold the carriers, and follow. -/
def State.withHold (s : State) (f : State → State) : State :=
  let t := f s
  if s.carHeld = t.carHeld then t else if t.carHeld then t.holdCarriers else t.unholdCarriers

end Sys2Proof.Machine
end

