-- ==== Sys2Proof/Machine/Thermal.lean ====
section
/-! DEFINITION. The thermal model, broken diodes, shutter steps and the trip (R473 to R491). -/

namespace Sys2Proof.Machine

open Reg

/-! ## Zones and diodes (R473, R474, R476, R479) -/

/-- The neighbours of a model-only zone. -/
def zoneNeighbours (z : Nat) : List Nat :=
  if z = 12 then [1, 4] else if z = 13 then [3, 5] else if z = 14 then [4, 5] else if z = 15 then [5, 6] else []

/-- Model value and correction of a zone, in 1/1000 of 0.25 °C. -/
def State.zoneModel (s : State) (z : Nat) : Int := Assoc.get 0 z s.thm.model
def State.zoneCorr (s : State) (z : Nat) : Int := Assoc.get 0 z s.thm.corr

/-- A diode is failed: its code of R478, or a trial of it. -/
def State.diodeBad (s : State) (d : Nat) : Bool := s.get (THM_DIODE_STATE d) != 0

/-- Change the thermal memory. -/
def State.mapThm (s : State) (f : Thermal → Thermal) : State := { s with thm := f s.thm }

/-- The guard applies to a zone (R479). -/
def State.zoneGuarded (s : State) (z : Nat) : Bool :=
  if z < 12 then s.diodeBad z else (zoneNeighbours z).all s.diodeBad

/-- The mean of a list of numbers; 0 for an empty one. -/
def meanInt (l : List Int) : Int := if l.isEmpty then 0 else l.sum / l.length

/-- The corrections of model-only zones (R474, R479). -/
def State.modelOnly (s : State) : State :=
  [12, 13, 14, 15].foldl (fun s z =>
    let good := (zoneNeighbours z).filter (fun d => !(s.diodeBad d))
    s.mapThm (fun t => { t with corr := Assoc.put z (meanInt (good.map s.zoneCorr)) t.corr })) s

/-- How many diodes have failed, and which, bit by bit. -/
def State.failedDiodes (s : State) : List Nat := (List.range 12).filter s.diodeBad

/-- UNANCHORED and the floor (R480). -/
def State.showAnchor (s : State) : State :=
  let un := decide (6 ≤ s.failedDiodes.length)
  let was := s.on THM_STATUS_UNANCHORED
  let s := (s.setB THM_STATUS_UNANCHORED un).set THM_STATUS_FLOOR (if un then 3 else 0)
  if un ∧ was = false then
    (s.setB THM_EVENT_UNANCH true).post srcTHM 0x05 0 [s.failedDiodes.foldl (fun m d => m + 2 ^ d) 0]
  else s

/-- The zone with the highest estimate, the lowest on a tie. -/
def State.hotZone (s : State) : Nat :=
  (List.range 16).foldl (fun b z => if s.zoneEst b < s.zoneEst z then z else b) 0

/-- HELD (R486): the first guarded zone above TSTEP − HYST only through its guard. -/
def State.heldZone (s : State) : Option Nat :=
  let lim : Int := 4 * ((s.get THM_CTL_TSTEP : Int) - s.get THM_CTL_HYST)
  (List.range 16).find? (fun z => s.on (THM_ZONE_GUARD z) && decide (lim < s.zoneEst z) && decide (s.zoneBare z ≤ lim))

/-- Show estimates, guards and what follows from them (R474, R477, R479, R486). -/
def State.showZones (s : State) : State :=
  let s := (List.range 16).foldl (fun s z =>
    let g := s.zoneGuarded z
    let e := roundDiv (s.zoneModel z + s.zoneCorr z) 1000 + (if g then 4 * (s.get THM_CTL_GUARD : Int) else 0)
    (s.setI (THM_ZONE_EST z) e).setB (THM_ZONE_GUARD z) g) s
  let s := (List.range 12).foldl (fun s d => s.setI (THM_DIODE_CORR d) (roundDiv (s.zoneCorr d) 1000)) s
  let h := s.hotZone
  let s := (s.set THM_STATUS_HOTZONE h).setI THM_STATUS_HOTTEMP (s.zoneEst h)
  let s := (s.setI (CNV_C_STATUS_TEMP 0) (s.zoneBare 0)).setI (CNV_C_STATUS_TEMP 1) (s.zoneBare 2)
  match s.heldZone with
  | none => s.setB THM_STATUS_HELD false
  | some z =>
    if s.on THM_STATUS_HELD then s
    else
      ((s.setB THM_STATUS_HELD true).setB THM_EVENT_HELD true).post srcTHM 0x03 0 [z, iw (s.zoneEst z), iw (s.zoneBare z)]

/-- A diode is declared failed (R478, R479, R486). -/
def State.failDiode (s : State) (d cause : Nat) : State :=
  let s := s.set (THM_DIODE_STATE d) cause
  let s := s.mapThm (fun t => { t with corr := Assoc.put d 0 t.corr, coolMs := 0 })
  let s := (s.setB THM_EVENT_DIODE true).post srcTHM 0x02 0 [d, cause, iw (s.getI (THM_DIODE_READ d))]
  s.fireWake 5

/-- A reading that passed the electrical check: shown, and remembered for the next millisecond (R478, R491). -/
def State.tookReading (s : State) (d : Nat) (r : Int) : State :=
  (s.setI (THM_DIODE_READ d) r).mapThm (fun t => { t with reads := Assoc.put d r t.reads })

/-- Read one diode into the model (R474, R478, R481). The correction moves by 1/100 of its distance in a millisecond,
rounded down (log entry 24). -/
def State.readDiode (s : State) (d : Nat) (r : Option Int) : State :=
  let st := s.get (THM_DIODE_STATE d)
  if st = 0 then
    match r with
    | none => s.failDiode d 1
    | some r =>
      let old := Assoc.get r d s.thm.reads
      let s := s.tookReading d r
      if 20 < (r - old).natAbs then s.failDiode d 2
      else
        let k := s.zoneCorr d
        let k' := k + (1000 * r - s.zoneModel d - k) / 100
        if 60000 < k'.natAbs then s.failDiode d 3
        else s.mapThm (fun t => { t with corr := Assoc.put d k' t.corr })
  else if st = 4 then
    let s := match r with
      | some r => s.tookReading d r
      | none => s
    let model := s.zoneModel d
    let one (t : Trial) : Trial :=
      let bad : Nat := match r with
        | none => 1
        | some r =>
          if (match t.last with | some o => decide (20 < (r - o).natAbs) | none => false) then 2
          else if 5000 * 4 < (1000 * r - model).natAbs then 3 else 0
      { t with ms := t.ms + 1, last := r, bad := if t.bad = 0 then bad else t.bad }
    s.mapThm (fun t => { t with trials := t.trials.map (fun x => if x.diode = d then one x else x) })
  else s

/-- The model advances by a millisecond (R474). -/
def State.modelAdvance (s : State) (x : ModelTick) : State :=
  let s := s.mapThm (fun t => { t with model := (List.range 16).map (fun z => (z, x.model.getD z 0)) })
  let s := (List.range 16).foldl (fun s z => s.set (THM_ZONE_PWR z) (min 65535 (x.power.getD z 0))) s
  let s := s.set THM_PWR_PTOT (min 65535 x.ptot)
  let s := (List.range 12).foldl (fun s d => s.readDiode d (x.diodes.getD d none)) s
  let s := ((s.modelOnly).showAnchor).showZones
  (s.windowCheck).calSyncAll

/-- Seeding at bring-up (R476): anchored zones take their diodes, the others the mean of their neighbours. -/
def State.seedModel (s : State) (diodes : List Int) : State :=
  let m := (List.range 12).map (fun d => (d, 1000 * diodes.getD d 0))
  let s := s.mapThm (fun _ => { model := m })
  let s := [12, 13, 14, 15].foldl (fun s z =>
    s.mapThm (fun t => { t with model := Assoc.put z (meanInt ((zoneNeighbours z).map s.zoneModel)) t.model })) s
  let s := (List.range 12).foldl (fun s d => s.tookReading d (diodes.getD d 0)) s
  (((s.setB THM_STATUS_SEEDED true).modelOnly).showZones).windowCheck

/-! ## The controller (R485) -/

/-- TRIP in °C (R485). -/
def State.tripTemp (s : State) : Nat := if s.gradeX then 120 else 115

/-- Count evaluations in a row of each zone for which a test holds. -/
def countZones (m : List (Nat × Nat)) (f : Nat → Bool) : List (Nat × Nat) :=
  (List.range 16).filterMap (fun z => if f z then some (z, Assoc.get 0 z m + 1) else none)

/-- Some zone has met a condition at this evaluation and for so many milliseconds before it. -/
def longer (m : List (Nat × Nat)) (ms : Nat) : Bool := m.any (fun e => decide (ms < e.2))

/-- The conditions of R485. -/
def State.hotNow (s : State) : Bool := longer s.thm.hot 10
def State.overNow (s : State) : Bool := decide (10 < s.thm.overMs)
def State.coolNow (s : State) : Bool := decide (s.get THM_DWELL_RELDWELL < s.thm.coolMs)
def State.settled (s : State) : Bool := decide (s.get THM_DWELL_ENTDWELL ≤ s.thm.sinceStep)
def State.tripDue (s : State) : Bool := longer s.thm.tripMs 1
def State.clearDue (s : State) : Bool := decide (10000 < s.thm.clearMs)

/-- One evaluation of the conditions. -/
def State.evaluate (s : State) : State :=
  let tstep : Int := 4 * (s.get THM_CTL_TSTEP : Int)
  let low : Int := tstep - 4 * (s.get THM_CTL_HYST : Int)
  let trip : Int := 4 * (s.tripTemp : Int)
  let all (l : Int) : Bool := (List.range 16).all (fun z => decide (s.zoneEst z ≤ l))
  s.mapThm (fun t => { t with
    hot := countZones t.hot (fun z => decide (tstep ≤ s.zoneEst z))
    overMs := if s.get THM_PWR_PLIM < s.get THM_PWR_PTOT then t.overMs + 1 else 0
    coolMs := if all low && decide (20 * s.get THM_PWR_PTOT ≤ 19 * s.get THM_PWR_PLIM) then t.coolMs + 1 else 0
    tripMs := countZones t.tripMs (fun z => decide (trip ≤ s.zoneEst z))
    clearMs := if all (trip - 60) then t.clearMs + 1 else 0
    sinceStep := t.sinceStep + 1 })

/-- The step changes: what follows in the pool, the counters and the events (R284, R484, R490). -/
def State.changeStep (s : State) (new cause : Nat) : State :=
  let old := s.shutter
  let s := s.set THM_STATUS_STEP new
  let s := if old < new then (s.setB THM_EVENT_UP true).bump THM_COUNT_ENTRIES 1 else s.setB THM_EVENT_DOWN true
  let s := s.mapThm (fun t => { t with sinceStep := 0 })
  let s := s.post srcTHM 0x01 0 [old, new, cause, s.hotZone, iw (s.zoneEst s.hotZone)]
  let s := if old = 0 ∧ new ≠ 0 then s.pmc 0x30 0 1 else s
  (s.fecStep old).fireWake 5

/-- NORMAL, and no trip is due. -/
def State.mayStep (s : State) : Bool := !(s.on THM_STATUS_TRIP) && !(s.tripDue)

/-- The step in force rises (R485). -/
def State.stepUp (s : State) : State :=
  if s.mayStep && decide (s.get THM_STATUS_FLOOR ≤ s.shutter) && decide (s.shutter < 7) && (s.hotNow || s.overNow)
      && s.settled then
    s.changeStep (s.shutter + 1) (if s.hotNow then 1 else 2)
  else s

/-- The step in force falls (R485). -/
def State.stepRelease (s : State) : State :=
  if s.mayStep && decide (s.get THM_STATUS_FLOOR < s.shutter)
      && !(decide (s.shutter < 7) && (s.hotNow || s.overNow) && s.settled)
      && s.coolNow && decide (s.get THM_DWELL_RELDWELL ≤ s.thm.sinceStep) then
    s.changeStep (s.shutter - 1) 3
  else s

/-- A trip (R485, R487). -/
def State.tripIn (s : State) : State :=
  if s.on THM_STATUS_TRIP = false ∧ s.tripDue = true then
    let z := s.hotZone
    let s := if s.shutter = 7 then s else s.changeStep 7 5
    let s := (s.setB THM_EVENT_TRIP true).bump THM_COUNT_TRIPS 1
    let s := s.post srcTHM 0x04 0 [1, z, iw (s.zoneEst z)]
    (s.withHold (fun s => s.setB THM_STATUS_TRIP true)).fireWake 5
  else s

/-- The trip clears (R485, R487). -/
def State.tripOut (s : State) : State :=
  if s.on THM_STATUS_TRIP = true ∧ s.clearDue = true then
    let z := s.hotZone
    let s := (s.setB THM_EVENT_TRIPCLR true).post srcTHM 0x04 0 [0, z, iw (s.zoneEst z)]
    (s.withHold (fun s => s.setB THM_STATUS_TRIP false)).fireWake 5
  else s

/-- THM_DIODECTL is written (R481). -/
def State.reinstate (s : State) (mask : Nat) : State :=
  (List.range 12).foldl (fun s d =>
    let st := s.get (THM_DIODE_STATE d)
    if bitOf mask d = 1 ∧ 1 ≤ st ∧ st ≤ 3 then
      (s.set (THM_DIODE_STATE d) 4).mapThm (fun t => { t with trials := t.trials ++ [{ diode := d }] })
    else s) s

/-- A trial ends after its 10 s, or once a check has failed (R481). -/
def State.trialEnd (s : State) (d : Nat) : State :=
  match s.thm.trials.find? (fun t => t.diode == d) with
  | none => s
  | some t =>
    if t.bad = 0 ∧ t.ms < 10000 then s
    else
      let s := s.mapThm (fun x => { x with trials := x.trials.filter (fun y => y.diode != d), corr := Assoc.put d 0 x.corr })
      let s := (s.set (THM_DIODE_STATE d) t.bad).setB THM_EVENT_REINST true
      let s := s.post srcTHM 0x06 0 [d, (decide (t.bad = 0)).toNat]
      ((s.modelOnly).showAnchor).showZones

/-! ## Commands -/

/-- THERMAL_EVALUATION (R485): the conditions, and the step up to the floor. -/
def execThermalEvaluation (s : State) : Outcome :=
  let s := s.evaluate
  answer (if s.mayStep ∧ s.shutter < s.get THM_STATUS_FLOOR then s.changeStep (s.get THM_STATUS_FLOOR) 4 else s)

/-- STEP_UP (R485). -/
def execStepUp (s : State) : Outcome := answer s.stepUp

/-- STEP_RELEASE (R485). -/
def execStepRelease (s : State) : Outcome := answer s.stepRelease

/-- TRIP (R487). -/
def execTrip (s : State) : Outcome := answer s.tripIn

/-- TRIP_CLEAR (R485). -/
def execTripClear (s : State) : Outcome := answer s.tripOut

/-- REINSTATE (R481): THM_DIODECTL written with these bits. -/
def execReinstate (mask : BitVec 12) (s : State) : Outcome :=
  answer (s.gated adr_THM_DIODECTL (fun s => s.reinstate mask.toNat))

/-- REINSTATE_END (R481). -/
def execReinstateEnd (d : Fin 12) (s : State) : Outcome := answer (s.trialEnd d)

end Sys2Proof.Machine
end

