-- ==== Sys2Proof/Machine/Prbs.lean ====
section
/-! DEFINITION. Test patterns of the host lanes and their checker (R135 to R138). The patterns are those of IEEE 802.3, PRESUMED in log
entry 63: PRBS9 is x^9 + x^5 + 1, PRBS13 is x^13 + x^12 + x^2 + x + 1, PRBS31 is x^31 + x^28 + 1 inverted, and SSPRQ a fixed sequence
of 65,535 levels that the spec does not print (`Config.ssprq`). -/

namespace Sys2Proof.Machine

/-- Bits of a pattern's register. -/
def prbsLen (pat : Nat) : Nat := if pat = 0 then 9 else if pat = 1 then 13 else 31

/-- The next bit of a pattern from its register, the newest bit in bit 0. -/
def prbsBit (pat reg : Nat) : Bool :=
  if pat = 0 then (bitOf reg 8 + bitOf reg 4) % 2 == 1
  else if pat = 1 then (bitOf reg 12 + bitOf reg 11 + bitOf reg 1 + bitOf reg 0) % 2 == 1
  else (bitOf reg 30 + bitOf reg 27) % 2 == 0

/-- A bit enters a pattern's register. -/
def prbsPush (pat reg : Nat) (b : Bool) : Nat := (2 * reg + b.toNat) % 2 ^ prbsLen pat

/-- Levels of the SSPRQ sequence. -/
def ssprqLength : Nat := 65535

/-- The next level of a pattern, and its register after. -/
def prbsLevel (pat reg : Nat) : Nat × Nat :=
  if pat = 3 then ((Config.ssprq (reg % ssprqLength)).val, (reg + 1) % ssprqLength)
  else
    let a := prbsBit pat reg
    let r := prbsPush pat reg a
    let b := prbsBit pat r
    (Client.grayLevel a b, prbsPush pat r b)

/-- Where a generator starts: any register that belongs to the pattern (a free value of the lane). -/
def prbsStart (lane pat : Nat) : Nat :=
  if pat = 0 ∨ pat = 1 then 1 + Config.prbsSeed lane % (2 ^ prbsLen pat - 1)
  else Config.prbsSeed lane % (if pat = 3 then ssprqLength else 2 ^ 31 - 1)

/-- So many levels of a pattern in the order sent, and the register after. -/
def prbsLevels (pat reg k : Nat) : List Nat × Nat :=
  let r := (List.range k).foldl (fun (p : List Nat × Nat) _ =>
    let x := prbsLevel pat p.2
    (x.1 :: p.1, x.2)) ([], reg)
  (r.1.reverse, r.2)

/-- A checker at work: its memory, sync, whether it lost sync, both counters, SAT, and the bit errors found. -/
structure PrbsWork where
  chk : PrbsChk
  sync : Bool
  lost : Bool
  bits : Nat
  errs : Nat
  sat : Bool
  found : Nat

/-- A symbol reaches a checker that is seeding: the register follows what arrives until 1,024 symbols in a row are as the
pattern has them (R137). A register that no pattern has is no seed. -/
def prbsSeek (pat : Nat) (w : PrbsWork) (v : Nat) : PrbsWork :=
  let c := w.chk
  let next := prbsLevel pat c.reg
  let ready := decide (16 ≤ c.seen) && (pat == 3 || c.reg != (if pat = 2 then 2 ^ 31 - 1 else 0))
  let run := if ready && next.1 == v then c.run + 1 else 0
  let hist := ((Client.grayBits v).foldl (fun r b => (2 * r + b.toNat) % 2 ^ 32) c.n)
  let reg := if pat = 3 then (if run = 0 then Config.ssprqPlace hist % ssprqLength else next.2)
    else (Client.grayBits v).foldl (fun r b => prbsPush pat r b) c.reg
  if run = 1024 then { w with chk := { seen := 0, reg := reg, run := 0, n := 0, errs := [] }, sync := true }
  else { w with chk := { c with seen := c.seen + 1, reg := reg, run := run, n := hist } }

/-- Bits in which two levels differ. -/
def levelErrors (a b : Nat) : Nat :=
  ((List.zipWith (fun x y => x != y) (Client.grayBits a) (Client.grayBits b)).filter (fun x => x)).length

/-- A symbol reaches a checker in sync: it is counted (R138), and the 64th error among 1,024 symbols ends sync (R137). -/
def prbsCheck (pat : Nat) (w : PrbsWork) (v : Nat) : PrbsWork :=
  let c := w.chk
  let next := prbsLevel pat c.reg
  let e := levelErrors next.1 v
  let errs := (if e = 0 then c.errs else c.n :: c.errs).filter (fun i => decide (c.n < i + 1024))
  let w := { w with found := w.found + e }
  let w : PrbsWork :=
    if w.sat then w
    else if w.bits + 2 < 2 ^ 48 then { w with bits := w.bits + 2, errs := min (w.errs + e) (2 ^ 48 - 1) }
    else { w with bits := 2 ^ 48 - 2, sat := true }
  if 64 ≤ errs.length then { w with chk := {}, sync := false, lost := true }
  else { w with chk := { c with reg := next.2, n := c.n + 1, errs := errs } }

/-- A symbol reaches a checker. -/
def prbsSymbol (pat : Nat) (w : PrbsWork) (v : Nat) : PrbsWork :=
  if w.sync then prbsCheck pat w v else prbsSeek pat w v

end Sys2Proof.Machine
end

