-- ==== Sys2Proof/Machine/Host.lean ====
section
/-! DEFINITION. Host lanes and groups: adaptation, group states, received codewords and cells, what the host is sent, test
patterns (R110 to R142, R149 to R160, R175 to R177, R216, R222, R223). -/

namespace Sys2Proof.Machine

open Reg

/-! ## Groups (R119, R120, R126) -/

/-- The tributaries, as (direction, index), that name a group and are bound. -/
def State.grpTribs (s : State) (g : Nat) : List (Nat × Nat) :=
  s.tribList.filter (fun p => !(s.trib p.1 p.2).desc.isEmpty && tdHgrp (s.trib p.1 p.2).desc == g)

/-- Those that are ENABLED or DRAINING, of one direction. -/
def State.grpRunning (s : State) (d g : Nat) : List Nat :=
  ((s.grpTribs g).filter (fun p => p.1 == d && (s.trib p.1 p.2).active)).map (fun p => p.2)

/-- A group exists while a bound tributary names it; its descriptor fields are that tributary's. Where tributaries that name
it differ (BIND checks it only with EN 1), a running one goes before one that is only bound, then transmit before receive,
then the lowest index (DESIGN CHOICE, log entry 86: R120 does not say). -/
def State.grpDesc (s : State) (g : Nat) : Option (List Nat) :=
  (((s.grpTribs g).find? (fun p => (s.trib p.1 p.2).active)).orElse (fun _ => (s.grpTribs g).head?)).map
    (fun p => (s.trib p.1 p.2).desc)

/-- A group is active while a tributary that names it is enabled. -/
def State.grpActive (s : State) (g : Nat) : Bool := !(s.grpRunning 0 g).isEmpty || !(s.grpRunning 1 g).isEmpty

/-- The lanes of a group. -/
def State.grpLanes (s : State) (g : Nat) : List Nat := ((s.grpDesc g).map lanesOf).getD []

/-- The groups that name a lane. -/
def State.laneGrps (s : State) (l : Nat) : List Nat := (List.range 28).filter (fun g => (s.grpLanes g).contains l)

/-- The group that a lane shows: of two that name it the active one, then the lowest number (DESIGN CHOICE, log entry 86: R139
does not say). -/
def State.laneGrp (s : State) (l : Nat) : Option Nat :=
  ((s.laneGrps l).find? s.grpActive).orElse (fun _ => (s.laneGrps l).head?)

/-- A group that holds a lane is active. -/
def State.laneTaken (s : State) (l : Nat) : Bool := (s.laneGrps l).any s.grpActive

/-- A lane's state (R116): OFF while its quad is not on. -/
def State.laneState (s : State) (l : Nat) : Nat := s.get (HLN_LANE_STATUS_STATE l)

/-- A lane is LOCKED. -/
def State.laneLocked (s : State) (l : Nat) : Bool := s.laneState l == 3 && s.pdOn (hlnPolder l)

/-- A group's codeword counts return to 0 (R140). -/
def State.zeroCodewords (s : State) (g : Nat) : State :=
  s.zero [HLN_GRP_CORRLO_COUNT g, HLN_GRP_CORRHI_COUNT g, HLN_GRP_UNCLO_COUNT g, HLN_GRP_UNCHI_COUNT g]

/-- Show a group's lanes and format (R140): the codeword counts read zero for a channelised group. -/
def State.showGroup (s : State) (g : Nat) : State :=
  match s.grpDesc g with
  | some d =>
    let s := if tdEthernet d then s else s.zeroCodewords g
    ((s.set (HLN_GRP_STATUS_HLANE0 g) (tdHlane0 d)).set (HLN_GRP_STATUS_HLANES g) (tdHlanes d)).set (HLN_GRP_STATUS_FORMAT g)
      (tdClient d)
  | none => ((s.set (HLN_GRP_STATUS_HLANE0 g) 0).set (HLN_GRP_STATUS_HLANES g) 0).set (HLN_GRP_STATUS_FORMAT g) 7

/-- Lanes fall silent (R119). -/
def State.squelch (s : State) (l : List Nat) : State :=
  l.foldl (fun s i => s.setLane i { s.lane i with out := [], txBits := [] }) s

/-- The stream of a group on HTX starts anew with a marker period on its first lane (R157). -/
def State.restartStream (s : State) (g : Nat) : State :=
  let s := (s.grpLanes g).foldl (fun s i => s.setLane i { s.lane i with txBits := [] }) s
  s.setGroup g { s.group g with turn := 0, cellPos := 0 }

/-- While a group is not UP, its transmit tributaries send replacement (R128); from UP on they resume at their next seal
boundary (R130). -/
def State.groupFill (s : State) (g : Nat) (up : Bool) : State :=
  (s.grpRunning 0 g).foldl (fun s n =>
    let t := (s.trib 0 n).tx
    if up then (if t.fill == .hostFail then s.setTribTx n { t with resume := true } else s)
    else if t.fill == .client then
      s.setTribTx n { t with fill := .hostFail, resume := false, blocks := [], outFrame := false }
    else s.setTribTx n { t with resume := false }) s

/-- A group leaves UP (R126). -/
def State.groupFails (s : State) (g st : Nat) : State :=
  let s := (s.set (HLN_GRP_STATUS_STATE g) st).setB (HLN_GRP_EVENT_FAIL g) true
  (s.groupFill g false).post srcHLN 0x02 (hGroup g) [st]

/-- A group enters ALIGN: marker search and deskew start (R126). -/
def State.groupAlign (s : State) (g : Nat) : State :=
  let s := (s.grpLanes g).foldl (fun s l => s.setLane l { s.lane l with markerLock := false, cands := [], missed := 0 }) s
  (s.set (HLN_GRP_STATUS_STATE g) 2).setB (HLN_GRP_SKEW_SKEWERR g) false

/-- Codewords since a lane's marker position (R157). -/
def Lane.phase (x : Lane) : Nat := (x.cwAt + 264 - x.markAt) % 264

/-- A group enters UP: deskewed, its codeword counts start, and the data of a channelised lane is taken from its next marker on, of a lane
whose marker is still to come while another's of the same period has passed from the one after (R125, R126, R140, R157). -/
def State.groupUp (s : State) (g : Nat) : State :=
  let early := (s.grpLanes g).any (fun l => decide ((s.lane l).phase < 132))
  let eth := s.get (HLN_GRP_STATUS_FORMAT g) != 0
  let s := (s.grpLanes g).foldl (fun s l => s.setLane l { s.lane l with
    bits := [], sinceMark := 0, await := if eth then 0 else if early && decide (132 ≤ (s.lane l).phase) then 2 else 1 }) s
  let s := s.setGroup g { s.group g with rxTurn := 0 }
  let s := s.zeroCodewords g
  (s.set (HLN_GRP_STATUS_STATE g) 3).groupFill g true

/-- An active group takes a lane from its generator (R136). -/
def State.takeLane (s : State) (l : Nat) : State :=
  if s.on (HLN_LANE_PRBS_GENEN l) then (s.setB (HLN_LANE_PRBS_GENEN l) false).setB (HLN_LANE_EVENT_PRBSDENY l) true else s

/-- A group becomes active: it takes its lanes from any generator (R126, R136). -/
def State.groupStart (s : State) (g : Nat) : State :=
  let s := (s.grpLanes g).foldl (fun s l => s.takeLane l) s
  ((s.restartStream g).set (HLN_GRP_STATUS_STATE g) 1).groupFill g false

/-- The groups with lanes in a quad start their streams anew once its HTX is on again (R157). -/
def State.restartQuad (s : State) (n : Nat) : State :=
  ((List.range 28).filter (fun g => s.grpActive g && (s.grpLanes g).any (fun l => hlnPolder l == n))).foldl
    (fun s g => s.restartStream g) s

/-- A group remembers, while it stays active, that a receive tributary of it has run (R175). -/
def State.noteRx (s : State) (g : Nat) : State :=
  let x := s.group g
  let had := s.grpActive g && (x.hadRx || !(s.grpRunning 1 g).isEmpty)
  if had = x.hadRx then s else s.setGroup g { x with hadRx := had }

/-- One step of the table of R126. -/
def State.groupStep (s : State) (g : Nat) : State :=
  let st := s.get (HLN_GRP_STATUS_STATE g)
  let lanes := s.grpLanes g
  let locked := !s.jtagHold && lanes.all s.laneLocked
  let marks := lanes.all (fun l => (s.lane l).markerLock)
  if s.grpActive g = false then
    (if st = 0 then s else (s.set (HLN_GRP_STATUS_STATE g) 0).squelch lanes)
  else if st = 0 then s.groupStart g
  else if st = 1 then (if locked then s.groupAlign g else s)
  else if st = 2 then
    (if locked = false then s.set (HLN_GRP_STATUS_STATE g) 1
     else if marks ∧ s.on (HLN_GRP_SKEW_SKEWERR g) = false then s.groupUp g else s)
  else if locked = false then s.groupFails g 1
  else if marks then s else (s.groupFails g 2).setB (HLN_GRP_SKEW_SKEWERR g) false

/-- A group follows its lanes and tributaries: through FAIL to ALIGN in one go when every lane is LOCKED. -/
def State.evalHost (s : State) (g : Nat) : State := (((s.showGroup g).groupStep g).groupStep g).noteRx g

/-- Every group. -/
def State.evalHosts (s : State) : State := (List.range 28).foldl (fun s g => s.evalHost g) s

/-- The groups of a lane. -/
def State.evalLane (s : State) (l : Nat) : State := (s.laneGrps l).foldl (fun s g => s.evalHost g) s

/-! ## Adaptation (R114 to R118) -/

/-- The default coefficients (R115). -/
def State.laneDefaults (s : State) (l : Nat) : State :=
  ((s.set (HLN_LANE_ADAPT0_CTLE l) 0x0C).zero [HLN_LANE_ADAPT0_FFEPRE l, HLN_LANE_ADAPT0_FFEPOST l, HLN_LANE_ADAPT1_DFE l])

/-- A lane event (R538). -/
def State.laneEvent (s : State) (l : Nat) : State := s.post srcHLN 0x01 0 [l, s.laneState l]

/-- What the receiver shows; FREEZE holds the coefficients (R114). -/
def State.laneShow (s : State) (l : Nat) (m : LaneMeas) : State :=
  let s := (s.set (HLN_LANE_STATUS_SNR l) m.snr.toNat).setB (HLN_LANE_STATUS_CDRLOCK l) m.cdr
  if s.on (HLN_LANE_CTL_FREEZE l) then s
  else
    let s := (s.set (HLN_LANE_ADAPT0_CTLE l) m.ctle.toNat).set (HLN_LANE_ADAPT0_FFEPRE l) m.ffePre.toNat
    (s.set (HLN_LANE_ADAPT0_FFEPOST l) m.ffePost.toNat).set (HLN_LANE_ADAPT1_DFE l) m.dfe.toNat

/-- DOWN to ADAPT. -/
def State.signalPresent (s : State) (l : Nat) : State :=
  if s.laneState l = 1 then (s.set (HLN_LANE_STATUS_STATE l) 2).setB (HLN_LANE_STATUS_SIGDET l) true else s

/-- ADAPT or LOCKED to DOWN. -/
def State.signalLost (s : State) (l : Nat) : State :=
  let st := s.laneState l
  if st = 2 ∨ st = 3 then
    let s := (s.set (HLN_LANE_STATUS_STATE l) 1).zero [HLN_LANE_STATUS_SIGDET l, HLN_LANE_STATUS_CDRLOCK l, HLN_LANE_STATUS_SNR l]
    let s := s.setB (HLN_LANE_EVENT_LOSTSIG l) true
    if st = 3 then (((s.setB (HLN_LANE_EVENT_LOSTLOCK l) true).laneEvent l).evalLane l) else s
  else s

/-- ADAPT to LOCKED, when CDR and SNR allow it. -/
def State.laneLock (s : State) (l : Nat) (m : LaneMeas) : State :=
  if s.laneState l = 2 then
    let s := s.laneShow l m
    if m.cdr = true ∧ s.get HLN_THRESH_LOCK_SNR ≤ m.snr.toNat then
      (((s.set (HLN_LANE_STATUS_STATE l) 3).pmc 0x10 l 1).laneEvent l).evalLane l else s
  else s

/-- LOCKED to ADAPT, when CDR or SNR is gone. -/
def State.laneUnlock (s : State) (l : Nat) (m : LaneMeas) : State :=
  if s.laneState l = 3 then
    let s := s.laneShow l m
    if m.cdr = false ∨ m.snr.toNat < s.get HLN_THRESH_UNLOCK_SNR then
      (((s.set (HLN_LANE_STATUS_STATE l) 2).setB (HLN_LANE_EVENT_LOSTLOCK l) true).laneEvent l).evalLane l
    else s
  else s

/-! ## Markers (R124 to R126, R158) -/

/-- Skew as its register shows it, and the limit of R125. -/
def skewLimit : Nat := 21250

/-- Ones of a 64-bit number. -/
def ones64 (n : Nat) : Nat := ((List.range 64).map (bitOf n)).sum

/-- What the 132 bytes at the head of a codeword show as a marker (R158): the logical lane. -/
def markerOf (cell : List Byte) : Option Nat :=
  let head := natBE (cell.take 4)
  if fieldOf head 30 2 = 2 ∧ fieldOf head 0 8 = Client.hec (cell.take 3)
      ∧ ones64 (Nat.xor (natBE ((cell.drop 4).take 8)) Client.markerPattern) ≤ 4 then some (fieldOf head 20 10) else none

/-- A codeword passes on a channelised lane: a marker at its head counts for its position, a missing one against it (R157,
R158). -/
def Lane.seeCodeword (x : Lane) (m : Option Nat) : Lane :=
  let at_ := x.cwAt
  let others := x.cands.filter (fun c => c.pos != at_)
  let hits := ((x.cands.find? (fun c => c.pos == at_)).map (fun c => c.hits)).getD 0
  { x with
    cwAt := (at_ + 1) % 264
    cands := match m with
      | some lg => ⟨at_, hits + 1, lg⟩ :: others
      | none => others
    missed := if x.markerLock && at_ == x.markAt then (if m.isSome then 0 else x.missed + 1) else x.missed
    await := if x.markerLock && at_ == x.markAt then x.await - 1 else x.await }

/-- A lane gains marker lock, its group's skew now being so many symbols: an Ethernet lane as the logical lane that its
alignment markers give, a channelised one where markers have stood at one position in 3 periods, as the lane they name
(R126, R158). -/
def State.markerIn (s : State) (l logical skew : Nat) : State :=
  match s.laneGrp l with
  | none => s
  | some g =>
    let x := s.lane l
    let found : Option MarkCand := if s.get (HLN_GRP_STATUS_FORMAT g) = 0 then x.cands.find? (fun c => decide (3 ≤ c.hits))
      else some ⟨0, 3, logical⟩
    if s.grpActive g && s.laneLocked l && s.get (HLN_GRP_STATUS_STATE g) == 2 && found.isSome then
      let c := found.getD ⟨0, 3, logical⟩
      let s := s.setLane l { x with markerLock := true, logical := c.logical, markAt := c.pos, missed := 0 }
      let s := (s.set (HLN_GRP_SKEW_SKEW g) (min skew 0xFFFF)).setB (HLN_GRP_SKEW_SKEWERR g) (decide (skewLimit < skew))
      s.evalHost g
    else s

/-- A lane loses marker lock: a channelised one after 4 periods without a marker (R158). -/
def State.markerOut (s : State) (l : Nat) : State :=
  let eth := ((s.laneGrp l).map (fun g => s.get (HLN_GRP_STATUS_FORMAT g) != 0)).getD false
  if (s.lane l).markerLock && (eth || decide (4 ≤ (s.lane l).missed)) then (s.setLane l { s.lane l with markerLock := false }).evalLane l else s

/-! ## Scrambler of the host PCS (IEEE 802.3, PRESUMED, log entry 8) -/

/-- Undo x^58 + x^39 + 1: the bits and the register after. -/
def descramble (reg : Nat) (l : List Bool) : List Bool × Nat :=
  let r := l.foldl (fun (p : List Bool × Nat) b =>
    ((b != ((bitOf p.2 38 + bitOf p.2 57) % 2 == 1)) :: p.1, p.2 * 2 % 2 ^ 58 + b.toNat)) ([], reg)
  (r.1.reverse, r.2)

/-- Apply it. -/
def scramble (reg : Nat) (l : List Bool) : List Bool × Nat :=
  let r := l.foldl (fun (p : List Bool × Nat) b =>
    let o := b != ((bitOf p.2 38 + bitOf p.2 57) % 2 == 1)
    (o :: p.1, p.2 * 2 % 2 ^ 58 + o.toNat)) ([], reg)
  (r.1.reverse, r.2)

/-- Ten-bit symbols of a bit stream, the first bit least significant (IEEE 802.3, PRESUMED, log entry 8). -/
def symbols10 (l : List Bool) : List Nat := (chunks 10 l).map Client.ofWire
/-- The bits of ten-bit symbols. -/
def bitsOf10 (l : List Nat) : List Bool := l.flatMap (fun v => (List.range 10).map (fun i => bitOf v i == 1))

/-! ## Received codewords and cells (R122, R123, R154 to R159) -/

/-- A carrier of a transmit tributary is enabled and not held, so that its client data is taken (R176, R487). -/
def State.txCarried (s : State) (n : Nat) : Bool :=
  let d := (s.trib 0 n).desc
  let on (c : Nat) : Bool := (s.car c).ost == .enabled && !s.carHeld
  if tdTprot d = 1 ∨ cdCprot s.carA.desc ≠ 0 then on 0 || on 1
  else if tdCarrier d = 2 then on (s.get (TRB_T_PLACE_CARR 0 n))
  else on (tdCarrier d)

/-- A client block joins a transmit tributary's buffer (R150, R151). -/
def State.feedBlock (s : State) (n : Nat) (b : Client.Block) : State :=
  let t := (s.trib 0 n).tx
  let b := if Client.isLowPower b then Client.idle else b
  if t.skipping ∧ Client.isStart b = false then s
  else
    let inF := Client.inFrameAfter t.inFrame b
    let put (bs : List Client.Block) : TribTx := { t with blocks := bs, skipping := false, inFrame := inF }
    let bs := t.blocks ++ [b]
    if bs.length ≤ Config.txBlocks then s.setTribTx n (put bs)
    else match Client.dropIdle false bs with
      | some r => (s.setTribTx n (put r)).bumpPm (TRB_T_DEL_COUNT 0 n) 0 n 3 1
      | none =>
        let bs := if t.inFrame && !t.skipping then t.blocks ++ [Client.errorBlock] else t.blocks
        (s.setTribTx n { t with blocks := bs, skipping := true, inFrame := false }).setB (TRB_T_EVENT_OVERRUN 0 n) true

/-- Client blocks of an Ethernet group reach its transmit tributary. -/
def State.feedBlocks (s : State) (g : Nat) (bs : List Client.Block) : State :=
  (s.grpRunning 0 g).foldl (fun s n =>
    if (s.trib 0 n).tx.fill == .client && s.txCarried n then bs.foldl (fun s b => s.feedBlock n b) s else s) s

/-- Precoding and polarity of a lane on HRX and HTX (R111, R124). -/
def State.lanePre (s : State) (l : Nat) : Bool × Bool :=
  match (s.laneGrp l).bind s.grpDesc with
  | some d => (tdRxPre d == 1, tdTxPre d == 1)
  | none => (s.on (HLN_LANE_CTL_RXPRE l), s.on (HLN_LANE_CTL_TXPRE l))

/-- The bits of a codeword from its levels on the wire, and the decoder's memory. -/
def State.demodulate (s : State) (l : Nat) (levels : List Nat) : List Bool × Nat :=
  let lv := Client.invertLevels (s.on (HLN_LANE_CTL_RXINV l)) levels
  if (s.lanePre l).1 then
    let r := Client.decode1d (s.lane l).rxPre lv
    (r.1.flatMap Client.grayBits, r.2)
  else (lv.flatMap Client.grayBits, lv.getLastD 0)

/-- The levels on the wire for bits, and the precoder's memory. -/
def State.modulate (s : State) (l : Nat) (bits : List Bool) : List Nat × Nat :=
  let lv := Client.levelsOf bits
  let r := if (s.lanePre l).2 then Client.precode (s.lane l).txPre lv else (lv, lv.getLastD 0)
  (Client.invertLevels (s.on (HLN_LANE_CTL_TXINV l)) r.1, r.2)

/-- Both counters of a lane's checker as one number each, and the pair written. -/
def State.pair48 (s : State) (lo hi : Fld) : Nat := s.get hi * 2 ^ 32 + s.get lo
def State.putPair (s : State) (lo hi : Fld) (v : Nat) : State := (s.set lo (v % 2 ^ 32)).set hi (v / 2 ^ 32)

/-- The checker of a lane runs: enabled with a defined pattern, its quad on (R135). -/
def State.prbsRuns (s : State) (l : Nat) : Bool :=
  s.on (HLN_LANE_PRBS_CHKEN l) && decide (s.get (HLN_LANE_PRBS_CHKPAT l) < 4) && s.pdOn (hlnPolder l)

/-- Levels, freed of precoding, reach the checker of a lane (R137, R138). -/
def State.prbsFeed (s : State) (l : Nat) (levels : List Nat) : State :=
  if s.prbsRuns l then
    let w := levels.foldl (prbsSymbol (s.get (HLN_LANE_PRBS_CHKPAT l)))
      { chk := (s.lane l).chk, sync := s.on (HLN_LANE_STATUS_PRBSSYNC l), lost := false
        bits := s.pair48 (HLN_LANE_BITLO_COUNT l) (HLN_LANE_BITHI_COUNT l)
        errs := s.pair48 (HLN_LANE_ERRLO_COUNT l) (HLN_LANE_ERRHI_COUNT l)
        sat := s.on (HLN_LANE_PRBS_SAT l), found := 0 }
    let s := s.setLane l { s.lane l with chk := w.chk }
    let s := (s.setB (HLN_LANE_STATUS_PRBSSYNC l) w.sync).setB (HLN_LANE_PRBS_SAT l) w.sat
    let s := (s.putPair (HLN_LANE_BITLO_COUNT l) (HLN_LANE_BITHI_COUNT l) w.bits).putPair (HLN_LANE_ERRLO_COUNT l)
      (HLN_LANE_ERRHI_COUNT l) w.errs
    let s := if w.lost then s.setB (HLN_LANE_EVENT_PRBSLOSS l) true else s
    s.pmc 0x11 l w.found
  else s

/-- Levels arrive on a lane: its decoder's memory follows, its checker sees them; with their bits. -/
def State.laneLevels (s : State) (l : Nat) (levels : List Nat) : List Bool × State :=
  let dm := s.demodulate l levels
  let s := s.setLane l { s.lane l with rxPre := dm.2 }
  (dm.1, s.prbsFeed l (Client.levelsOf dm.1))

/-- Codewords of 5,140 bits between alignment markers on each Ethernet lane, and blocks of 257 bits that these take at the head of a
period (IEEE 802.3, PRESUMED, log entry 8). -/
def amPeriod : Nat := 4096
def amBlocks : Nat := 4

/-- A codeword of an Ethernet group in the order of its logical lanes (R122, R124): markers removed, descrambled; an uncorrectable
one gives error blocks. -/
def State.takeCodeword (s : State) (g : Nat) : State :=
  match (s.grpLanes g).find? (fun l => (s.lane l).logical == (s.group g).rxTurn) with
  | none => s
  | some l =>
    let x := s.lane l
    if x.bits.length < 5140 then s
    else
      let c := x.bits.take 5140
      let am := if x.sinceMark = 0 then amBlocks else 0
      let s := s.setLane l { x with bits := x.bits.drop 5140, sinceMark := (x.sinceMark + 1) % amPeriod }
      let ds := descramble (s.group g).scrRx ((c.map (fun b => b.1)).drop (257 * am))
      let s := s.setGroup g { s.group g with scrRx := ds.2, rxTurn := ((s.group g).rxTurn + 1) % (s.grpLanes g).length }
      s.feedBlocks g (if c.any (fun b => b.2) then List.replicate (4 * (20 - am)) Client.errorBlock
        else (chunks 257 ds.1).flatMap Client.untranscode)

/-- As many codewords as stand ready. -/
def State.takeCodewords (s : State) (g : Nat) : Nat → State
  | 0 => s
  | k + 1 => (s.takeCodeword g).takeCodewords g k

/-- A codeword on a lane of a group in ALIGN or UP: decoded, counted, searched for a marker on a channelised lane (R158), and its
blocks or bits passed on once the group is UP (R122, R154). -/
def State.rsCodeword (s : State) (l : Nat) (levels : List Nat) : State :=
  let r := s.laneLevels l levels
  let s := r.2
  match s.laneGrp l with
  | none => s
  | some g =>
    let st := s.get (HLN_GRP_STATUS_STATE g)
    if st < 2 then s
    else
      let eth := s.get (HLN_GRP_STATUS_FORMAT g) != 0
      let dec := rsDecode (symbols10 r.1)
      let info := (bitsOf10 ((match dec with | some d => d.1 | none => symbols10 r.1).take 514)).take 5140
      let s := if eth then s else s.setLane l ((s.lane l).seeCodeword (markerOf (bytesOfBits (info.take 1056))))
      if st ≠ 3 then s
      else
        let s := match dec with
          | some (_, true) => if eth then s.bump48 (HLN_GRP_CORRLO_COUNT g) (HLN_GRP_CORRHI_COUNT g) 1 else s
          | some (_, false) => s
          | none =>
            let s := s.setB (HLN_GRP_EVENT_UNCORR g) true
            if eth then s.bump48 (HLN_GRP_UNCLO_COUNT g) (HLN_GRP_UNCHI_COUNT g) 1 else s
        let s := if (s.lane l).await = 0 then
            s.setLane l { s.lane l with bits := (s.lane l).bits ++ info.map (fun b => (b, dec.isNone)) } else s
        if eth then s.takeCodewords g (((s.grpLanes g).map (fun l => (s.lane l).bits.length / 5140)).sum) else s

/-- A DATA cell for a channel goes to the transmit tributary of the group that has it (R153, R159). -/
def State.dataCell (s : State) (g chid : Nat) (payload : List Byte) : State :=
  match (s.grpRunning 0 g).find? (fun n => tdChid (s.trib 0 n).desc == chid) with
  | none => s
  | some n =>
    let t := (s.trib 0 n).tx
    if t.fill != .client || !(s.txCarried n) then s
    else if 64 * 129 ≤ t.buf.length then (s.bumpPm (TRB_T_DEL_COUNT 0 n) 0 n 3 1).setB (TRB_T_EVENT_OVERRUN 0 n) true
    else s.setTribTx n { t with buf := t.buf ++ (Client.lineCell 0 0 payload).map (fun b => ⟨b, false, false⟩) }

/-- The next host cell of a channelised group, in the order in which they left (R157, R159). -/
def State.hostCell (s : State) (g : Nat) : State :=
  match (s.grpLanes g).find? (fun l => (s.lane l).logical == (s.group g).rxTurn) with
  | none => s
  | some l =>
    let x := s.lane l
    if s.get (HLN_GRP_STATUS_STATE g) ≠ 3 ∨ s.get (HLN_GRP_STATUS_FORMAT g) ≠ 0 ∨ x.bits.length < 1056 then s
    else
      let c := x.bits.take 1056
      let bytes := bytesOfBits (c.map (fun b => b.1))
      let at_ := x.sinceMark
      let s := s.setLane l { x with bits := x.bits.drop 1056, sinceMark := (at_ + 1) % 1285 }
      let s := if at_ = 0 then s
        else s.setGroup g { s.group g with rxTurn := ((s.group g).rxTurn + 1) % (s.grpLanes g).length }
      let head := natBE (bytes.take 4)
      if c.any (fun b => b.2) ∨ fieldOf head 0 8 ≠ Client.hec (bytes.take 3) then s.bump TRB_BADCELL_COUNT 1
      else if at_ ≠ 0 ∧ fieldOf head 30 2 = 0 then s.dataCell g (fieldOf head 20 10) (bytes.drop 4) else s

/-! ## What the host receives (R149, R150, R151, R177, R216, R222, R223) -/

/-- What the chamber may release goes, and reaches rate adaptation (R215). -/
def State.adaptRx (s : State) (n : Nat) : State :=
  let s := s.releaseFront n releaseAll
  let t := s.trib 1 n
  s.setTribRx n (t.rx.adapted (tdEthernet t.desc))

/-- Receive tributaries of a group that are BOUND again and have released data left for the host (R174). -/
def State.grpLeft (s : State) (g : Nat) : List Nat :=
  ((s.grpTribs g).filter (fun p => p.1 == 1 && !(s.trib 1 p.2).active && (s.trib 1 p.2).rx.hasLeft)).map (fun p => p.2)

/-- A receive tributary has valid line data: it is in TRACK, not STOPPED, and its carrier is not in SF (R177, R249). -/
def State.rxValid (s : State) (n : Nat) : Bool := s.rxState n == 3 && (s.trib 1 n).stop == 0 && !(s.srcFailed n)

/-- `k` blocks for the host from an Ethernet receive tributary (R150, R151, R177). -/
def State.takeRxBlocks (s : State) (n k : Nat) : List Client.Block × State :=
  let r := (s.trib 1 n).rx
  let (bs0, del) := if Config.rxBlocks < r.blocks.length then
      (match Client.dropIdle false r.blocks with
        | some b => (b, 1)
        | none => (r.blocks, 0))
    else (r.blocks, 0)
  let s := s.bumpPm (TRB_T_DEL_COUNT 1 n) 1 n 3 del
  let bs := bs0.take k
  let m := k - bs.length
  let inF := bs.foldl Client.inFrameAfter r.inFrame
  let r' := { r with blocks := bs0.drop k, inFrame := inF }
  if m = 0 then (bs, s.setTribRx n r')
  else if s.rxValid n = false then
    (bs ++ List.replicate m Client.localFault, s.setTribRx n { r' with inFrame := false })
  else if inF then
    (bs ++ Client.errorBlock :: List.replicate (m - 1) Client.idle,
      ((s.setTribRx n { r' with inFrame := false }).setB (TRB_T_EVENT_UNDERRUN 1 n) true).bumpPm (TRB_T_INS_COUNT 1 n) 1 n 2 (m - 1))
  else (bs ++ List.replicate m Client.idle, (s.setTribRx n r').bumpPm (TRB_T_INS_COUNT 1 n) 1 n 2 m)

/-- `k` blocks for an Ethernet group: local fault once its receive tributary has left ENABLED while the group stays active (R175),
idles where it has had none (R119). What a tributary has released before that still goes (R174). -/
def State.groupBlocks (s : State) (g k : Nat) : List Client.Block × State :=
  match s.grpRunning 1 g ++ s.grpLeft g with
  | n :: _ => (s.adaptRx n).takeRxBlocks n k
  | [] => (List.replicate k (if (s.group g).hadRx then Client.localFault else Client.idle), s)

/-- The channels of a group in turn, the one after the one served last first. -/
def turnOrder (served : Nat) (l : List Nat) : List Nat :=
  let l := l.mergeSort (fun a b => a ≤ b)
  l.filter (fun n => decide (served < n)) ++ l.filter (fun n => decide (n ≤ served))

/-- The next cell of a channelised group that is no MARKER (R159, R177): of the channels with a cell due, the first from `skip` places
on in turn (log entry 68: any). -/
def State.groupCell (s : State) (g skip : Nat) : List Byte × State :=
  let run := s.grpRunning 1 g ++ s.grpLeft g
  let s := run.foldl (fun s n => s.adaptRx n) s
  let order := (turnOrder (s.group g).served run).rotateLeft skip
  match order.find? (fun n => !(s.trib 1 n).rx.cells.isEmpty) with
  | some n =>
    let r := (s.trib 1 n).rx
    let c := (r.cells.head?).getD ⟨1, 0, []⟩
    (Client.hostCell c.ty (tdChid (s.trib 1 n).desc) c.cause c.payload,
      (s.setTribRx n { r with cells := r.cells.drop 1 }).setGroup g { s.group g with served := n })
  | none =>
    match order.find? (fun n => (s.trib 1 n).ost == .enabled && !(s.rxValid n)) with
    | some n =>
      (Client.hostCell 1 (tdChid (s.trib 1 n).desc) 2 (List.replicate 128 0), s.setGroup g { s.group g with served := n })
    | none => (Client.hostCell 1 0 0 (List.replicate 128 0), s)

/-- A codeword leaves on a lane, unless its quad is off (R119). -/
def State.sendCodeword (s : State) (l : Nat) (info : List Bool) : State :=
  let sy := symbols10 info
  let md := s.modulate l (bitsOf10 (sy ++ rsParity sy))
  s.setLane l { s.lane l with out := if s.pdOn (hlnPolder l) then md.1 else [], txPre := md.2 }

/-- HTX sends: a carrier has been enabled since reset (R119, R506). -/
def State.htxOn (s : State) (g : Nat) : Bool := s.grpActive g && (s.carA.everEnabled || s.carB.everEnabled)

/-- The next codeword of an Ethernet group on its next lane, with the alignment markers at the head of its period (R122), or the
next cell of a channelised one (R157). -/
def State.hostTransmit (s : State) (g skip : Nat) : State :=
  match (if s.htxOn g then s.grpDesc g else none) with
  | none => s
  | some d =>
    let x := s.group g
    let lane := tdHlane0 d + x.turn
    let next := (x.turn + 1) % max 1 (tdHlanes d)
    let pos (period : Nat) : Nat := if next = 0 then (x.cellPos + 1) % period else x.cellPos
    if tdEthernet d then
      let am := if x.cellPos = 0 then amBlocks else 0
      let b := s.groupBlocks g (80 - 4 * am)
      let sc := scramble x.scrTx ((chunks 4 b.1).flatMap Client.transcode)
      let head := (List.range (257 * am)).map (fun i => bitOf (Config.alignMarker (tdClient d) x.turn) i == 1)
      let s := b.2.setGroup g { b.2.group g with scrTx := sc.2, turn := next, cellPos := pos amPeriod }
      s.sendCodeword lane (head ++ sc.1)
    else
      let c := if x.cellPos = 0 then (Client.markerCell x.turn g (tdHlanes d), s) else s.groupCell g skip
      let s := c.2.setGroup g { c.2.group g with turn := next, cellPos := pos 1285 }
      let bits := (s.lane lane).txBits ++ bitsOfBytes c.1
      if bits.length < 5140 then s.setLane lane { s.lane lane with txBits := bits }
      else (s.setLane lane { s.lane lane with txBits := bits.drop 5140 }).sendCodeword lane (bits.take 5140)

/-! ## Test patterns (R135 to R138) -/

/-- Both counters of a lane's checker and SAT return to 0. -/
def State.prbsClear (s : State) (l : Nat) : State :=
  s.zero [HLN_LANE_ERRLO_COUNT l, HLN_LANE_ERRHI_COUNT l, HLN_LANE_BITLO_COUNT l, HLN_LANE_BITHI_COUNT l, HLN_LANE_PRBS_SAT l]

/-- A lane sends its test pattern: the generator runs, its quad is on, no active group has the lane, and a carrier has been enabled since
reset (R119, R135). -/
def State.genRuns (s : State) (l : Nat) : Bool :=
  s.on (HLN_LANE_PRBS_GENEN l) && decide (s.get (HLN_LANE_PRBS_GENPAT l) < 4) && s.pdOn (hlnPolder l) && !(s.laneTaken l)
    && (s.carA.everEnabled || s.carB.everEnabled)

/-- The next `k` levels of a lane's test pattern leave. -/
def State.genSend (s : State) (k l : Nat) : State :=
  if s.genRuns l then
    let p := prbsLevels (s.get (HLN_LANE_PRBS_GENPAT l)) (s.lane l).gen k
    let md := s.modulate l (p.1.flatMap Client.grayBits)
    s.setLane l { s.lane l with gen := p.2, out := md.1, txPre := md.2 }
  else s

/-- Levels that a lane sends in a microsecond, 106.25 GBd (R113). -/
def levelsPerUs : Nat := 106250

/-- Every lane's test pattern over a microsecond (log entry 43). -/
def State.genTick (s : State) : State := (List.range 28).foldl (fun s l => s.genSend levelsPerUs l) s

/-- HLN_LANEn_PRBS is written (R136, R138): a generator that starts or changes its pattern starts the pattern, one that stops
leaves the lane squelched; a checker that is enabled or changes its pattern seeds. -/
def State.prbsWrite (s : State) (l v : Nat) : State :=
  let s := if (HLN_LANE_PRBS_CLR l).of v = 1 then s.prbsClear l else s
  let other := (HLN_LANE_PRBS_CHKPAT l).of v != s.get (HLN_LANE_PRBS_CHKPAT l)
  let gen := (s.get (HLN_LANE_PRBS_GENEN l), s.get (HLN_LANE_PRBS_GENPAT l))
  let s := s.wrs v [HLN_LANE_PRBS_CHKPAT l, HLN_LANE_PRBS_CHKEN l, HLN_LANE_PRBS_GENPAT l]
  let s := if other || !(s.on (HLN_LANE_PRBS_CHKEN l)) then
    (s.setB (HLN_LANE_STATUS_PRBSSYNC l) false).setLane l { s.lane l with chk := {} } else s
  let s := if (HLN_LANE_PRBS_GENEN l).of v = 1 ∧ s.laneTaken l = true then s.setB (HLN_LANE_EVENT_PRBSDENY l) true
    else s.wr v (HLN_LANE_PRBS_GENEN l)
  let s := if (s.get (HLN_LANE_PRBS_GENEN l), s.get (HLN_LANE_PRBS_GENPAT l)) = gen ∨ s.laneTaken l = true then s
    else s.setLane l { s.lane l with out := [], gen := prbsStart l (s.get (HLN_LANE_PRBS_GENPAT l)) }
  s.refreshNeeds

/-! ## Register writes -/

/-- HLN_LANEn_TXEQ is written (R139). -/
def State.txeqWrite (s : State) (l v : Nat) : State :=
  (s.set (HLN_LANE_TXEQ_PRE l) (min 20 ((HLN_LANE_TXEQ_PRE l).of v))).set (HLN_LANE_TXEQ_POST l)
    (min 30 ((HLN_LANE_TXEQ_POST l).of v))

/-- HLN_THRESH is written (R142). -/
def State.hlnThreshWrite (s : State) (v : Nat) : State :=
  if HLN_THRESH_UNLOCK_SNR.of v < HLN_THRESH_LOCK_SNR.of v then s.wrs v [HLN_THRESH_LOCK_SNR, HLN_THRESH_UNLOCK_SNR] else s

/-! ## Commands -/

/-- SIGNAL_PRESENT (R116). -/
def execSignalPresent (l : Fin 28) (s : State) : Outcome := answer (s.signalPresent l)

/-- SIGNAL_LOST (R116). -/
def execSignalLost (l : Fin 28) (s : State) : Outcome := answer (s.signalLost l)

/-- LANE_LOCK (R116). -/
def execLaneLock (l : Fin 28) (m : LaneMeas) (s : State) : Outcome := answer (s.laneLock l m)

/-- ADAPT_TIMEOUT (R116). -/
def execAdaptTimeout (l : Fin 28) (s : State) : Outcome :=
  answer (if s.laneState l = 2 then (s.laneDefaults l).setB (HLN_LANE_EVENT_RESTARTED l) true else s)

/-- LANE_UNLOCK (R116). -/
def execLaneUnlock (l : Fin 28) (m : LaneMeas) (s : State) : Outcome := answer (s.laneUnlock l m)

/-- LANE_RESTART (R115): HLN_LANEn_CTL written with RESTART 1 and the other fields as they stand. -/
def execLaneRestart (l : Fin 28) (s : State) : Outcome :=
  answer (s.gated (adr_HLN_LANE_CTL l) (fun s => s.laneDefaults l))

/-- MARKER_LOCK (R126, R158): as a logical lane; the skew of the group in symbols. -/
def execMarkerLock (l : Fin 28) (logical : Fin 8) (skew : Nat) (s : State) : Outcome := answer (s.markerIn l logical skew)

/-- MARKER_LOCK_LOST (R126, R158). -/
def execMarkerLockLost (l : Fin 28) (s : State) : Outcome := answer (s.markerOut l)

/-- RS_CODEWORD (R122, R154): the levels of the 514 information and the 30 parity symbols in the order received. -/
def execRsCodeword (l : Fin 28) (info parity : List (Fin 4)) (s : State) : Outcome :=
  answerIf (info.length == 2570 && parity.length == 150) (s.rsCodeword l ((info ++ parity).map (fun v => v.val)))

/-- HOST_CELL (R159). -/
def execHostCell (g : Fin 28) (s : State) : Outcome := answer (s.hostCell g)

/-- PRBS_GENEN (R136): HLN_LANEn_PRBS written with GENEN 1 and a pattern, the other fields as they stand. -/
def execPrbsGenen (l : Fin 28) (pat : Fin 8) (s : State) : Outcome :=
  answer (s.gated (adr_HLN_LANE_PRBS l) (fun s =>
    s.prbsWrite l (s.get (HLN_LANE_PRBS_CHKPAT l) * 256 + s.get (HLN_LANE_PRBS_CHKEN l) * 128 + pat.val * 16 + 8)))

/-- PRBS_CLR (R138). -/
def execPrbsClr (l : Fin 28) (s : State) : Outcome := answer (s.gated (adr_HLN_LANE_PRBS l) (fun s => s.prbsClear l))

/-- PRBS_SYNC (R137): levels arrive on a lane, in the order received; sync comes with the 1,024th error-free one. -/
def execPrbsSync (x : LaneLevels) (s : State) : Outcome :=
  answer (s.laneLevels x.lane (x.levels.map (fun v => v.val))).2

/-- PRBS_SYNC_LOSS (R137): levels arrive on a lane; sync goes with the 64th error among 1,024. `last` is the latest
of them. -/
def execPrbsSyncLoss (l : Fin 28) (levels : List (Fin 4)) (last : Fin 4) (s : State) : Outcome :=
  answer (s.laneLevels l ((levels ++ [last]).map (fun v => v.val))).2

/-- PRBS_SATURATION (R138): levels arrive on a lane; both counters stop with the one that the bit counter cannot take. -/
def execPrbsSaturation (l : Fin 28) (levels : List (Fin 4)) (s : State) : Outcome :=
  answer (s.laneLevels l (levels.map (fun v => v.val))).2

/-- HLN_THRESH_WRITE (R142). -/
def execHlnThreshWrite (v : W32) (s : State) : Outcome := answer (s.gated adr_HLN_THRESH (fun s => s.hlnThreshWrite v.toNat))

/-- TXEQ_WRITE (R113, R139). -/
def execTxeqWrite (l : Fin 28) (v : W32) (s : State) : Outcome :=
  answer (s.gated (adr_HLN_LANE_TXEQ l) (fun s => s.txeqWrite l v.toNat))

end Sys2Proof.Machine
end

