-- ==== Sys2Proof/Machine/Trib.lean ====
section
/-! DEFINITION. Carriers and tributaries at work: placement, the standby page, superframe boundaries, enables and drains,
defragmentation (R143 to R179, R212, R225, R260, R270). -/

namespace Sys2Proof.Machine

open Reg

/-! ## Placement (R161 to R163) -/

/-- The slots of a carrier that carry tributaries (R143). -/
def State.slotLimit (s : State) (c : Nat) : Nat := 1024 * cdNet (s.car c).desc

/-- A slot is in use in a page, by a tributary other than the one to skip. -/
def slotTaken (p : List (Nat × Nat)) (skip : Option Nat) (i : Nat) : Bool :=
  cmUsed (pageEntry p i) && skip != some (cmTrib (pageEntry p i))

/-- The free slots of a carrier (R163): in no page that is in force, announced or standing by. -/
def State.freeOn (s : State) (c : Nat) (skip : Option Nat) : List Nat :=
  let t := (s.car c).tx
  (List.range (s.slotLimit c)).filter (fun i =>
    !(slotTaken t.page skip i) && !(slotTaken t.standby skip i) && !(slotTaken (t.next.getD []) skip i))

/-- The best-fit run: the smallest of at least so many slots, the lower start on a tie (R161 step 2). -/
def bestRun (runs : List (Nat × Nat)) (need : Nat) : Option (Nat × Nat) :=
  runs.foldl (fun b r => if r.2 < need then b else match b with
    | none => some r
    | some x => if r.2 < x.2 then some r else some x) none

/-- Slots from `a` on. -/
def slotRun (a k : Nat) : List Nat := (List.range k).map (fun i => a + i)

/-- Free runs in descending size, the lower start first on a tie (R161 step 5). -/
def bySize (runs : List (Nat × Nat)) : List (Nat × Nat) :=
  runs.mergeSort (fun a b => decide (b.2 < a.2) || (a.2 == b.2 && decide (a.1 ≤ b.1)))

/-- Steps 2, 4 and 5 of R161 on one carrier's free slots. -/
def placeIn (free : List Nat) (need : Nat) : Option (List Nat) :=
  let runs := runsOf free
  match bestRun runs need with
  | some r => some (slotRun r.1 need)
  | none =>
    if free.length < need then none
    else some ((((bySize runs).flatMap (fun r => slotRun r.1 r.2)).take need).mergeSort (fun a b => decide (a ≤ b)))

/-- Candidate carriers of R161 step 1. -/
def State.candidates (s : State) (d : List Nat) : List Nat :=
  if tdCarrier d < 2 then [tdCarrier d]
  else [0, 1].filter (fun c => (s.car c).ost == .enabled && cdCprot (s.car c).desc != 2)

/-- With two candidates, whether B is taken rather than A (R161 steps 3 and 5). -/
def preferB (a b : List Nat) (need : Nat) : Bool :=
  match bestRun (runsOf a) need, bestRun (runsOf b) need with
  | some x, some y => decide (y.2 < x.2) || (x.2 == y.2 && decide (b.length < a.length))
  | none, some _ => true
  | some _, none => false
  | none, none => decide (a.length < b.length)

/-- Where a transmit tributary of so many slots is placed: slots by carrier, the working copy first (R161, R162). -/
def State.planTx (s : State) (d : List Nat) (need : Nat) : Option (List (Nat × List Nat)) :=
  let one (c : Nat) : Option (Nat × List Nat) := (placeIn (s.freeOn c none) need).map (fun l => (c, l))
  if tdTprot d = 1 then
    match one (tdCarrier d % 2), one (1 - tdCarrier d % 2) with
    | some x, some y => some [x, y]
    | _, _ => none
  else match s.candidates d with
    | [c] => (one c).map (fun x => [x])
    | [a, b] =>
      let c := if preferB (s.freeOn a none) (s.freeOn b none) need then b else a
      (one c).map (fun x => [x])
    | _ => none

/-- Slots written for a tributary (R165). -/
def addSlots (both : Bool) (n : Nat) (l : List Nat) (p : List (Nat × Nat)) : List (Nat × Nat) :=
  l.zipIdx.foldl (fun p e => Assoc.put e.1 (cmEntry both n e.2) p) p

/-- A tributary's slots removed. -/
def dropSlots (n : Nat) (p : List (Nat × Nat)) : List (Nat × Nat) := p.filter (fun e => cmTrib e.2 != n)

/-- PEND of a transmit page (R179). -/
def State.showPend (s : State) (c : Nat) : State :=
  let t := (s.car c).tx
  s.setB (TRB_PG_PEND c) (t.standby != t.page || t.next.isSome)

/-! ## Connection memory (R165, R425, R438) -/

/-- Where a word stands in a copy of a carrier's connection-memory page. -/
def State.connOffset (s : State) (c part w : Nat) : Option Nat :=
  ((s.mem.allocs.filter (fun a => a.role == 0x05 && a.obj == hCarrier c && a.part == part)).foldl
    (fun (p : Option Nat × Nat) a =>
      (if a.bank * 65536 + a.start ≤ w ∧ w < a.bank * 65536 + a.start + a.words then
        some (p.2 + (w - a.bank * 65536 - a.start)) else p.1, p.2 + a.words)) (none, 0)).1

/-- Offsets of a page's words among some, in either copy: two entries to a word. -/
def State.connIn (s : State) (c page : Nat) (ok : Nat → Bool) (w : Nat) : Bool :=
  [2 * page, 2 * page + 1].any (fun part => ((s.connOffset c part w).map ok).getD false)

/-- Entries of a page are written, in both copies (R425): their words carry no poison and no flipped bit. -/
def State.connWrite (s : State) (c page : Nat) (slots : List Nat) : State :=
  let hit := s.connIn c page (fun o => slots.contains (2 * o) || slots.contains (2 * o + 1))
  s.setMem { s.mem with poison := s.mem.poison.filter (fun w => !(hit w)), flips := s.mem.flips.filter (fun p => !(hit p.1)) }

/-- A frame reads a page's entries for so many slots (R438): poisoned words are counted and rewritten from the other copy, or from the
placement records where both are poisoned; answers the slots whose entry no copy gave. -/
def State.connRead (s : State) (c page slots : Nat) : List Nat × State :=
  let read := s.connIn c page (fun o => decide (2 * o < slots))
  let s := ((s.mem.flips.map (fun p => p.1)).filter read).foldl (fun s w => (s.readMem w).2) s
  let bad := s.mem.poison.filter read
  let at_ (copy : Nat) : List Nat := bad.filterMap (s.connOffset c (2 * page + copy))
  let lost := (at_ 0).filter (fun o => (at_ 1).contains o)
  let s := bad.foldl (fun s w => s.consume w 2) s
  (lost.flatMap (fun o => [2 * o, 2 * o + 1]),
    s.setMem { s.mem with poison := s.mem.poison.filter (fun w => !(bad.contains w)) })

/-- The transmit page in force of a carrier, by number: it changes with GEN (R167). -/
def State.txPageNo (s : State) (c : Nat) : Nat := s.get (TRB_PG_GEN c) % 2

/-- A sending carrier's frame reads its connection memory. -/
def State.connTx (s : State) (c : Nat) : State :=
  if s.carSends c then
    let r := s.connRead c (s.txPageNo c) (1024 * cdNet (s.car c).desc)
    r.2.setCarTx c { (r.2.car c).tx with lost := r.1 }
  else s

/-- A received frame reads its carrier's connection memory: where no copy gives an entry, the page is emptied until the next good
map (R169, R438). -/
def State.connRx (s : State) (c : Nat) : State :=
  if (s.car c).ost == .enabled && s.carLocked c && s.on (FRM_C_ALIGN_SYNC c) then
    let r := s.connRead c (2 + (s.car c).rx.pageNo) (1024 * (s.rxRun c).net)
    if r.1.isEmpty then r.2
    else ((r.2.setCarRx c { (r.2.car c).rx with mapped := false }).setRxPage c (r.2.get (TRB_PG_GEN (2 + c))) [])
  else s

/-- The slots whose entries two pages give differently. -/
def slotsChanged (a b : List (Nat × Nat)) : List Nat :=
  ((a.filter (fun e => !(b.contains e))) ++ (b.filter (fun e => !(a.contains e)))).map (fun e => e.1)

/-- Change a carrier's standby page. -/
def State.mapStandby (s : State) (c : Nat) (f : List (Nat × Nat) → List (Nat × Nat)) : State :=
  let t := (s.car c).tx
  let s := s.connWrite c (1 - s.txPageNo c) (slotsChanged t.standby (f t.standby))
  (s.setCarTx c { t with standby := f t.standby }).showPend c

/-- The protection carrier of a pair keeps an exact copy of the working carrier's page (R162). -/
def State.mirror (s : State) : State :=
  [0, 1].foldl (fun s c =>
    if cdCprot (s.car c).desc = 1 ∧ cdCprot (s.car (1 - c)).desc = 2 then s.mapStandby (1 - c) (fun _ => (s.car c).tx.standby)
    else s) s

/-- Write into a standby page (R163). -/
def State.putStandby (s : State) (c : Nat) (f : List (Nat × Nat) → List (Nat × Nat)) : State := (s.mapStandby c f).mirror

/-- A transmit tributary's slots leave the standby pages (R174). -/
def State.removeStandby (s : State) (n : Nat) : State :=
  [0, 1].foldl (fun s c => s.putStandby c (dropSlots n)) s

/-- A transmit tributary has slots in a page that some test accepts. -/
def State.anyPage (s : State) (n : Nat) (f : CarTx → List (Nat × Nat)) : Bool :=
  [0, 1].any (fun c => pageHas (f (s.car c).tx) n)

/-- Units of a transmit tributary leave: a carrier that sends has it in its page. -/
def State.tribSends (s : State) (n : Nat) : Bool := [0, 1].any (fun c => s.carSends c && pageHas (s.car c).tx.page n)

/-! ## Polders and banks of an enabled object (R24, R212, R260, R610) -/

def ownCONN : Nat := 0x05
def ownRATE : Nat := 0x06
def ownSEAL : Nat := 0x07

/-- The polders that a tributary's function needs on (R24). -/
def State.tribPolders (s : State) (d n : Nat) : List Nat :=
  [pdTSI, pdCIP] ++ (lanesOf (s.trib d n).desc).map hlnPolder
    ++ (s.mem.allocs.filter (fun a => a.obj == hTrib d n)).map (fun a => memPolder a.bank)

/-- The polders that a carrier's function needs on (R24). -/
def State.carPolders (s : State) (c : Nat) : List Nat :=
  [pdLINE c, pdFEC, pdFRM, pdTSI, pdCIP]
    ++ (s.mem.allocs.filter (fun a => a.obj == hCarrier c)).map (fun a => memPolder a.bank)

/-- Words of a receive tributary's lock-chamber area (R212): two words to a block of 16 bytes. -/
def lockWords (b : Nat) : Nat := 2 * ((2 * b + 15) / 16 * 16)

/-- Words of a differential-delay buffer (R260): two words to a unit. F is M / 1.28 rounded up. -/
def ddbWords (sl m : Nat) : Nat := 2 * ((80 + 2 * ((25 * m + 31) / 32 + 8)) * sl)

/-- Everything an enable has placed for a tributary goes. -/
def State.unplaceTrib (s : State) (d n : Nat) : State :=
  [ownLOCK, ownDDB, ownRATE, ownSEAL].foldl (fun s r => s.unplace r (hTrib d n)) s

/-! ## Transmit tributaries: start, end (R87, R144, R145, R174, R187, R188) -/

/-- The key of a tributary at its enable: KEYSLOT with phase 0 (log entry 30). -/
def State.keyAtEnable (s : State) (d n : Nat) : State :=
  let k := tdKeyslot (s.trib d n).desc
  let s := (s.set (CIP_T_KEY_CURRENT d n) k).zero [CIP_T_KEY_KPH d n, CIP_T_KEY_PEND d n]
  if s.get (CIP_T_KEY_STAGED d n) = k then s.setB (CIP_T_KEY_STV d n) false else s

/-- A transmit tributary's enable is accepted with its placement. -/
def State.startTx (s : State) (n : Nat) (plan : List (Nat × List Nat)) : State :=
  let t := s.trib 0 n
  let g := tdHgrp t.desc
  let up := s.get (HLN_GRP_STATUS_STATE g) == 3
  let s := s.setTrib 0 n { t with
    ost := .enabled, enabling := true, stop := 0
    tx := { ctrEnd := t.tx.ctrEnd, starting := true, fill := if up then .client else .hostFail } }
  let s := plan.foldl (fun s p => s.putStandby p.1 (addSlots (decide (plan.length = 2)) n p.2)) s
  let s := (s.keyAtEnable 0 n).set (CIP_T_SEAL_UNITS 0 n) (s.ownUnits t.desc)
  (s.evalHost g).refreshNeeds

/-- A transmit enable completes: its slots are in force and the polders are on (R87, R459). -/
def State.txDone (s : State) (n : Nat) : State :=
  let t := s.trib 0 n
  if t.enabling && !t.tx.starting && (s.tribPolders 0 n).all s.pdOn then
    (s.setTrib 0 n { t with enabling := false }).finishWait (.tribTx n) 0
  else s

/-- A transmit tributary reaches BOUND: its counter stays (R187). -/
def State.txBound (s : State) (n : Nat) : State :=
  let t := s.trib 0 n
  let s := s.setTrib 0 n { t with ost := .bound, enabling := false, stop := 0, tx := { ctrEnd := t.tx.ctrEnd } }
  let s := (s.unplaceTrib 0 n).zero [CIP_T_KEY_STV 0 n, CIP_T_KEY_PEND 0 n]
  let s := (s.evalHost (tdHgrp t.desc)).showPlace 0 n
  ((s.finishWait (.tribTx n) 0).finishWait (.roll n) 0).finishWait (.tribBound (2 * n)) 0

/-- DISABLE of a transmit tributary (R174, R206). -/
def State.drainTx (s : State) (n : Nat) (abort : Bool) : State :=
  let t := s.trib 0 n
  let s := s.setTrib 0 n { t with ost := .draining }
  if abort || t.stop == 3 then
    (s.setTribTx n { t.tx with
      buf := (cellRest t.desc t.tx.buf).map (fun _ => ⟨0, false, false⟩), blocks := [], fill := .filler, resume := false
      drain := false, removing := true, opened := t.tx.opened.map (fun o => { o with void := true }) }).removeStandby n
  else if t.tx.removing then s
  else if t.tx.opened.isNone || !(s.tribSends n) then
    (s.setTribTx n { t.tx with
      buf := cellRest t.desc t.tx.buf, blocks := [], fill := .filler, resume := false, removing := true }).removeStandby n
  else s.setTribTx n { t.tx with drain := true }

/-- Drained tributaries leave the standby pages (R174). -/
def State.removeDrained (s : State) : State :=
  (s.tribList.filter (fun p => p.1 == 0 && (s.trib 0 p.2).tx.removing && s.anyPage p.2 (fun t => t.standby))).foldl
    (fun s p => s.removeStandby p.2) s

/-! ## Receive tributaries: start, end (R87, R164, R174, R209, R212) -/

/-- What a receive tributary keeps while it does not run: its last verified seal, under its key (R211). -/
def TribRx.kept (r : TribRx) : TribRx := { hasLast := r.hasLast, lastKey := r.lastKey }

/-- A receive enable completes: the areas are assigned, the polders are on, and it enters HUNT. -/
def State.rxDone (s : State) (n : Nat) : State :=
  let t := s.trib 1 n
  if t.enabling && (s.tribPolders 1 n).all s.pdOn then
    let own := [0, 1].filter (fun c => s.mayUse c n)
    let copy (c : Nat) : RxCopy := { slots := if own.contains c then (slotsOf (s.car c).rx.page n).length else 0 }
    let s := s.setTrib 1 n { t with enabling := false, rx := { t.rx with copyA := copy 0, copyB := copy 1 } }
    let s := s.set (CIP_T_SEAL_RXSTATE 1 n) 1
    let s := own.foldl (fun s c => s.newSlots c n (copy c).slots) s
    (s.evalGroups).finishWait (.tribRx n) 0
  else s

/-- A receive tributary's enable is accepted, its areas placed. -/
def State.startRx (s : State) (n : Nat) : State :=
  let t := s.trib 1 n
  let d := t.desc
  let s := s.setTrib 1 n { t with ost := .enabled, enabling := true, stop := 0, rx := t.rx.kept }
  let s := (s.keyAtEnable 1 n).set (CIP_T_SEAL_UNITS 1 n) (s.ownUnits d)
  let s := s.setB (CIP_T_SEAL_EARLY 1 n) (s.polEarly (tdSealpol d))
  let s := ((s.evalHost (tdHgrp d)).evalGroup n).refreshNeeds
  s.rxDone n

/-- What it keeps besides until its next enable: released data on its way to the host. -/
def TribRx.leftOver (r : TribRx) : TribRx :=
  { r.kept with out := r.out, afterFail := r.afterFail, carry := r.carry, blk := r.blk, blocks := r.blocks
                inFrame := r.inFrame, cells := r.cells }

/-- A lock-chamber area that waits for its zeroing is no longer the tributary's: it stands under this name. -/
def hReturning (n : Nat) : Nat := hTrib 1 n + 65536

/-- The area of a receive tributary goes back: at once if zero, else once zeroed (R212). -/
def State.returnArea (s : State) (n : Nat) (dirty : Bool) : State :=
  if dirty then
    s.setMem { s.mem with allocs := s.mem.allocs.map (fun a =>
      if a.role = ownLOCK ∧ a.obj = hTrib 1 n then { a with obj := hReturning n } else a) }
  else s

/-- A receive tributary reaches BOUND. -/
def State.rxBound (s : State) (n : Nat) : State :=
  let t := s.trib 1 n
  let s := s.returnArea n (!t.rx.dirty.isEmpty)
  let s := s.setTrib 1 n { t with ost := .bound, enabling := false, stop := 0, rx := t.rx.leftOver }
  let s := (s.unplaceTrib 1 n).zero [CIP_T_SEAL_RXSTATE 1 n, CIP_T_SEAL_EARLY 1 n, CIP_T_KEY_STV 1 n]
  let s := (s.evalGroup n).evalHost (tdHgrp t.desc)
  (s.finishWait (.tribRx n) 0).finishWait (.tribBound (2 * n + 1)) 0

/-- The drain of a receive tributary ends once nothing of it is in the lock chamber. -/
def State.rxDrained (s : State) (n : Nat) : State :=
  let t := s.trib 1 n
  if t.ost == .draining && t.rx.seals.isEmpty && t.rx.zeroing.isEmpty then s.rxBound n else s

/-- The blocks of a half of a receive tributary's area are zero, with POISON 0 (R224). -/
def State.zeroHalf (s : State) (n half : Nat) : State :=
  let k := s.ownUnits (s.trib 1 n).desc
  (List.range k).foldl (fun s i => s.areaWrite n (half + i) false) s

/-- The area of a failed or discarded seal is zeroed (R224), or one that the tributary has given back (R212). -/
def State.areaZeroed (s : State) (n : Nat) : State :=
  let r := (s.trib 1 n).rx
  match r.zeroing with
  | h :: t => ((s.zeroHalf n h).setTribRx n { r with zeroing := t, dirty := r.dirty.filter (fun x => x != h) }).rxDrained n
  | [] => s.unplace ownLOCK (hReturning n)

/-- DISABLE of a receive tributary (R174, R206, R229): it leaves TRACK at once (R209). -/
def State.drainRx (s : State) (n : Nat) (abort : Bool) : State :=
  let t := s.trib 1 n
  let s := (s.setTrib 1 n { t with ost := .draining, rx := { t.rx with last := true } }).set (CIP_T_SEAL_RXSTATE 1 n) 0
  let s := if abort || t.stop == 3 then s.discardSeals n 4 else s
  s.rxDrained n

/-- Enables that waited for polders complete (R459). -/
def State.enablesDone (s : State) : State :=
  s.tribList.foldl (fun s p => if (s.trib p.1 p.2).enabling then (if p.1 = 0 then s.txDone p.2 else s.rxDone p.2) else s) s

/-! ## Carriers: enable, disable (R59, R87, R270, R314, R401) -/

/-- A carrier's enable is accepted. -/
def State.startCar (s : State) (c : Nat) : State :=
  let x := s.car c
  let s := s.setCar c { x with ost := .enabled, enabling := true, tx := { x.tx with running := false } }
  let s := (s.mapLine c (fun l => { l with limPosted := false })).mapAcq c (fun a => { a with bad := [] })
  let s := ((s.set (DS_FOFS_LSTSUM c) 0).showTxFormat c).mirror
  let s := ((s.showPage 0 c (s.get (TRB_PG_GEN c))).showPage 1 c (s.get (TRB_PG_GEN (2 + c)))).showPend c
  let s := ((s.showShares).defects c).evalGroup pairGroup
  s.refreshNeeds

/-- A carrier's enable completes at a frame boundary, once its polders are on and no start-up of its
converters is under way (R364); held, it starts
when the hold ends. -/
def State.carDone (s : State) (c : Nat) : State :=
  let x := s.car c
  if x.enabling && x.ost == .enabled && (s.carPolders c).all s.pdOn && !(s.cnv.starting.contains c) then
    let s := s.timCarrierUp (!((s.car (1 - c)).active && (s.car (1 - c)).tx.running))
    let s := s.setCar c { s.car c with enabling := false, everEnabled := true }
    ((s.startCarrier c).evalHosts).finishWait (.carrierOn c) 0
  else s

/-- Connection memory of carriers that are not enabled and hold no slots goes. -/
def State.dropConn (s : State) (c : Nat) : State :=
  let x := s.car c
  if x.active || !x.tx.page.isEmpty || !x.tx.standby.isEmpty || x.tx.next.isSome then s else s.unplace ownCONN (hCarrier c)

/-- A carrier is disabled: nothing of it is left to drain, and it reaches BOUND (log entry 31). The
second of which it was disabled for a part is not classified (R251). -/
def State.stopCar (s : State) (c : Nat) : State :=
  let x := s.car c
  let s := s.setCar c { x with
    ost := .bound, enabling := false, tx := { x.tx with running := false }
    rx := { x.rx with acc := { x.rx.acc with partly := true } } }
  let s := s.mapLine c (fun l => { l with sentX := [], sentY := [], shaped := [], dac := none })
  let s := ((s.acqStop c).showTxFormat c).copiesLost c
  let s := ((s.showShares).defects c).evalGroup pairGroup
  ((s.dropConn c).finishWait (.carrierOn c) 0).finishWait (.carrierBound c) 0

/-! ## Superframe boundaries (R167, R168, R176, R225, R240) -/

/-- One carrier's transmit pages at a boundary: the announced page comes into force, and what stands by is announced. -/
def State.pageBoundary (s : State) (c : Nat) : State :=
  let t := (s.car c).tx
  let page := t.next.getD t.page
  let gen := if t.next.isSome then (s.get (TRB_PG_GEN c) + 1) % 65536 else s.get (TRB_PG_GEN c)
  let s := s.setCarTx c { t with
    page := page, next := if t.standby = page then none else some t.standby, sinceMove := min 16 (t.sinceMove + 1) }
  (s.showPage 0 c gen).showPend c

/-- New first seals of the tributaries of a carrier that has started again, unless the other carrier of a protected one has
gone on (R176). -/
def State.newFirstSeals (s : State) : State :=
  let again := [0, 1].filter (fun c => (s.car c).firstSeals && s.carSends c)
  let named := (again.flatMap (fun c => pageTribs (s.car c).tx.page)).eraseDups
  let goesOn (n : Nat) : Bool := s.goesOn n
  let s := again.foldl (fun s c => s.setCar c { s.car c with firstSeals := false }) s
  named.foldl (fun s n => if (s.trib 0 n).tx.starting || goesOn n then s else s.startSeal n) s

/-- A transmit tributary whose slots are in force starts its first seal (R145); at its counter's end it is STOPPED (R188). -/
def State.firstSeal (s : State) (n : Nat) : State :=
  let t := s.trib 0 n
  if t.tx.starting && s.anyPage n (fun x => x.page) && s.pdOn pdTSI && s.pdOn pdCIP then
    let s := s.setTribTx n { t.tx with starting := false }
    let s := s.startSeal n
    s.txDone n
  else s

/-- A roll falls due (R225): it waits for the seal that straddles the boundary, or takes place at once where no seal is
open; STOPPED at the seal limit ends with it (R60). A KEYROLL whose roll has taken place completes (R87). -/
def State.rollBoundary (s : State) (n : Nat) : State :=
  let t := s.trib 0 n
  if t.tx.rollDue then
    let s := (s.setTribTx n { t.tx with rollDue := false, rollArmed := s.on (CIP_T_KEY_STV 0 n) }).setB (CIP_T_KEY_PEND 0 n) false
    let s := if t.active && t.tx.opened.isNone && !t.tx.starting && decide (t.stop ≤ 1) && s.on (CIP_T_KEY_STV 0 n) then
      (s.setTrib 0 n { s.trib 0 n with stop := 0 } |>.rollTx n).startSeal n else s
    s.finishWait (.roll n) 0
  else s.finishWait (.roll n) 0

/-- What a superframe boundary does for one transmit tributary. -/
def State.tribBoundary (s : State) (n : Nat) : State :=
  let s := if (s.trib 0 n).tx.drain && !(s.tribSends n) then s.drainTx n false else s
  let s := s.firstSeal n
  let s := s.rollBoundary n
  let s := if [0, 1].all (fun c => slotsOf (s.car c).tx.page n == slotsOf (s.car c).tx.standby n) then
    s.finishWait (.pinMove n) 0 else s
  let left := s.anyPage n (fun x => x.page) || s.anyPage n (fun x => x.standby) || s.anyPage n (fun x => x.next.getD [])
  if (s.trib 0 n).ost == .draining && (s.trib 0 n).tx.removing && !left then s.txBound n else s.showPlace 0 n

/-- The transmit tributaries. -/
def State.txTribs (s : State) : List Nat := (s.tribList.filter (fun p => p.1 == 0)).map (fun p => p.2)

/-- The superframe boundary before frame 0, once. -/
def State.superframe (s : State) : State :=
  if s.frameClk.fnum ≠ 0 ∨ s.frameClk.boundaryDone = true then s
  else
    let s := { s with frameClk := { s.frameClk with boundaryDone := true } }
    let s := (s.pageBoundary 0).pageBoundary 1
    let s := s.newFirstSeals
    let s := s.txTribs.foldl (fun s n => s.tribBoundary n) s
    ([0, 1].foldl (fun s c => s.dropConn c) s).realignNow

/-- A frame boundary: enables of carriers complete, and a step of the frame clock may make it a superframe boundary. -/
def State.frameBoundary (s : State) : State := (((s.superframe).carDone 0).carDone 1).superframe

/-! ## Defragmentation and PIN (R171 to R173) -/

/-- The largest run of free slots. -/
def largestRun (free : List Nat) : Nat := (runsOf free).foldl (fun m r => max m r.2) 0

/-- A move that R171 allows: the tributary, whether it is spread, its new first slot, the largest free run after it. -/
structure Move where
  trib : Nat
  spread : Bool
  first : Nat
  largest : Nat
deriving DecidableEq, Repr

/-- The move of a tributary on a carrier, if it qualifies. -/
def State.moveOf (s : State) (c n : Nat) : Option Move :=
  let sl := slotsOf (s.car c).tx.page n
  let free := s.freeOn c (some n)
  let t := s.trib 0 n
  if t.pinned || !t.active || sl.isEmpty then none
  else match bestRun (runsOf free) sl.length with
    | none => none
    | some r =>
      let after := largestRun (free.filter (fun i => decide (i < r.1 ∨ r.1 + sl.length ≤ i)))
      let m : Move := ⟨n, decide (1 < (runsOf sl).length), r.1, after⟩
      if m.spread || decide (largestRun (s.freeOn c none) < after) then some m else none

/-- The move that is made: a spread tributary with the lowest index, or else the one that enlarges the largest run most. -/
def chooseMove (l : List Move) : Option Move :=
  match l.find? (fun m => m.spread) with
  | some m => some m
  | none => l.foldl (fun b m => match b with
    | none => some m
    | some x => if x.largest < m.largest then some m else some x) none

/-- A carrier is due for defragmentation: not within 16 superframes of its last move, nothing pending, fragmented. -/
def State.defragDue (s : State) (c : Nat) : Bool :=
  let t := (s.car c).tx
  let free := s.freeOn c none
  let split := (pageTribs t.page).any (fun n => decide (1 < (runsOf (slotsOf t.page n)).length))
  s.on TRB_DEFRAG_EN && (s.car c).ost == .enabled && cdCprot (s.car c).desc != 2 && t.sinceMove == 16
    && t.standby == t.page && t.next.isNone
    && (split || decide (100 * largestRun free < s.get TRB_DEFRAG_THRESH * free.length))

/-- One move. -/
def State.defrag (s : State) (c : Nat) : State :=
  if s.defragDue c then
    let t := (s.car c).tx
    match chooseMove (((pageTribs t.page).mergeSort (fun a b => decide (a ≤ b))).filterMap (fun n => s.moveOf c n)) with
    | none => s
    | some m =>
      let sl := slotsOf t.page m.trib
      let both := bitOf (pageEntry t.page (sl.headD 0)) 30 == 1
      let s := s.setCarTx c { t with sinceMove := 0 }
      let s := s.putStandby c (fun p => addSlots both m.trib (slotRun m.first sl.length) (dropSlots m.trib p))
      let s := (s.setB (TRB_T_EVENT_MOVED 0 m.trib) true).bump TRB_DEFRAG_MOVES 1
      s.post srcTRB 0x01 (hTrib 0 m.trib) [m.first, 1]
  else s

/-- A move of a tributary stands by (R173). -/
def State.moveStands (s : State) (n : Nat) : Bool :=
  [0, 1].any (fun c =>
    let t := (s.car c).tx
    pageHas t.page n && pageHas t.standby n && slotsOf t.page n != slotsOf t.standby n)

/-! ## TRB_CMSEL (R179) -/

/-- TRB_CMSEL is written: the entry it names is captured. -/
def State.cmselWrite (s : State) (v : Nat) : State :=
  let s := s.wrs v [TRB_CMSEL_PAGE, TRB_CMSEL_DIR, TRB_CMSEL_CARR, TRB_CMSEL_SLOT]
  let x := s.car (s.get TRB_CMSEL_CARR)
  let p := if s.on TRB_CMSEL_DIR then
      (if s.on TRB_CMSEL_PAGE then (match x.rx.nextMap with | some m => m.2 | none => x.rx.page) else x.rx.page)
    else if s.on TRB_CMSEL_PAGE then x.tx.standby else x.tx.page
  s.set TRB_CMDATA_ENTRY (pageEntry p (s.get TRB_CMSEL_SLOT))

/-! ## Commands -/

/-- TRANSMIT_FRAME (R144, R234 to R240, R270). -/
def execTransmitFrame (s : State) : Outcome :=
  answer (if s.frameClk.runs then ((((s.frameBoundary).connTx 0).connTx 1).transmitFrame).removeDrained else s)

/-- RECEIVE_FRAME (R242): a line frame's bytes have arrived. `arrival` is the device time in ns. -/
def execReceiveFrame (c : Fin 2) (arrival : Nat) (s : State) : Outcome := answer ((s.connRx c).receiveFrame c arrival)

/-- SUPERFRAME_BOUNDARY (R168, R225). -/
def execSuperframeBoundary (s : State) : Outcome := answer (if s.frameClk.runs = true ∧ s.frameClk.fnum = 0 then s.frameBoundary else s)

/-- SEAL_BOUNDARY (R145, R174, R191, R225) of a transmit tributary whose seal has sent its last unit. -/
def execSealBoundary (n : Fin 1024) (s : State) : Outcome := answer (s.sealBoundary n).removeDrained

/-- DEFRAG_MOVE (R171, R172). -/
def execDefragMove (c : Fin 2) (s : State) : Outcome := answer (s.defrag c)

/-- CMSEL_WRITE (R179). -/
def execCmselWrite (v : W32) (s : State) : Outcome := answer (s.gated adr_TRB_CMSEL (fun s => s.cmselWrite v.toNat))

/-- RECEIVE_UNIT (R144, R209, R213, R217, R220). -/
def execReceiveUnit (n : Fin 1024) (s : State) : Outcome := answer ((s.receiveUnit n).rxDrained n)

/-- TAG_VERDICT (R211, R214, R219). -/
def execTagVerdict (n : Fin 1024) (s : State) : Outcome := answer ((s.tagVerdict n).rxDrained n)

/-- AREA_ZEROED (R212, R224). -/
def execAreaZeroed (n : Fin 1024) (s : State) : Outcome :=
  answer (s.areaZeroed n)

/-- HOST_TRANSMIT (R122, R154, R157, R177). -/
def execHostTransmit (g : Fin 28) (skip : Fin 1024) (s : State) : Outcome :=
  let t := s.hostTransmit g skip
  answer ((t.grpRunning 1 g).foldl (fun s n => s.rxDrained n) t)

end Sys2Proof.Machine
end

