-- ==== Sys2Proof/Machine/Cip.lean ====
section
/-! DEFINITION. Keys, life cycle and tamper (R190 to R206, R225 to R232, R613). -/

namespace Sys2Proof.Machine

open Reg

/-! ## Records (R194 to R196) -/

/-- The bytes of a record from its eight store words (R76). -/
def recordBytes (words : List Nat) : List Byte :=
  words.flatMap (fun w => bytesBE 4 (w % 2 ^ 32) ++ bytesBE 4 (w / 2 ^ 32))

/-- The number in some bytes of a record. -/
def bytesAt (l : List Byte) (at_ len : Nat) : Nat := natBE ((l.drop at_).take len)

/-- RFMT, RVER and the zero bytes of a record are right. -/
def recordHead (r : List Byte) : Bool := bytesAt r 0 8 == 0x1001 * 2 ^ 48

/-- What opening a record comes to. -/
inductive Opened where
  | unwrapFails
  | malformed
  | key (k : Key)
deriving DecidableEq, Repr

/-- Open a record under a KEK, for a USE. -/
def openRecord (kek use : Nat) (r : List Byte) : Opened :=
  match Aes.unwrap kek (r.drop 8) with
  | none => .unwrapFails
  | some c =>
    if recordHead r && bytesAt c 32 1 == use && decide (bytesAt c 33 1 < 2) && bytesAt c 34 2 == 0 && bytesAt c 40 8 == 0 then
      .key ⟨bytesAt c 0 32, use, bytesAt c 33 1, bytesAt c 36 4, 0, false, false⟩
    else .malformed

/-- The KEK in a slot, unless a tamper has begun or WIPED is set (R204, R205). -/
def State.kekIn (s : State) (k : Nat) : Option Nat :=
  if s.on CIP_TAMPER_WIPED || s.cip.wiping then none
  else match s.key k with
    | some x => if x.use = 2 then some x.key else none
    | none => none

/-- Slot 0 is loaded from the root in MTP (R197, R201), unless a tamper has begun or WIPED is set (R205). -/
def State.loadRoot (s : State) : State :=
  match s.mtp.root with
  | some r => if s.on CIP_TAMPER_WIPED || s.cip.wiping then s else s.setKey 0 ⟨r, 2, 0, 0, 0, false, false⟩
  | none => s

/-! ## KEYIMP, KEYSTAGE, KEYROLL, KEYZERO (R106, R191, R196, R206, R225 to R228) -/

/-- KEYIMP queues its unwrap. -/
def State.keyImp (s : State) (e : Nat) (en : Entry) (h : Nat) : Res × State :=
  (.wait [.unwrap], { s with mgt := { s.mgt with
    unwraps := s.mgt.unwraps ++ [⟨e, en.pc, h % 0x1000, en.a % 8, recordBytes en.desc⟩] } })

/-- Why an unwrap is refused, or the key it gives. -/
def State.importKey (s : State) (j : UnwrapJob) : Nat × Option Key :=
  if s.mtp.lcs = 0 ∨ s.mtp.lcs = 3 then (0x031A, none)
  else if s.on CIP_EPOCH_EXHAUSTED then (0x0319, none)
  else if s.keyCurrent j.slot || s.keyStaged j.slot then (0x0313, none)
  else match s.kekIn j.kek with
    | none => (0x0314, none)
    | some k => match openRecord k 1 j.record with
      | .key x => (0, some x)
      | _ => (0x0315, none)

/-- The word of an instruction in flight. -/
def State.entryWordOf (s : State) (e pc : Nat) : Nat :=
  match (s.eng e).entries.find? (fun en => en.pc == pc) with
  | some en => en.word
  | none => 0

/-- The first unwrap of class 0 runs. -/
def State.keyUnwrap (s : State) : State :=
  match s.mgt.unwraps with
  | [] => s
  | j :: rest =>
    if s.mgtServes then
      let s := ({ s with mgt := { s.mgt with unwraps := rest } }).seeBusy
      match s.importKey j with
      | (_, some k) => ((s.setKey j.slot k).complete j.engine j.pc 0).refreshNeeds
      | (c, none) => s.refuse j.engine j.pc (s.entryWordOf j.engine j.pc) (hKey j.slot) c
    else s

/-- A tributary handle's directions (R52). -/
def dirsOf (h : Nat) : List Nat := if h / 0x400 % 4 = 1 then [0] else if h / 0x400 % 4 = 2 then [1] else [0, 1]

/-- The tributary index of a handle. -/
def tribOf (h : Nat) : Nat := h % 0x400

/-- The first nonzero code of a list of checks. -/
def firstCode (l : List Nat) : Nat := (l.find? (fun c => c != 0)).getD 0

/-- The checks of KEYSTAGE for one direction. -/
def State.stageCheck (s : State) (d n k : Nat) : Nat :=
  let t := s.trib d n
  if t.stop = 3 then 0x0201
  else if d = 0 ∧ (t.tx.rollDue || t.tx.rollArmed) = true then 0x0301
  else if (s.key k).isNone then 0x0310
  else if s.get (CIP_T_KEY_CURRENT d n) = k ∧ t.active = true then 0x0317
  else match s.key k with
    | some x => if spentCount ≤ x.count then 0x0318 else 0
    | none => 0x0310

/-- KEYSTAGE. -/
def State.keyStage (s : State) (h k : Nat) : Res × State :=
  let n := tribOf h
  let c := firstCode ((dirsOf h).map (fun d => s.stageCheck d n k))
  if c ≠ 0 then (.refused c, s)
  else (.ok 0, (dirsOf h).foldl (fun s d => (s.set (CIP_T_KEY_STAGED d n) k).setB (CIP_T_KEY_STV d n) true) s)

/-- KEYROLL. -/
def State.keyRoll (s : State) (h : Nat) : Res × State :=
  let n := tribOf h
  let c := firstCode ((dirsOf h).map (fun d =>
    if (s.trib d n).stop = 3 then 0x0201 else if s.on (CIP_T_KEY_STV d n) then 0 else 0x0316))
  if c ≠ 0 then (.refused c, s)
  else if (dirsOf h).contains 0 then
    (.wait [.roll n], (s.setTribTx n { (s.trib 0 n).tx with rollDue := true }).setB (CIP_T_KEY_PEND 0 n) true)
  else (.ok 0, s)

/-- KEYZERO. -/
def State.keyZero (s : State) (h : Nat) : Res × State :=
  let k := h % 0x1000
  if s.keyCurrent k || s.keyStaged k then (.refused 0x0313, s) else (.ok 0, s.dropKey k)

/-! ## Seal counts (R190, R191) -/

/-- The transmit tributaries that run under a key slot. -/
def State.sealsUnder (s : State) (k : Nat) : List Nat :=
  s.txTribs.filter (fun n => (s.trib 0 n).active && s.get (CIP_T_KEY_CURRENT 0 n) == k)

/-- A slot's count reaches the warning. -/
def State.keyWarn (s : State) (k : Nat) : State :=
  match s.key k with
  | none => s
  | some x =>
    if x.warn = true ∨ x.count < warnCount then s
    else
      let s := (s.setKey k { x with warn := true }).post srcCIP 0x04 (hKey k) []
      (s.sealsUnder k).foldl (fun s n =>
        let s := s.setB (CIP_T_EVENT_WARN 0 n) true
        if s.on (CIP_T_KEY_STV 0 n) then
          (s.setTribTx n { (s.trib 0 n).tx with rollDue := true }).setB (CIP_T_KEY_PEND 0 n) true
        else s) s

/-- A slot's count reaches its limit: tributaries with an open seal finish it; the others roll or stop now. -/
def State.keySpend (s : State) (k : Nat) : State :=
  match s.key k with
  | none => s
  | some x =>
    if x.count < spentCount then s
    else
      let s := s.setKey k { x with spent := true }
      (s.sealsUnder k).foldl (fun s n =>
        let t := s.trib 0 n
        if t.stop ≠ 0 ∨ t.tx.starting = true then s
        else match t.tx.opened with
          | some _ => s.sealBoundary n
          | none => s.startSeal n) s

/-- The counter of a transmit tributary is at its end (R188). -/
def State.counterLimit (s : State) (n : Nat) : State :=
  let t := s.trib 0 n
  if t.ost == .enabled && t.stop == 0 && t.tx.ctrEnd && !t.tx.starting then
    (if t.tx.opened.isNone then s.stopTrib 0 n 2 else s.sealBoundary n)
  else s

/-! ## Wipes (R201, R204, R206) -/

/-- Every bank that the lock chamber owns is zero. -/
def State.zeroLock (s : State) : State :=
  let s := ((List.range 187).filter (fun b => s.owner b == ownLOCK)).foldl (fun s b => s.zeroBank b) s
  s.tribList.foldl (fun s p =>
    if p.1 = 1 then
      ((s.unplace ownLOCK (hReturning p.2)).setTribRx p.2 { (s.trib 1 p.2).rx with zeroing := [], dirty := [] }).rxDrained p.2
    else s) s

/-- Every key slot is empty, and every enabled tributary is STOPPED. -/
def State.wipe (s : State) : State :=
  let s := { s with cip := { s.cip with keys := [] } }
  s.tribList.foldl (fun s p =>
    let d := p.1
    let n := p.2
    let s := if d = 1 ∧ (s.trib 1 n).active = true then s.discardSeals n 2 else s
    let s := (s.setB (CIP_T_KEY_STV d n) false).setB (CIP_T_KEY_PEND d n) false
    if (s.trib d n).ost = .enabled then s.stopTrib d n 3
    else if (s.trib d n).ost = .draining ∧ d = 0 then s.drainTx n true else s) s

/-! ## KEK loads and root injection (R197, R198) -/

/-- The bytes of CIP_KEKBUF (R232). -/
def State.kekBytes (s : State) : List Byte := (List.range 16).flatMap (fun i => bytesBE 4 (s.get (CIP_KEKBUF_DATA i)))

/-- An operation ends with a result: its buffer is zeroed. -/
def State.kekEnd (s : State) (code : Nat) : State :=
  let s := s.zero ((List.range 16).map CIP_KEKBUF_DATA)
  let s := (s.setB CIP_KEKSTAT_BUSY false).set CIP_KEKSTAT_RESULT code
  { s with cip := { s.cip with kek := none } }

/-- A KEYIMP that has not been accepted needs a KEK slot. -/
def State.kekInUse (s : State) (k : Nat) : Bool := s.mgt.unwraps.any (fun j => j.kek == k)

/-- Every code that applies to an operation, and the key it loads. `verified` says that MTP took the root. -/
def State.kekCodes (s : State) (o : KekOp) (verified : Bool) : List Nat × Option Key :=
  let inUse : List Nat := if s.kekInUse o.target then [7] else []
  if o.plain then
    ((if s.mtp.lcs = 0 then [] else [1]) ++ (if o.inWindow && s.mtpWindow && verified then [] else [5])
      ++ (if o.target = 0 then [] else [6]) ++ inUse, some ⟨bytesAt o.buf 0 32, 2, 0, 0, 0, false, false⟩)
  else
    let opened : List Nat × Option Key := match s.kekIn o.wrap with
      | none => ([2], none)
      | some k => match openRecord k 2 o.buf with
        | .unwrapFails => ([3], none)
        | .malformed => ([4], none)
        | .key x => ([], some x)
    ((if s.mtp.lcs = 1 ∨ s.mtp.lcs = 2 then [] else [1]) ++ opened.1 ++ (if o.target = 0 then [6] else []) ++ inUse
      ++ (if s.on CIP_EPOCH_EXHAUSTED then [8] else []), opened.2)

/-- The operation under way ends: RESULT takes the lowest code that applies. -/
def State.kekDone (s : State) (verified : Bool) : State :=
  match s.cip.kek with
  | none => s
  | some o =>
    match s.kekCodes o verified with
    | ([], some k) =>
      let s := if o.plain then ({ s with mtp := { s.mtp with root := some k.key } }).loadRoot else s.setKey o.target k
      (s.kekEnd 0).queueJobs.refreshNeeds
    | (l, _) => (s.kekEnd (l.foldl min 9)).queueJobs

/-- The operation under way may end: a root injection writes MTP, on its turn in class 3 (R106). -/
def State.kekMayEnd (s : State) : Bool :=
  match s.cip.kek with
  | some o => !o.plain || s.class3Turn .root
  | none => true

/-- CIP_KEKCTL is written with GO (R197, R198); outside the write window a root injection ends at once. -/
def State.kekGo (s : State) (plain : Bool) (wrap target : Nat) : State :=
  if s.on CIP_KEKSTAT_BUSY then s
  else
    let s := ((s.setB CIP_KEKCTL_PLAIN plain).set CIP_KEKCTL_WRAP wrap).set CIP_KEKCTL_TARGET target
    let o : KekOp := ⟨plain, target, wrap, s.kekBytes, s.mtpWindow⟩
    let s := ({ s with cip := { s.cip with kek := some o } }).setB CIP_KEKSTAT_BUSY true
    if plain && !o.inWindow then s.kekDone false else if plain then s.queueJobs.refreshNeeds else s

/-! ## Life cycle (R199 to R201, R613) -/

/-- Every KEYIMP that has not been accepted is refused. -/
def State.cancelImports (s : State) : State :=
  let jobs := s.mgt.unwraps
  let s := { s with mgt := { s.mgt with unwraps := [] } }
  jobs.foldl (fun s j => s.refuse j.engine j.pc (s.entryWordOf j.engine j.pc) (hKey j.slot) 0x0314) s

/-- CIP_LCS is written (R200). -/
def State.lcsWrite (s : State) (confirm req : Nat) : State :=
  let st := s.mtp.lcs
  let from_ := (req == 1 && st == 0) || (req == 2 && st == 1) || req == 3
    || (req == 4 && (st == 1 || st == 2) && s.on CIP_EPOCH_EXHAUSTED)
  if req = 0 ∨ s.on CIP_LCS_BUSY = true then s
  else if confirm ≠ 0x4C43 then s.set CIP_LCS_RESULT 1
  else if 5 ≤ req then s.set CIP_LCS_RESULT 5
  else if from_ = false then s.set CIP_LCS_RESULT 2
  else if req = 1 ∧ s.mtp.root = none then s.set CIP_LCS_RESULT 4
  else
    let s := if s.on CIP_KEKSTAT_BUSY then s.kekEnd 1 else s
    let s := (s.cancelImports.wipe).zeroLock
    let op : LcsOp := { req := req, old := st, missed := !s.mtpWindow }
    ((({ s with cip := { s.cip with lcs := some op } }).setB CIP_LCS_BUSY true).queueJobs).refreshNeeds

/-- The commit of a transition (R613): the new state; RETIRE and RENEW owe an erasure. -/
def Mtp.commit (m : Mtp) (req : Nat) : Mtp :=
  { m with lcs := if req = 4 then 0 else req, erase := if req = 3 ∨ req = 4 then req else 0 }

/-- The transition under way makes its commit, on its turn in class 3 and inside the write window. -/
def State.lcsCommit (s : State) : State :=
  match s.cip.lcs with
  | some o =>
    if s.class3Turn .lcs && s.mtpWindow && !o.missed && !o.committed then
      { s with mtp := s.mtp.commit o.req, cip := { s.cip with lcs := some { o with committed := true } } }
    else s
  | none => s

/-- The erasure that a commit owes: RETIRE the root, RENEW the root and both epoch copies; after RENEW, CIP_EPOCH reads 0. -/
def State.finishErase (s : State) : State :=
  match s.mtp.erase with
  | 0 => s
  | 3 => { s with mtp := { s.mtp with root := none, erase := 0 } }
  | _ => ({ s with mtp := { s.mtp with root := none, epochA := 0, epochB := 0, erase := 0 } }).zero
      [CIP_EPOCH_EPOCH, CIP_EPOCH_LAST, CIP_EPOCH_EXHAUSTED]

/-- A transition ends; `ok` says that MTP took the write, if its commit was still to be made. -/
def State.lcsEnd (s : State) (ok : Bool) : State :=
  let s := if ok then s.lcsCommit else s
  match s.cip.lcs with
  | none => s
  | some o =>
    let s := (({ s with cip := { s.cip with lcs := none } }).setB CIP_LCS_BUSY false).popJob
    let s := if o.committed then
        ((s.finishErase).set CIP_LCS_RESULT 0).post srcCIP 0x08 0 [o.old, s.mtp.lcs]
      else s.set CIP_LCS_RESULT 3
    if o.req = 3 ∨ o.req = 4 then s else s.loadRoot.refreshNeeds

/-! ## Tamper (R203 to R205) -/

/-- The cause bit of a trigger: 0 TAMPER_N, 1 VCORE, 2 clock pulse, 3 diode. -/
def tamperBit (c : Nat) : Fld :=
  if c = 0 then CIP_TAMPER_PIN else if c = 1 then CIP_TAMPER_VGLITCH else if c = 2 then CIP_TAMPER_CGLITCH
  else CIP_TAMPER_TGLITCH

/-- A trigger. -/
def State.tamper (s : State) (c : Nat) : State :=
  let s := { s with cip := { s.cip with
    wiping := true, tamperCauses := setBitN s.cip.tamperCauses c, pendingCount := s.cip.pendingCount + 1
    tamperN := s.cip.tamperN && c != 0 } }
  (s.wipe.queueJobs).tamperWake

/-- The lock-chamber banks are zero. -/
def State.tamperZeroed (s : State) : State :=
  if s.cip.wiping then
    let causes := s.cip.tamperCauses
    let s := (s.zeroLock).setB CIP_TAMPER_WIPED true
    let s := ([0, 1, 2, 3].filter (fun c => bitOf causes c == 1)).foldl (fun s c => s.setB (tamperBit c) true) s
    ({ s with cip := { s.cip with wiping := false, tamperCauses := 0 } }).post srcCIP 0x07 0 [causes]
  else s

/-- The pending count goes to MTP, on its turn in class 3 and inside the write window. -/
def State.tamperCount (s : State) : State :=
  if s.class3Turn .tamper && s.mtpWindow then
    ({ s with
      mtp := { s.mtp with tamper := min 0xFFFF (s.mtp.tamper + s.cip.pendingCount) }
      cip := { s.cip with pendingCount := 0 } } : State).popJob
  else s

/-- A reading in 0.25 °C that is a tamper trigger: above 135 °C or below −40 °C (R203). -/
def tamperReading (r : Int) : Bool := decide (540 < r) || decide (r < -160)

/-- The diodes that a millisecond of the model reads, failed ones only in a trial (R474, R481): whether one is a trigger (R478). -/
def State.tamperRead (s : State) (diodes : List (Option Int)) : Bool :=
  (List.range 12).any (fun d => (s.get (THM_DIODE_STATE d) == 0 || s.get (THM_DIODE_STATE d) == 4)
    && (match diodes.getD d none with
      | some r => tamperReading r
      | none => false))

/-! ## CIP_KSSEL (R232) -/

/-- CIP_KSSEL is written: the slot's information is captured. -/
def State.ksselWrite (s : State) (v : Nat) : State :=
  let s := s.wr v CIP_KSSEL_SLOT
  let k := s.get CIP_KSSEL_SLOT
  let x := (s.key k).getD ⟨0, 0, 0, 0, 0, false, false⟩
  let s := ((s.set CIP_KSINFO_STATE (s.keyState k)).set CIP_KSINFO_ROLE x.role).setB CIP_KSINFO_KEK (x.use == 2)
  let s := (s.setB CIP_KSINFO_WARN x.warn).setB CIP_KSINFO_SPENT (x.spent || decide (spentCount ≤ x.count))
  let s := s.set CIP_KSID_KEYID x.keyid
  (s.set CIP_KSCNTLO_COUNT (x.count % 2 ^ 32)).set CIP_KSCNTHI_COUNT (x.count / 2 ^ 32)

/-! ## Commands -/

/-- KEYIMP (R194, R196): accepted only when its unwrap has finished (R87). -/
def execKeyimp (e : Fin 4) (p : BitVec 18) (s : State) : Outcome :=
  let t := s.runObject 0x30 e p.toNat (fun s en h => s.keyImp e en h)
  answer (t.setEng e ((t.eng e).mapEntry p.toNat (fun en =>
    if en.waits.contains .unwrap then { en with accepted := false } else en)))

/-- KEY_UNWRAP (R106, R196). -/
def execKeyUnwrap (s : State) : Outcome := answer s.keyUnwrap

/-- KEYSTAGE (R191, R206, R228). -/
def execKeystage (e : Fin 4) (p : BitVec 18) (s : State) : Outcome :=
  answer (s.runObject 0x31 e p.toNat (fun s en h => s.keyStage h (argOf en.word % 2048)))

/-- KEYROLL (R225, R227). -/
def execKeyroll (e : Fin 4) (p : BitVec 18) (s : State) : Outcome :=
  answer (s.runObject 0x32 e p.toNat (fun s _ h => s.keyRoll h))

/-- KEYZERO (R62). -/
def execKeyzero (e : Fin 4) (p : BitVec 18) (s : State) : Outcome :=
  answer (s.runObject 0x33 e p.toNat (fun s _ h => s.keyZero h))

/-- KEYWARN (R190). -/
def execKeywarn (k : Fin 2048) (s : State) : Outcome := answer (s.keyWarn k)

/-- KEY_SPENT (R191). -/
def execKeySpent (k : Fin 2048) (s : State) : Outcome := answer (s.keySpend k)

/-- COUNTER_LIMIT (R188). -/
def execCounterLimit (n : Fin 1024) (s : State) : Outcome := answer (s.counterLimit n)

/-- ROOT_INJECTION (R197): CIP_KEKCTL written with GO 1 and PLAIN 1. -/
def execRootInjection (wrap target : Fin 8) (s : State) : Outcome :=
  answer (s.gated adr_CIP_KEKCTL (fun s => s.kekGo true wrap target))

/-- KEK_LOAD (R197): CIP_KEKCTL written with GO 1 and PLAIN 0. -/
def execKekLoad (wrap target : Fin 8) (s : State) : Outcome :=
  answer (s.gated adr_CIP_KEKCTL (fun s => s.kekGo false wrap target))

/-- KEK_OPERATION_END (R197, R198): `verified` says that MTP took a root. -/
def execKekOperationEnd (verified : Bool) (s : State) : Outcome :=
  answer (if s.kekMayEnd then s.kekDone verified else s)

/-- PROVISION (R200): CIP_LCS written with REQ 1. -/
def execProvision (confirm : BitVec 16) (s : State) : Outcome :=
  answer (s.gated adr_CIP_LCS (fun s => s.lcsWrite confirm.toNat 1))

/-- DEPLOY (R200): with REQ 2. -/
def execDeploy (confirm : BitVec 16) (s : State) : Outcome :=
  answer (s.gated adr_CIP_LCS (fun s => s.lcsWrite confirm.toNat 2))

/-- RETIRE (R200): with REQ 3. -/
def execRetire (confirm : BitVec 16) (s : State) : Outcome :=
  answer (s.gated adr_CIP_LCS (fun s => s.lcsWrite confirm.toNat 3))

/-- RENEW (R200): with REQ 4. -/
def execRenew (confirm : BitVec 16) (s : State) : Outcome :=
  answer (s.gated adr_CIP_LCS (fun s => s.lcsWrite confirm.toNat 4))

/-- LCS_TRANSITION_END (R106, R200, R201, R613): on the transition's turn in class 3. -/
def execLcsTransitionEnd (ok : Bool) (s : State) : Outcome := answer (if s.class3Turn .lcs then s.lcsEnd ok else s)

/-- TAMPER_TRIGGER (R203, R204). -/
def execTamperTrigger (cause : Fin 4) (s : State) : Outcome := answer (s.tamper cause)

/-- TAMPER_ZEROED (R204). -/
def execTamperZeroed (s : State) : Outcome := answer s.tamperZeroed

/-- TAMPER_COUNT_WRITE (R204). -/
def execTamperCountWrite (s : State) : Outcome := answer s.tamperCount

/-- MODEL_ADVANCE (R474), with the tamper trigger of R203 that a reading is. -/
def execModelAdvance (x : ModelTick) (s : State) : Outcome :=
  answerIf x.wf (if s.tamperRead x.diodes then (s.modelAdvance x).tamper 3 else s.modelAdvance x)

/-- KSSEL_WRITE (R232). -/
def execKsselWrite (v : W32) (s : State) : Outcome := answer (s.gated adr_CIP_KSSEL (fun s => s.ksselWrite v.toNat))

end Sys2Proof.Machine
end

