-- ==== Sys2Proof/Machine/Hka.lean ====
section
/-! DEFINITION. The housekeeping converter: filter, conversions, alarms, XO_IN (R465, R512 to R527). -/

namespace Sys2Proof.Machine

open Reg

/-! ## The filter (R515 to R517) -/

/-- N and log2 R of a preset. -/
def presetOf (p : Nat) : Nat × Nat :=
  if p = 0 then (3, 5) else if p = 1 then (3, 6) else if p = 2 then (4, 6) else if p = 3 then (4, 7)
  else if p = 4 then (5, 6) else (5, 7)

/-- One modulator clock through the integrators. -/
def integStep (w : Nat) (integ : List Nat) (d : Nat) : List Nat :=
  (integ.foldl (fun (p : List Nat × Nat) x =>
    let v := (x + p.2) % 2 ^ w
    (p.1 ++ [v], v)) ([], d)).1

/-- The combs on the last integrator: their new contents and the output. -/
def combStep (w : Nat) (comb : List Nat) (v : Nat) : List Nat × Nat :=
  comb.foldl (fun (p : List Nat × Nat) c => (p.1 ++ [p.2], (p.2 + 2 ^ w - c) % 2 ^ w)) ([], v)

/-- A sample from an output. -/
def sampleOf (n lg y : Nat) : Nat := y / 2 ^ (n * lg - 15)

/-! ## Conversions (R514, R517 to R521) -/

/-- Replace the converter's memory. -/
def State.setAdc (s : State) (a : Adc) : State := { s with adc := a }

/-- A conversion of a channel starts with settling. -/
def State.adcStart (s : State) (ch : Nat) : State :=
  let n := (presetOf (s.get HKA_CTL_PRESET)).1
  let s := ((s.setB HKA_STATUS_BUSY true).setB HKA_STATUS_SETTLING true).set HKA_STATUS_CUR ch
  s.setAdc { s.adc with
    integ := List.replicate n 0, comb := List.replicate n 0, discard := n + 1, taken := 0, sum := 0 }

/-- The conversion in progress is abandoned, or has ended. -/
def State.adcIdle (s : State) : State := s.zero [HKA_STATUS_BUSY, HKA_STATUS_SETTLING]

/-- The channel of a scan that follows a channel: the next higher in the mask, or else the lowest. -/
def nextChan (mask ch : Nat) : Option Nat :=
  let l := (List.range 25).filter (fun i => bitOf mask i == 1)
  match l.find? (fun i => decide (ch < i)) with
  | some i => some i
  | none => l.head?

/-- In scan mode the next conversion starts, `after` the channel converted last, if any. -/
def State.adcScan (s : State) (after : Option Nat) : State :=
  if s.on HKA_CTL_EN && s.on HKA_CTL_MODE && s.clk.xoRuns then
    match (match after with | some c => nextChan (s.get HKA_SCAN_MASK) c | none => lowBit 25 (s.get HKA_SCAN_MASK)) with
    | some c => s.adcStart c
    | none => s
  else s

/-- GO in single mode (R519). -/
def State.adcGo (s : State) : State :=
  if s.on HKA_CTL_EN && !(s.on HKA_CTL_MODE) && !(s.on HKA_STATUS_BUSY) && s.clk.xoRuns then s.adcStart (s.get HKA_CTL_CHAN)
  else s

/-- After a change of configuration: a conversion that it abandons gives way to the next one under the new values (R520). -/
def State.adcChanged (s : State) (abandon : Bool) : State :=
  let s := if abandon then s.adcIdle else s
  if s.on HKA_STATUS_BUSY then s else s.adcScan none

/-- HKA_CTL is written (R512, R515, R518 to R520, R525). -/
def State.hkaCtlWrite (s : State) (v : Nat) : State :=
  let bad := decide (24 < HKA_CTL_CHAN.of v) || decide (5 < HKA_CTL_PRESET.of v)
  if bad then s.setB HKA_EVENT_BADCH true
  else if 8 < HKA_CTL_AVG.of v ∨ 8 < HKA_CTL_SHIFT.of v then s
  else
    let fs := [HKA_CTL_EN, HKA_CTL_MODE, HKA_CTL_PRESET, HKA_CTL_AVG, HKA_CTL_SHIFT, HKA_CTL_CHAN]
    let changed := fs.any (fun f => f.of v != s.get f)
    let busy := s.on HKA_STATUS_BUSY
    let s := s.wrs v fs
    let s := if changed then s.adcChanged busy else s
    if HKA_CTL_GO.of v = 1 ∧ busy = false then s.adcGo else s

/-- HKA_SCAN is written: the conversion of a channel that leaves the mask is abandoned. -/
def State.hkaScanWrite (s : State) (v : Nat) : State :=
  let old := s.get HKA_SCAN_MASK
  let s := s.wr v HKA_SCAN_MASK
  let cur := s.get HKA_STATUS_CUR
  let left := s.on HKA_STATUS_BUSY && bitOf old cur == 1 && bitOf (s.get HKA_SCAN_MASK) cur == 0
  if left then (s.adcIdle).adcScan (some cur) else s.adcChanged false

/-- HKA_ALMk is written (R512, R525): its excursions count afresh. -/
def State.almWrite (s : State) (k v : Nat) : State :=
  if 24 < (HKA_ALM_CHAN k).of v then s.setB HKA_EVENT_BADCH true
  else (s.wrs v [HKA_ALM_EN k, HKA_ALM_CHAN k, HKA_ALM_PERSIST k]).setAdc
    { s.adc with excursions := Assoc.drop k s.adc.excursions }

/-- The filter takes R bits of the modulator and delivers an output (R516, R517, R518). -/
def State.hkaSample (s : State) (bits : List Bool) : State :=
  let p := presetOf (s.get HKA_CTL_PRESET)
  let w := p.1 * p.2 + 1
  let a := s.adc
  let more := a.discard != 0 || decide (a.taken < 2 ^ s.get HKA_CTL_AVG)
  if s.on HKA_STATUS_BUSY && s.clk.xoRuns && more && bits.length == 2 ^ p.2 then
    let integ := bits.foldl (fun g b => integStep w g b.toNat) a.integ
    let c := combStep w a.comb (integ.getLastD 0)
    if a.discard = 0 then
      s.setAdc { a with integ := integ, comb := c.1, taken := a.taken + 1, sum := a.sum + sampleOf p.1 p.2 c.2 }
    else (s.setAdc { a with integ := integ, comb := c.1, discard := a.discard - 1 }).setB HKA_STATUS_SETTLING (a.discard != 1)
  else s

/-! ## Ends of conversions and alarms (R521, R523) -/

/-- An alarm sees a mean of its channel. -/
def State.alarm (s : State) (ch mean k : Nat) : State :=
  if s.on (HKA_ALM_EN k) && s.get (HKA_ALM_CHAN k) == ch then
    let low := decide (mean < s.get (HKA_ALMLIM_LOW k))
    let high := decide (s.get (HKA_ALMLIM_HIGH k) < mean)
    let a := s.adc
    if low || high then
      let n := Assoc.get 0 k a.excursions + 1
      let fires := decide (s.get (HKA_ALM_PERSIST k) + 1 ≤ n) && !(a.firedNow.contains k)
      let s := s.setAdc { a with excursions := Assoc.put k n a.excursions, firedNow := if fires then k :: a.firedNow else a.firedNow }
      if fires then ((s.setBit HKA_EVENT_ALARM k).post srcHKA 0x01 0 [k, ch, mean, high.toNat]).fireWake 4 else s
    else s.setAdc { a with excursions := Assoc.drop k a.excursions, firedNow := a.firedNow.filter (fun j => j != k) }
  else s

/-- A conversion ends. -/
def State.conversionEnd (s : State) : State :=
  let a := s.adc
  let avg := s.get HKA_CTL_AVG
  if s.on HKA_STATUS_BUSY && s.clk.xoRuns && a.discard == 0 && a.taken == 2 ^ avg then
    let ch := s.get HKA_STATUS_CUR
    let mean := a.sum / 2 ^ avg
    let s := if s.on HKA_DATA_VALID then s.setB HKA_EVENT_OVR true else s
    let s := ((s.setB HKA_DATA_VALID true).set HKA_DATA_CHAN ch).set HKA_DATA_RESULT (a.sum / 2 ^ s.get HKA_CTL_SHIFT)
    let s := (s.set (HKA_RES_MEAN ch) mean).setB (HKA_RES_FRESH ch) true
    let s := [0, 1, 2, 3].foldl (fun s k => s.alarm ch mean k) (s.setB HKA_EVENT_DONE true)
    (s.adcIdle).adcScan (some ch)
  else s

/-! ## XO_IN (R465, R514) -/

/-- XO_IN stops. -/
def State.xoStop (s : State) : State :=
  if s.clk.xoRuns then
    let c := s.clk
    let s := { s with clk := { c with xoRuns := false, usedO := c.usedO || c.asleep, xoStopped := c.xoStopped || c.asleep } }
    ((s.adcIdle.setB HKA_STATUS_NOCLK true).setB HKA_EVENT_NOCLK true).post srcHKA 0x02 0 [1]
  else s

/-- XO_IN returns. -/
def State.xoReturn (s : State) : State :=
  if s.clk.xoRuns then s
  else
    let c := s.clk
    let s := { s with clk := { c with xoRuns := true, usedX := c.usedX || c.asleep } }
    ((s.setB HKA_STATUS_NOCLK false).post srcHKA 0x02 0 [0]).adcScan none

/-! ## Commands -/

/-- XO_IN_STOP (R465, R514). -/
def execXoInStop (s : State) : Outcome := answer s.xoStop

/-- XO_IN_RETURN (R465, R514). -/
def execXoInReturn (s : State) : Outcome := answer s.xoReturn

/-- HKA_GO (R519): HKA_CTL written with GO 1 and its other fields as they stand. -/
def execHkaGo (s : State) : Outcome := answer (s.gated adr_HKA_CTL (fun s => s.adcGo))

/-- HKA_CONFIG_WRITE (R520): of HKA_SCAN, or of HKA_CTL. -/
def execHkaConfigWrite (scan : Bool) (v : W32) (s : State) : Outcome :=
  answer (if scan then s.gated adr_HKA_SCAN (fun s => s.hkaScanWrite v.toNat) else s.gated adr_HKA_CTL (fun s => s.hkaCtlWrite v.toNat))

/-- HKA_SAMPLE (R516): the bits of the modulator since the last output, R of them. -/
def execHkaSample (bits : List Bool) (s : State) : Outcome :=
  answerIf (decide (bits.length ≤ 128)) (s.hkaSample bits)

/-- CONVERSION_END (R521). -/
def execConversionEnd (s : State) : Outcome := answer s.conversionEnd

/-- HKA_DATA_READ (R522). -/
def execHkaDataRead (s : State) : Outcome := answer (s.gated adr_HKA_DATA (fun s => s.setB HKA_DATA_VALID false))

end Sys2Proof.Machine
end

