-- ==== Sys2Proof/Machine/Pmc.lean ====
section
/-! DEFINITION. The performance counters: the signals, selection, clearing and the level tick (R556 to R566). -/

namespace Sys2Proof.Machine

open Reg

/-- The signal kinds of R559: none for an undefined code, some true for a level. -/
def pmcLevelKind (sig : Nat) : Option Bool :=
  if sig ≤ 0x08 then some false
  else if sig ≤ 0x0B then some true
  else match sig with
    | 0x10 => some true
    | 0x11 => some false
    | 0x20 => some false
    | 0x21 => some true
    | 0x22 => some true
    | 0x30 => some true
    | 0x31 => some false
    | 0x32 => some false
    | 0x33 => some true
    | 0x34 => some false
    | 0x3F => some false
    | _ => none

/-- How many instances a signal has (R559). -/
def pmcInstances (sig : Nat) : Nat :=
  if 0x01 ≤ sig ∧ sig ≤ 0x0B then 2
  else if 0x10 ≤ sig ∧ sig ≤ 0x11 then 28
  else if 0x20 ≤ sig ∧ sig ≤ 0x22 then 4
  else 1

/-- A selection of R557 that may be written: the signal is defined, INST lies in its range, MODE 1 names a level. -/
def pmcSelOk (mode sig inst : Nat) : Bool :=
  match pmcLevelKind sig with
  | none => false
  | some level => decide (inst < pmcInstances sig) && (level || mode == 0 || sig == 0)

/-- Counter `k` to zero; an overflow bit stays (R560). -/
def State.pmcZero (s : State) (k : Nat) : State := s.zero [PMC_CNTLO_COUNT k, PMC_CNTHI_COUNT k]

/-- PMC_SELn is written (R557, R565): a selection that is not valid changes nothing. -/
def State.pmcSelWrite (s : State) (k v : Nat) : State :=
  if pmcSelOk ((PMC_SEL_MODE k).of v) ((PMC_SEL_SIG k).of v) ((PMC_SEL_INST k).of v) then
    let s := s.wrs v [PMC_SEL_EN k, PMC_SEL_MODE k, PMC_SEL_SIG k, PMC_SEL_INST k]
    if (PMC_SEL_CLR k).of v = 1 then s.pmcZero k else s
  else s

/-- All 64 counters to zero. -/
def State.pmcZeroAll (s : State) : State := (List.range 64).foldl State.pmcZero s

/-- PMC_CTL is written (R566). -/
def State.pmcCtlWrite (s : State) (v : Nat) : State :=
  let s := s.wrs v [PMC_CTL_RUN, PMC_CTL_FREEZE]
  if PMC_CTL_CLRALL.of v = 1 then s.pmcZeroAll else s

/-- A level signal is 1 (R559). -/
def State.pmcLevel (s : State) (sig inst : Nat) : Bool :=
  match sig with
  | 0x09 => s.on (FRM_C_STATUS_SF inst)
  | 0x0A => s.on (FRM_C_STATUS_SD inst)
  | 0x0B => s.on (ACQ_C_STATUS_LOCKED inst)
  | 0x10 => s.get (HLN_LANE_STATUS_STATE inst) == 3
  | 0x21 => s.engState inst == 2
  | 0x22 => decide ((s.eng inst).entries.length = 64)
  | 0x30 => decide (s.get THM_STATUS_STEP ≠ 0)
  | 0x33 => s.mgtBusy
  | _ => false

/-- So many ticks of 10 ns pass: counters in MODE 1 whose signal is 1 add them (R557). -/
def State.pmcTicks (s : State) (n : Nat) : State :=
  if s.pmcRuns then
    ((List.range 64).filter (fun k => s.on (PMC_SEL_EN k) && s.on (PMC_SEL_MODE k)
        && s.pmcLevel (s.get (PMC_SEL_SIG k)) (s.get (PMC_SEL_INST k)))).foldl (fun s k => s.pmcAdd k n) s
  else s

/-! ## Commands -/

/-- PMC_CLR (R565): PMC_SELn written with CLR 1, its other fields as they stand. -/
def execPmcClr (k : Fin 64) (s : State) : Outcome := answer (s.gated (adr_PMC_SEL k) (fun s => s.pmcZero k))

/-- CLRALL (R566): PMC_CTL written with CLRALL 1, its other fields as they stand. -/
def execClrall (s : State) : Outcome := answer (s.gated adr_PMC_CTL State.pmcZeroAll)

/-- PMC_SEL_WRITE (R557). -/
def execPmcSelWrite (k : Fin 64) (v : W32) (s : State) : Outcome :=
  answer (s.gated (adr_PMC_SEL k) (fun s => s.pmcSelWrite k v.toNat))

end Sys2Proof.Machine
end

