-- ==== Sys2Proof/Machine/Power.lean ====
section
/-! DEFINITION. Polders at work: POWER, entries, wakes, device time across sleep, the wake timer, supplies (R447 to R473, R507,
R606, R608). -/

namespace Sys2Proof.Machine

open Reg

/-! ## Off (R452, R453) -/

/-- Registers of a sleeping polder that keep their value although they are no RW field: device-time uncertainty (R467,
R468), seal counters (R187) and what MTP shows in the cipher (R232). -/
def keptOff (a : Nat) : Bool :=
  a == adr_MGT_TIME_STATUS || a == adr_MGT_TIME_UNCERT || decide (0x190000 ≤ a ∧ a < 0x1A0000)
    || (decide (0x180000 ≤ a ∧ a < 0x190000) && (a % 0x20 == 0x08 || a % 0x20 == 0x0C))

/-- Off loses every field of a polder's registers but the RW ones. -/
def State.offRegs (s : State) (n : Nat) : State :=
  { s with
    flds := s.flds.filter (fun e =>
      polderOfAddr (e.1 / 32) != [n] || keptOff (e.1 / 32)
        || (match rowOfKey e.1 with
          | some r => r.acc == .rw
          | none => false))
    shadow := s.shadow.filter (fun e => polderOfAddr e.1 != [n]) }

/-- What else off loses. -/
def State.offState (s : State) (n : Nat) : State :=
  if n = 1 then { s with mgt := {} }
  else if n = 2 then [0, 1, 2, 3].foldl (fun s e => s.set (SLU_ENG_STATUS_STATE e) 0) { s with engines := [] }
  else if n = 3 ∨ n = 4 then (s.setLine (n - 3) {}).setAcq (n - 3) {}
  else if n = 5 then
    { s with poolA := { imin := s.get FEC_ALLOC_IMIN, head := s.get FEC_ALLOC_HEAD }
             poolB := { imin := s.get FEC_ALLOC_IMIN, head := s.get FEC_ALLOC_HEAD } }
  else if 9 ≤ n ∧ n ≤ 12 then ((List.range 7).map (fun i => 7 * (n - 9) + i)).foldl (fun s l => s.setLane l {}) s
  else if 16 ≤ n then ((List.range 8).map (fun i => 8 * (n - 16) + i)).foldl (fun s b => s.zeroBank b) s
  else s

/-! ## Device time across sleep (R465 to R468, R606) -/

/-- MGT's entry ends: the counter is saved, with the periods of both tick sources in ps. -/
def State.mgtSleep (s : State) (px po : Nat) : State :=
  { s with clk := { s.clk with
      saved := s.clk.dev, px := px, po := po, nx := 0, no := 0, asleep := true
      usedX := s.clk.xoRuns, usedO := !s.clk.xoRuns, xoStopped := !s.clk.xoRuns
      selAtEntry := s.get TIM_STATUS_SEL, leftLocked := false } }

/-- Device time after so many ticks of each source. -/
def Clocks.timeAfter (c : Clocks) (nx no : Nat) : Nat := c.saved + (nx * c.px + no * c.po) / 1000

/-- U of R467 in ns, rounded up. -/
def Clocks.uncertainty (c : Clocks) : Nat :=
  let x := if c.usedX then c.nx * c.px * 6 + c.px * 100000000 else 0
  let o := if c.usedO then c.no * c.po * 25000 + c.po * 100000000 else 0
  (x + o + 99999999999) / 100000000000

/-- A held event is written, with LOST where it, or one of its source that found no room just now, says so (R539). -/
def State.writeHeldEvent (s : State) (src time : Nat) (h : HeldEvent) : State :=
  let x := s.source src
  (s.setSource src { x with lost := false }).writeEvent src time h.code h.step h.seq h.handle (h.lost || x.lost) h.items

/-- Events that sources hold are written, in the order of their production times (R606). A LOST flag that is pending now
belongs to the event after the held ones (R607). -/
def State.writeHeld (s : State) : State :=
  let c := s.clk
  let all := s.evq.sources.flatMap (fun p => p.2.held.map (fun h => (p.1, h)))
  let when_ (h : HeldEvent) : Nat := h.at_.getD (c.timeAfter h.nx h.no)
  let late := (s.evq.sources.filter (fun p => p.2.lost)).map (fun p => p.1)
  let s := { s with evq := { s.evq with
      sources := s.evq.sources.map (fun p => (p.1, { p.2 with held := [], lost := false })) } }
  let s := (all.mergeSort (fun a b => when_ a.2 ≤ when_ b.2)).foldl (fun s e => s.writeHeldEvent e.1 (when_ e.2) e.2) s
  late.foldl (fun s src => s.setSource src { s.source src with lost := true }) s

/-- MGT is on again: device time is restored, held events are written, TIMEADV is posted. -/
def State.mgtWake (s : State) : State :=
  if s.clk.asleep then
    let c := s.clk
    let t := c.timeAfter c.nx c.no
    let u := c.uncertainty
    let disc := s.get TIM_STATUS_SEL != c.selAtEntry || c.leftLocked || c.xoStopped
    let s := { s with clk := { c with dev := t, asleep := false } }
    let s := s.bump MGT_TIME_UNCERT_UNCERT u
    let s := if disc then s.setB MGT_TIME_STATUS_DISCONTINUOUS true else s
    let s := if c.xoStopped then s.setB MGT_TIME_STATUS_XOLOST true else s
    let s := s.set MGT_TIME_STATUS_SRC (if c.usedX && c.usedO then 2 else if c.usedO then 1 else 0)
    let s := s.writeHeld
    s.post srcPWR 0x05 0 [(t - c.saved) / 2 ^ 32, (t - c.saved) % 2 ^ 32, min u (2 ^ 32 - 1),
      s.get MGT_TIME_STATUS_DISCONTINUOUS]
  else s.writeHeld

/-! ## Entries and wakes (R453, R459, R462) -/

/-- Once DWELL and WHOLD are over, an unneeded polder takes its state. -/
def State.settleDue (s : State) (n : Nat) : State := if (s.pd n).dwelled then s.settlePolder n else s

/-- An entry ends. -/
def State.entryEnd (s : State) (n px po : Nat) : State :=
  match (s.pd n).st with
  | .entering deep fromRet =>
    let s := s.setPState n (if deep then .off else .ret)
    let s := (s.setB (PWR_PD_EVENT_ENTERED n) true).bump (PWR_PD_WAKES_ENTRIES n) 1
    let s := if n = 1 then s.mgtSleep px po else s
    let s := if deep then (s.offRegs n).offState n else s
    let s := s.post srcPWR 0x01 (hPolder n) [if fromRet then 1 else 0, if deep then 2 else 1]
    let s := s.powerDone n
    (match (s.pd n).latched with
      | a :: t => s.beginWake n a (t.length + 1)
      | [] => s.settlePolder n)
  | _ => s

/-- LINEx is on again: from off its converters start up (R364); its registers show whether its sets have bins (R372). -/
def State.lineUp (s : State) (c : Nat) (deep : Bool) : State :=
  let s := s.showSets
  if deep then { s with cnv := { s.cnv with starting := c :: s.cnv.starting.filter (fun x => x != c) } } else s

/-- A wake ends. -/
def State.wakeEnd (s : State) (n : Nat) : State :=
  match (s.pd n).st with
  | .waking deep =>
    let s := s.setPState n .on
    let s := if n = 1 then s.mgtWake else s
    let s := if n = 2 then ([0, 1, 2, 3].filter (fun e => s.engState e == 0)).foldl (fun s e => s.set (SLU_ENG_STATUS_STATE e) 1) s else s
    let s := s.post srcPWR 0x01 (hPolder n) [if deep then 2 else 1, 0]
    let s := if 9 ≤ n ∧ n ≤ 12 then (s.restartQuad n).evalHosts else if n = 3 ∨ n = 4 then s.lineUp (n - 3) deep else s
    ((s.finishWait (.polderOn n) 0).powerDone n).enablesDone
  | _ => s

/-! ## POWER (R73, R456 to R460) -/

/-- The wake sources defined for a polder (R460). -/
def wakeMask (n : Nat) : Nat :=
  if n = 0 then 0 else if n = 1 then 0x7F else if n = 2 then 0x63 else if n = 39 then 0x62 else 0x60

/-- Word 0 of a descriptor and the words that every type reserves are in order (R64); `en` says that the type has EN. -/
def headOk (d : List Nat) (en : Bool) : Bool :=
  dfld d 0 48 8 == 1 && dfld d 0 32 15 == 0 && (en || dfld d 0 47 1 == 0) && [5, 6, 7].all (fun w => d.getD w 0 == 0)

/-- The fields of a polder descriptor. -/
def pdLtol (d : List Nat) : Nat := dfld d 1 32 32
def pdHold (d : List Nat) : Nat := dfld d 1 30 2
def pdWake (d : List Nat) : Nat := dfld d 1 0 16

/-- Put a polder descriptor in force. -/
def State.applyPolder (s : State) (n : Nat) (d : List Nat) : State :=
  let s := { s with powerDescs := Assoc.put n d s.powerDescs }
  ((s.set (PWR_PD_STATUS_HOLD n) (pdHold d)).set (PWR_PD_STATUS_WAKE n) (pdWake d)).set (PWR_PD_LTOL_LTOL n) (pdLtol d)

/-- A sleeping polder under its descriptor: whether that no longer allows its state (R458). -/
def State.tooDeep (s : State) (n : Nat) : Bool := decide (s.choose n < (s.pd n).st.query)

/-- The checks of a POWER. -/
def State.powerCheck (s : State) (n : Nat) (d : List Nat) : Nat :=
  let fieldsOk := headOk d false && dfld d 1 16 14 == 0 && [2, 3, 4].all (fun w => d.getD w 0 == 0) && decide (pdHold d ≤ 2)
  if s.barred n && (s.applyPolder n d).tooDeep n then 0x0601
  else if fieldsOk = false then 0x0602
  else if n = 0 ∧ pdHold d ≠ 1 then 0x0611
  else if Nat.land (pdWake d) (0xFFFF - wakeMask n) ≠ 0 then 0x0612
  else 0

/-- POWER on a polder. -/
def State.power (s : State) (n : Nat) (d : List Nat) : Res × State :=
  let c := s.powerCheck n d
  if c ≠ 0 then (.refused c, s)
  else
    let s := s.applyPolder n d
    let p := s.pd n
    let t := s.choose n
    if s.needed n then (.ok 0, s)
    else match p.st with
      | .on => if t = 0 then (.ok 0, s) else (.wait [.polder n], s.settleDue n)
      | .ret => if t = 1 then (.ok 0, s)
        else if t = 2 then (.wait [.polder n], s.enter n true)
        else (.wait [.polderOn n], s.wake n wakePower)
      | .off => if t = 2 then (.ok 0, s) else (.wait [.polderOn n], s.wake n wakePower)
      | .entering _ _ => if s.tooDeep n then (.wait [.polderOn n], s.wake n wakePower) else (.wait [.polder n], s)
      | .waking _ => if t = 0 then (.wait [.polderOn n], s) else (.wait [.polder n], s)

/-! ## Supplies (R448 to R451, R507) -/

/-- The step of R448 at which a rail comes: VCORE 0, VSRD 1, VANA 2, VCNVH 3, VIO 4, VAON 5. -/
def railStep (r : Nat) : Nat := if r = 5 then 0 else if r = 0 then 1 else if r = 1 ∨ r = 2 then 2 else if r = 3 then 3 else 4

/-- Sequencing bits newly set: shown and posted (R449, R450, R469). -/
def State.seqBits (s : State) (l : List Fld) : State :=
  let new := l.filter (fun f => !(s.on f))
  let mask := (new.map (fun f => 2 ^ f.lo)).sum
  let s := new.foldl (fun s f => s.setB f true) s
  if new.isEmpty then s else s.post srcPWR 0x04 0 [mask]

/-- The rails whose loss resets nothing (R507). -/
def heldRail (r : Nat) : Bool := r == 1 || r == 2 || r == 3

/-- A rail other than VAON reaches its good level; `late` says more than 20 ms after the step before. Before VAON nothing is
noticed. VAON's own rise is POWER_ON_RESET, and a held rail's return after READY is RAIL_RETURN. -/
def State.railGood (s : State) (r : Nat) (late : Bool) : State :=
  if s.rails.good.contains r ∨ r = 5 ∨ (s.ready = true ∧ heldRail r = true) then s
  else if s.rails.good.contains 5 = false then { s with rails := { s.rails with good := insertNat r s.rails.good } }
  else
    let before := [0, 1, 2, 3, 4, 5].filter (fun q => decide (railStep q < railStep r) && !(s.rails.good.contains q))
    let noAna := decide (r = 3) && !(s.rails.good.contains 2)
    let order := before.any (fun q => !(noAna && q == 2))
    let s := { s with rails := { s.rails with good := insertNat r s.rails.good } }
    s.seqBits ((if noAna then [PWR_SEQ_CNVFIRST] else []) ++ (if order then [PWR_SEQ_ORDER] else [])
      ++ (if late then [PWR_SEQ_LATE] else []))

/-- VSRD, VANA or VCNVH falls. -/
def State.railFall (s : State) (r : Nat) : State :=
  if heldRail r && s.rails.good.contains r then
    let drop (s : State) : State := { s with rails := { s.rails with good := s.rails.good.filter (fun q => q != r) } }
    let s := if r = 1 then
        (let s := [9, 10, 11, 12].foldl (fun s n => ((s.offRegs n).offState n).quadLanes n 0) (drop s)
         s.evalHosts)
      else
        (let s := s.withHold drop
         if r = 2 ∧ s.rails.good.contains 3 = true then s.seqBits [PWR_SEQ_CNVFIRST] else s)
    s.post srcRST 0x04 0 [r, 0]
  else s

/-- It returns. -/
def State.railReturn (s : State) (r : Nat) : State :=
  if heldRail r && !(s.rails.good.contains r) then
    let add (s : State) : State := { s with rails := { s.rails with good := insertNat r s.rails.good } }
    let s := if r = 1 then
        (let s := add s
         [9, 10, 11, 12].foldl (fun s n => if s.quadServed n then (s.quadLanes n 1).restartQuad n else s) s)
      else s.withHold add
    s.post srcRST 0x04 0 [r, 1]
  else s

/-! ## The wake timer (R608) -/

/-- PWR_TIMER is written. -/
def State.timerWrite (s : State) (v : Nat) : State :=
  { s.set PWR_TIMER_MS v with clk := { s.clk with timerOn := decide (v ≠ 0), timerFs := 0 } }

/-- The count-down reaches 0: TIMER fires once. -/
def State.timerFires (s : State) : State :=
  if s.clk.timerOn then
    (let s := s.set PWR_TIMER_MS 0
     { s with clk := { s.clk with timerOn := false } }).fireWake 6
  else s

/-! ## Commands -/

/-- POWER (R73, R458). -/
def execPower (e : Fin 4) (p : BitVec 18) (s : State) : Outcome :=
  answer (s.runObject 0x60 e p.toNat (fun s en h => s.power (h % 0x1000) en.desc))

/-- DWELL_EXPIRY (R456, R459): of a polder that exists. -/
def execDwellExpiry (n : Fin 40) (s : State) : Outcome :=
  answer (if polderList.contains n.val && !(s.needed n) then (s.setPd n { s.pd n with dwelled := true }).settlePolder n else s)

/-- ENTRY_END (R453, R462, R465): with the periods measured in MGT's entry, in ps. -/
def execEntryEnd (n : Fin 40) (px po : Nat) (s : State) : Outcome := answer (s.entryEnd n px po)

/-- WAKE (R459): a reason for a polder to wake, by the source codes of R471. -/
def execWake (n : Fin 40) (src : BitVec 8) (s : State) : Outcome :=
  let v := src.toNat
  let real := if v = wakeNeed then s.needed n else if v = wakePower then s.tooDeep n else decide (v < 16) && s.bit (PWR_PD_STATUS_WAKE n) v
  answer (if real && polderList.contains n.val then s.wake n v else s)

/-- WAKE_END (R453, R459, R466). -/
def execWakeEnd (n : Fin 40) (s : State) : Outcome := answer (s.wakeEnd n)

/-- WHOLD_EXPIRY (R459). -/
def execWholdExpiry (n : Fin 40) (s : State) : Outcome :=
  answer ((s.setPd n { s.pd n with whold := false }).settleDue n)

/-- I2C_ADDRESS_MATCH (R461). -/
def execI2cAddressMatch (s : State) : Outcome := answer (if s.ready then s.fireWake 0 else s)

/-- PWR_TIMER_WRITE (R608). -/
def execPwrTimerWrite (v : W32) (s : State) : Outcome := answer (s.gated adr_PWR_TIMER (fun s => s.timerWrite v.toNat))

/-- TIMER (R608). -/
def execTimer (s : State) : Outcome := answer s.timerFires

/-- RAIL_GOOD (R448 to R450). -/
def execRailGood (r : Fin 6) (late : Bool) (s : State) : Outcome := answer (s.railGood r late)

/-- RAIL_FALL (R507). -/
def execRailFall (r : Fin 6) (s : State) : Outcome := answer (s.railFall r)

/-- RAIL_RETURN (R507). -/
def execRailReturn (r : Fin 6) (s : State) : Outcome := answer (s.railReturn r)

/-- AON_MONITOR (R612): the monitor's new report. -/
def execAonMonitor (ok : Bool) (s : State) : Outcome :=
  answer ({ s with rails := { s.rails with aon3v := ok } }).windowCheck

/-- CLEAR_DONE (R424, R430): a group whose sleep waited for the clear goes on. -/
def execClearDone (b : Fin 192) (s : State) : Outcome := answer ((s.clearDone b).settleDue (memPolder b))

end Sys2Proof.Machine
end

