-- ==== Sys2Proof/Machine/Objects.lean ====
section
/-! DEFINITION. Instructions on objects: descriptor checks, the consistency check and placement, BIND to MTEST (R50, R51, R58 to R73,
R87, R98 to R101, R131 to R134, R439). -/

namespace Sys2Proof.Machine

open Reg

/-! ## Descriptor fields (R64 to R72) -/

/-- Reserved fields, as (word, lowest bit, width), are zero. -/
def zeroBits (d : List Nat) (l : List (Nat × Nat × Nat)) : Bool := l.all (fun r => dfld d r.1 r.2.1 r.2.2 == 0)

/-- A value lies in a range. -/
def inRange (lo hi v : Nat) : Bool := decide (lo ≤ v) && decide (v ≤ hi)

/-- A signed value lies within a bound of either sign. -/
def inBound (b v : Int) : Bool := decide (-b ≤ v) && decide (v ≤ b)

/-- The fields of a carrier descriptor (R65). -/
def carFieldsOk (d : List Nat) : Bool :=
  headOk d true && zeroBits d [(1, 28, 8), (1, 0, 16), (2, 0, 16), (3, 36, 2), (3, 0, 32), (4, 0, 36)]
    && inRange 120 600 (cdBaud d) && inRange 2 24 (cdNet d) && inRange 0 3 (cdMod d) && inRange 0 2 (cdFec d)
    && inRange 10 200 (cdRolloff d) && inBound 20000 (cdTxCd d) && inBound 160000 (cdCdHint d)
    && inRange 0 50 (cdNlcSpans d) && (cdRxBaudRaw d == 0 || inRange 120 600 (cdRxBaudRaw d))
    && (cdRxNetRaw d == 0 || inRange 2 24 (cdRxNetRaw d)) && inRange 0 2 (cdCprot d) && inRange 0 100 (cdHoldoff d)
    && inRange 0 720 (cdWtr d) && inRange 0 14 (cdAcqProf d)

/-- The fields of a tributary descriptor (R68, R147). -/
def tribFieldsOk (d : List Nat) : Bool :=
  headOk d true && zeroBits d [(1, 0, 14), (2, 0, 38), (3, 59, 5), (3, 0, 42), (4, 0, 64)]
    && inRange 0 24576 (tdSlots d) && inRange 0 4 (tdClient d) && inRange 0 2 (tdCarrier d) && inRange 0 1 (tdTprot d)
    && inRange 0 100 (tdHoldoff d) && inRange 0 720 (tdWtr d) && inRange 0 27 (tdHgrp d) && inRange 0 27 (tdHlane0 d)
    && [1, 2, 4, 8].contains (tdHlanes d) && (!(tdEthernet d) || tdChid d == 0) && inRange 8 2047 (tdKeyslot d)
    && (tdEthernet d || tdSlots d != 0)

/-- The fields of a seal-policy descriptor (R70). -/
def polFieldsOk (d : List Nat) : Bool :=
  headOk d false && zeroBits d [(1, 53, 9), (1, 0, 48), (2, 0, 64), (3, 0, 64), (4, 0, 64)]
    && inRange 0 1 (dfld d 1 62 2) && inRange 0 20 (dfld d 1 48 5)

/-- The fields of a reference-set descriptor (R71). Word 4, of which its table says nothing, must be zero, here as in the
descriptor of R68 (DESIGN CHOICE, log entry 93). -/
def refFieldsOk (d : List Nat) : Bool :=
  headOk d false && zeroBits d [(1, 32, 2), (1, 0, 16), (2, 0, 48), (3, 0, 28), (4, 0, 64)]
    && timInputs.all (fun i => decide (rsRank d i ≤ 7) || rsRank d i == 15) && inRange 0 100 (dfld d 1 16 16)
    && inRange 0 500 (dfld d 3 52 12) && inRange 0 1000 (dfld d 3 40 12) && inRange 0 3600 (dfld d 3 28 12)

/-! ## The consistency check (R67, R69, R98) -/

/-- An enabled tributary is placed on a carrier (R101 INUSE; receive tributaries are not placed, R164). -/
def State.carInUse (s : State) (c : Nat) : Bool :=
  let t := (s.car c).tx
  s.txTribs.any (fun n => (s.trib 0 n).active && (pageHas t.page n || pageHas t.standby n || pageHas (t.next.getD []) n))

/-- The other carrier passes as the peer of a pair (R67). -/
def State.peerOk (s : State) (c : Nat) (d : List Nat) : Bool :=
  let p := s.car (1 - c)
  cdCprot d == 0 || (p.ost != .unbound && cdCprot p.desc + cdCprot d == 3 && cdCprot p.desc != 0
    && cdRevert p.desc == cdRevert d && cdHoldoff p.desc == cdHoldoff d && cdWtr p.desc == cdWtr d)

/-- Σ D × IMIN with this carrier enabled stays within the capacity of the step in force (R289), in exact arithmetic. -/
def State.poolOk (s : State) (c : Nat) (d : List Nat) : Bool :=
  let x := demandOf (rxProfile d)
  let o := s.car (1 - c)
  let y := if o.active then demandOf (rxProfile o.desc) else (0, 1)
  decide ((x.1 * y.2 + y.1 * x.2) * s.iminNow ≤ fecCapacity s.shutter * 1000000 * x.2 * y.2)

/-- Steps 2 to 7 of R98 for a carrier: the first code that applies, or 0. -/
def State.carCheck (s : State) (c : Nat) (d : List Nat) : Nat :=
  if carFieldsOk d = false then 0x0102
  else if (txFormat d).isNone ∨ (rxProfile d).format.isNone then 0x0110
  else if s.peerOk c d = false then 0x0111
  else if s.poolOk c d = false then 0x0114
  else 0

/-- The bound tributaries, as (direction, index), whose group satisfies a test. -/
def State.boundTribs (s : State) (f : Nat → Bool) : List (Nat × Nat) :=
  s.tribList.filter (fun p => !(s.trib p.1 p.2).desc.isEmpty && f (tdHgrp (s.trib p.1 p.2).desc))

/-- Two tributaries of a group name the same format and lanes (R69). -/
def sameGroup (a b : List Nat) : Bool :=
  tdClient a == tdClient b && tdHlane0 a == tdHlane0 b && tdHlanes a == tdHlanes b && tdTxPre a == tdTxPre b
    && tdRxPre a == tdRxPre b

/-- Some lane of a list belongs to another group. -/
def State.lanesUsed (s : State) (g : Nat) (l : List Nat) : Bool :=
  (s.boundTribs (fun h => h != g)).any (fun p => (lanesOf (s.trib p.1 p.2).desc).any (fun x => l.contains x))

/-- The other tributaries of a group and direction that are ENABLED or DRAINING. -/
def State.othersRunning (s : State) (d n g : Nat) : List Nat := (s.grpRunning d g).filter (fun m => m != n)

/-- The slots of a group's channelised tributaries of a direction, with this one (R160). -/
def State.groupSlots (s : State) (d n : Nat) (x : List Nat) : Nat :=
  ((s.othersRunning d n (tdHgrp x)).filter (fun m => !(tdEthernet (s.trib d m).desc))).foldl
    (fun k m => k + tdSlots (s.trib d m).desc) (tdSlots x)

/-- Step 3 of R98: host group and lanes. -/
def State.hostCheck (s : State) (d n : Nat) (x : List Nat) : Nat :=
  if tdEthernet x ∧ tdHlanes x ≠ 2 ^ (tdClient x - 1) then 0x0710
  else if (s.boundTribs (fun h => h == tdHgrp x)).any (fun p => !(sameGroup (s.trib p.1 p.2).desc x)) then 0x0711
  else if s.lanesUsed (tdHgrp x) (lanesOf x) then 0x0712
  else if 28 < tdHlane0 x + tdHlanes x then 0x0713
  else if tdEthernet x = false ∧ 1960 * tdHlanes x < s.groupSlots d n x then 0x0714
  else 0

/-- Step 4 of R98: key slot and seal policy. -/
def State.keyCheck (s : State) (x : List Nat) : Nat :=
  if (s.key (tdKeyslot x)).isNone then 0x0310
  else if (Assoc.find (tdSealpol x) s.policies).isNone then 0x0311
  else if (s.key (tdKeyslot x)).any (fun k => decide (spentCount ≤ k.count)) then 0x0318
  else if s.on CIP_EPOCH_EXHAUSTED then 0x0319
  else if s.mtp.lcs = 0 ∨ s.mtp.lcs = 3 then 0x031A
  else 0

/-- Step 5 of R98 for a tributary: carriers, protection, channel number. -/
def State.carrierCheck (s : State) (d n : Nat) (x : List Nat) : Nat :=
  let on (c : Nat) : Bool := (s.car c).ost == .enabled
  let cprot (c : Nat) : Nat := cdCprot (s.car c).desc
  let off := if tdTprot x = 1 then !(on 0 && on 1) else if tdCarrier x = 2 then !(on 0 || on 1) else !(on (tdCarrier x))
  if tdTprot x = 1 ∧ tdCarrier x = 2 then 0x0212
  else if off then 0x0213
  else if (tdCarrier x < 2 ∧ cprot (tdCarrier x) = 2) ∨ (tdTprot x = 1 ∧ (cprot 0 ≠ 0 ∨ cprot 1 ≠ 0)) then 0x0214
  else if (s.othersRunning d n (tdHgrp x)).any (fun m => tdChid (s.trib d m).desc == tdChid x) then 0x0216
  else 0

/-- The slots of a tributary are too few for its client and its seal trailer (R146, R147). -/
def State.tooFew (s : State) (x : List Nat) : Bool :=
  decide (s.ownUnits x < 2)
    || (tdEthernet x && decide (s.tribSlots x < fewestSlots (tdClient x) (s.polMax (tdSealpol x))))

/-- Step 6 of R98. -/
def State.slotCheck (s : State) (d : Nat) (x : List Nat) : Nat :=
  if d = 0 ∧ (s.planTx x (s.tribSlots x)).isNone then 0x0210 else if s.tooFew x then 0x0211 else 0

/-- Steps 2 to 6 of R98 for a tributary. -/
def State.tribCheck (s : State) (d n : Nat) (x : List Nat) : Nat :=
  if tribFieldsOk x = false then 0x0202
  else firstCode [s.hostCheck d n x, s.keyCheck x, s.carrierCheck d n x, s.slotCheck d x]

/-- Step 8 of R98: words placed for a tributary, by owner (R212, R260; log entry 32). -/
def State.tribWords (s : State) (d n : Nat) (x : List Nat) : List (Nat × Nat) :=
  let sl := s.tribSlots x
  if d = 0 then [(ownRATE, (Config.rateWords 0 sl).val), (ownSEAL, (Config.sealWords sl).val)]
  else [(ownLOCK, lockWords (s.ownUnits x))]
    ++ (if (s.tribGroup n).isSome then [(ownDDB, ddbWords sl (s.polMax (tdSealpol x)))] else [])
    ++ [(ownRATE, (Config.rateWords 1 sl).val)]

/-- Place several areas for one object; none when one does not fit. -/
def placeAll (obj : Nat) : List (Nat × Nat) → State → Option State
  | [], s => some s
  | r :: t, s => match s.place r.1 obj r.2 with
    | some s => placeAll obj t s
    | none => none

/-! ## Enables and disables (R59, R87) -/

/-- Enable a bound carrier: a code, or the state with it running. -/
def State.enableCar (s : State) (c : Nat) : Nat × State :=
  let d := (s.car c).desc
  let code := s.carCheck c d
  if code ≠ 0 then (code, s)
  else
    let held := s.mem.allocs.any (fun a => a.role == ownCONN && a.obj == hCarrier c)
    match (if held then some s else s.placeConn (hCarrier c)) with
    | some s => (0, s.startCar c)
    | none => (0x0510, s)

/-- Enable one direction of a bound tributary. -/
def State.enableTrib (s : State) (d n : Nat) : Nat × State :=
  let x := (s.trib d n).desc
  let code := s.tribCheck d n x
  if code ≠ 0 then (code, s)
  else
    let plan := s.planTx x (s.tribSlots x)
    match placeAll (hTrib d n) (s.tribWords d n x) s with
    | some s => (0, if d = 0 then s.startTx n (plan.getD []) else s.startRx n)
    | none => (0x0510, s)

/-- Enable directions of a tributary, all or none (R52, R99, R100). -/
def enableTribs (n : Nat) : List Nat → State → Nat × State
  | [], s => (0, s)
  | d :: t, s =>
    match s.enableTrib d n with
    | (0, s') => enableTribs n t s'
    | (code, _) => (code, s)

/-- The result of enabling directions of a tributary: it waits for what has not completed. -/
def State.enableDirs (s : State) (n : Nat) (dirs : List Nat) : Res × State :=
  match enableTribs n dirs s with
  | (0, t) =>
    (.wait ((dirs.filter (fun d => (t.trib d n).enabling)).map (fun d => if d = 0 then .tribTx n else .tribRx n)), t)
  | (code, _) => (.refused code, s)

/-- ENABLE. -/
def State.enable (s : State) (h : Nat) : Res × State :=
  if h / 0x1000 = 1 then
    let c := h % 0x1000
    match (s.car c).ost with
    | .unbound => (.refused 0x0101, s)
    | .draining => (.refused 0x0101, s)
    | .enabled => (if (s.car c).enabling then .wait [.carrierOn c] else .ok 0, s)
    | .bound =>
      if s.on GLB_STATUS_LIMITED then (.refused 0x0101, s)
      else match s.enableCar c with
        | (0, t) => (.wait [.carrierOn c], t)
        | (code, _) => (.refused code, s)
  else
    let n := tribOf h
    if (dirsOf h).any (fun d => (s.trib d n).ost == .unbound || (s.trib d n).ost == .draining) then (.refused 0x0201, s)
    else s.enableDirs n ((dirsOf h).filter (fun d => (s.trib d n).ost == .bound))

/-- DISABLE and DISABLE.ABORT. -/
def State.disable (s : State) (h : Nat) (abort : Bool) : Res × State :=
  if h / 0x1000 = 1 then
    let c := h % 0x1000
    match (s.car c).ost with
    | .unbound => (.refused 0x0101, s)
    | .bound => (.ok 0, s)
    | _ => (.ok 0, s.stopCar c)
  else
    let n := tribOf h
    if (dirsOf h).any (fun d => (s.trib d n).ost == .unbound) then (.refused 0x0201, s)
    else
      let run := (dirsOf h).filter (fun d => (s.trib d n).active)
      let t := run.foldl (fun s d =>
        if (s.trib d n).ost == .draining && !abort then s
        else if d = 0 then s.drainTx n abort else s.drainRx n abort) s
      (.wait ((run.filter (fun d => (t.trib d n).active)).map (fun d => .tribBound (2 * n + d))), t)

/-! ## BIND and UNBIND (R59, R62, R63) -/

/-- An enabled tributary uses a seal policy; one that drains counts as enabled (DESIGN CHOICE, log entry 94: R62 does not say). -/
def State.polUsed (s : State) (i : Nat) : Bool :=
  s.tribList.any (fun p => (s.trib p.1 p.2).active && tdSealpol (s.trib p.1 p.2).desc == i)

/-- A tributary takes a descriptor, or loses it: its host groups follow. -/
def State.holdDesc (s : State) (d n : Nat) (x : List Nat) : State :=
  let t := s.trib d n
  let s := s.setTrib d n { t with
    ost := if x.isEmpty then .unbound else .bound, desc := x, pinned := tdPin x, stop := 0, enabling := false }
  let s := if t.desc.isEmpty then s else s.evalHost (tdHgrp t.desc)
  if x.isEmpty then s else s.evalHost (tdHgrp x)

/-- BIND of a carrier. -/
def State.bindCar (s : State) (c : Nat) (x : List Nat) : Res × State :=
  if (s.car c).active then (.refused 0x0101, s)
  else if s.carInUse c then (.refused 0x0113, s)
  else
    let t := s.setCar c { s.car c with ost := .bound, desc := x }
    if cdEn x then
      (if s.on GLB_STATUS_LIMITED then (.refused 0x0101, t)
       else match t.enableCar c with
        | (0, u) => (.wait [.carrierOn c], u)
        | (code, _) => (.refused code, t))
    else if carFieldsOk x then (.ok 0, t) else (.refused 0x0102, s)

/-- BIND of a tributary. -/
def State.bindTrib (s : State) (h : Nat) (x : List Nat) : Res × State :=
  let n := tribOf h
  if (dirsOf h).any (fun d => (s.trib d n).active) then (.refused 0x0201, s)
  else
    let t := (dirsOf h).foldl (fun s d => s.holdDesc d n x) s
    if tdEn x then t.enableDirs n (dirsOf h)
    else if tribFieldsOk x then (.ok 0, t) else (.refused 0x0202, s)

/-- BIND. -/
def State.bind (s : State) (h : Nat) (x : List Nat) : Res × State :=
  let i := h % 0x1000
  if h / 0x1000 = 1 then s.bindCar i x
  else if h / 0x1000 = 2 then s.bindTrib h x
  else if s.polUsed i then (.refused 0x0312, s)
  else if polFieldsOk x then (.ok 0, { s with policies := Assoc.put i x s.policies })
  else (.refused 0x0302, s)

/-- UNBIND. -/
def State.unbind (s : State) (h : Nat) : Res × State :=
  let i := h % 0x1000
  if h / 0x1000 = 1 then
    if (s.car i).active then (.refused 0x0101, s)
    else if s.carInUse i then (.refused 0x0113, s)
    else if (s.car i).ost == .unbound then (.ok 0, s)
    else
      let t := (s.setCar i { s.car i with ost := .unbound, desc := [] }).set FRM_CPG_STATUS_CMD 0
      (.ok 0, t.evalGroup pairGroup)
  else if h / 0x1000 = 2 then
    let n := tribOf h
    if (dirsOf h).any (fun d => (s.trib d n).active) then (.refused 0x0201, s)
    else (.ok 0, (dirsOf h).foldl (fun s d =>
      if (s.trib d n).ost == .unbound then s
      else
        let s := s.holdDesc d n []
        if d = 1 then (s.set (FRM_TP_STATUS_CMD n) 0).evalGroup n else s) s)
  else if s.polUsed i then (.refused 0x0312, s)
  else (.ok 0, { s with policies := Assoc.drop i s.policies })

/-! ## PROTECT, PIN, QUERY (R51, R61, R173, R255, R256) -/

/-- PROTECT with a command code. -/
def State.protect (s : State) (h code : Nat) : Res × State :=
  if h / 0x1000 = 1 then
    if 5 < code then (.refused 0x0103, s)
    else if cdCprot (s.car (h % 0x1000)).desc = 0 then (.refused 0x0112, s)
    else (.ok 0, s.protectCmd pairGroup code)
  else
    let n := tribOf h
    if 5 < code then (.refused 0x0203, s)
    else if (dirsOf h).any (fun d => tdTprot (s.trib d n).desc != 1) then (.refused 0x0215, s)
    else (.ok 0, if (dirsOf h).contains 1 then s.protectCmd n code else s)

/-- PIN. -/
def State.pin (s : State) (h : Nat) (v : Bool) : Res × State :=
  let n := tribOf h
  let t := (dirsOf h).foldl (fun s d => s.setTrib d n { s.trib d n with pinned := v }) s
  (if v && (dirsOf h).contains 0 && s.moveStands n then .wait [.pinMove n] else .ok 0, t)

/-- State codes of R61. -/
def OState.code : OState → Nat
  | .unbound => 0
  | .bound => 1
  | .enabled => 2
  | .draining => 3

/-- The state and value of an object (R61, R423, R452). For a tributary handle of direction 00 they are the transmit direction's, and a
host group and the reference set have codes of the model's choice (DESIGN CHOICE, log entry 39). -/
def State.query (s : State) (h : Nat) : Nat × Nat :=
  let i := h % 0x1000
  match h / 0x1000 with
  | 1 =>
    let x := s.car i
    (x.ost.code, if x.desc.isEmpty then 0 else ((txFormat x.desc).map (fun f => f.2)).getD 0)
  | 2 =>
    let d := (dirsOf h).headD 0
    let t := s.trib d (tribOf h)
    (if t.ost == .enabled && t.stop != 0 then 4 else t.ost.code, s.get (TRB_T_PLACE_SLOTS d (tribOf h)))
  | 3 => (if (Assoc.find i s.policies).isNone then 0 else if s.polUsed i then 2 else 1, 0)
  | 4 => (if s.refset.isSome then 2 else 0, 0)
  | 5 => (2, (s.pd i).st.query)
  | 6 => (if s.grpActive i then 2 else if (s.grpTribs i).isEmpty then 0 else 1, 0)
  | 7 => (min 2 (s.keyState i), s.keyState i)
  | _ =>
    let o := s.owner i
    (if o = ownRETIRED then 0 else if o = ownFREE ∨ o = ownCLEAR then 1 else 2, o)

/-- The state word of R61. -/
def State.queryWord (s : State) (h : Nat) : Nat :=
  let q := s.query h
  q.2 * 2 ^ 32 + Assoc.get 0 ((refusalObjects h).headD h) s.refusals * 2 ^ 16 + q.1

/-! ## RELANE (R131 to R134) -/

/-- A descriptor with another HLANE0. -/
def withHlane0 (d : List Nat) (l : Nat) : List Nat :=
  let w := d.getD 2 0
  d.set 2 (w - tdHlane0 d * 2 ^ 54 + l * 2 ^ 54)

/-- The move itself. -/
def State.relaneTo (s : State) (g l : Nat) : State :=
  let old := s.grpLanes g
  let st := s.get (HLN_GRP_STATUS_STATE g)
  let s := if st = 3 then s.groupFails g 1 else if st = 2 then s.set (HLN_GRP_STATUS_STATE g) 1 else s
  let s := (s.grpTribs g).foldl (fun s p =>
    s.setTrib p.1 p.2 { s.trib p.1 p.2 with desc := withHlane0 (s.trib p.1 p.2).desc l }) s
  let new := s.grpLanes g
  let s := s.squelch (old.filter (fun x => !(new.contains x)))
  let s := if s.grpActive g then (new.foldl (fun s x => s.takeLane x) s).restartStream g else s
  (s.refreshNeeds).evalHost g

/-- RELANE. -/
def State.relane (s : State) (h l : Nat) : Res × State :=
  let g := h % 0x1000
  match s.grpDesc g with
  | none => (.refused 0x0701, s)
  | some d =>
    if 28 < l + tdHlanes d then (.refused 0x0713, s)
    else if s.lanesUsed g (lanesOf (withHlane0 d l)) then (.refused 0x0712, s)
    else if l = tdHlane0 d then (.ok 0, s)
    else
      let t := s.relaneTo g l
      let quads := ((t.grpLanes g).map hlnPolder).eraseDups
      (.wait (if t.grpActive g then (quads.filter (fun q => !(t.pdOn q))).map Wait.polderOn else []), t)

/-! ## REFSET, REALIGN, MRETIRE, MTEST (R72, R403, R404, R437, R439) -/

/-- The checks of a REFSET. -/
def refCheck (d : List Nat) : Nat :=
  if refFieldsOk d = false then 0x0402
  else if rsHard d ≤ rsSoft d then 0x0410
  else if [0, 1, 2, 3].any (fun i => rsRank d i != 15 && !(freqOk (rsFreq d i))) then 0x0411
  else 0

/-- A bank holds something of an enabled object (R101 OWNED). -/
def State.bankOwned (s : State) (b : Nat) : Bool :=
  s.mem.allocs.any (fun a => a.bank == b && (
    [0, 1].any (fun c => a.obj == hCarrier c && (s.car c).ost == .enabled)
      || s.tribList.any (fun p => a.obj == hTrib p.1 p.2 && (s.trib p.1 p.2).ost == .enabled)))

/-- MRETIRE. -/
def State.mretireOp (s : State) (h : Nat) : Res × State :=
  let b := h % 0x1000
  if fixedBank b then (.refused 0x0511, s)
  else if s.on (MEM_BANK_STATUS_RETIRED b) then (.refused 0x0512, s)
  else if s.bankOwned b then (.refused 0x0513, s)
  else (if s.owner b = ownHOST then .wait [.retire b] else .ok 0, s.mretire b)

/-- MTEST. -/
def State.mtestOp (s : State) (h : Nat) : Res × State :=
  let b := h % 0x1000
  if s.on (MEM_BANK_STATUS_RETIRED b) then (.refused 0x0512, s)
  else (.wait [.mtest b], (s.startTest b false).refreshNeeds)

/-! ## Commands -/

/-- BIND (R59, R63, R98). -/
def execBind (e : Fin 4) (p : BitVec 18) (s : State) : Outcome :=
  answer (s.runObject 0x20 e p.toNat (fun s en h => s.bind h en.desc))

/-- ENABLE (R59, R98). -/
def execEnable (e : Fin 4) (p : BitVec 18) (s : State) : Outcome :=
  answer (s.runObject 0x21 e p.toNat (fun s _ h => s.enable h))

/-- DISABLE without ABORT (R59, R174). -/
def execDisable (e : Fin 4) (p : BitVec 18) (s : State) : Outcome :=
  answer (if flag0 (s.objWord e p.toNat) then s else s.runObject 0x22 e p.toNat (fun s _ h => s.disable h false))

/-- DISABLE.ABORT (R59, R174). -/
def execDisableAbort (e : Fin 4) (p : BitVec 18) (s : State) : Outcome :=
  answer (if flag0 (s.objWord e p.toNat) then s.runObject 0x22 e p.toNat (fun s _ h => s.disable h true) else s)

/-- UNBIND (R59, R62). -/
def execUnbind (e : Fin 4) (p : BitVec 18) (s : State) : Outcome :=
  answer (s.runObject 0x23 e p.toNat (fun s _ h => s.unbind h))

/-- A PROTECT instruction whose command is this one; undefined commands, which have no command of their own here, are refused
by whichever of the six meets them (R51). -/
def State.protectRow (s : State) (e p code : Nat) : State :=
  let c := argOf (s.objWord e p)
  if c = code ∨ 6 ≤ c then s.runObject 0x24 e p (fun s en h => s.protect h (argOf en.word)) else s

/-- PROTECT CLEAR (R51). -/
def execProtectClear (e : Fin 4) (p : BitVec 18) (s : State) : Outcome := answer (s.protectRow e p.toNat 0)

/-- PROTECT LOCKOUT (R51). -/
def execProtectLockout (e : Fin 4) (p : BitVec 18) (s : State) : Outcome := answer (s.protectRow e p.toNat 1)

/-- PROTECT FORCE_A (R51). -/
def execProtectForceA (e : Fin 4) (p : BitVec 18) (s : State) : Outcome := answer (s.protectRow e p.toNat 2)

/-- PROTECT FORCE_B (R51). -/
def execProtectForceB (e : Fin 4) (p : BitVec 18) (s : State) : Outcome := answer (s.protectRow e p.toNat 3)

/-- PROTECT MANUAL_A (R51). -/
def execProtectManualA (e : Fin 4) (p : BitVec 18) (s : State) : Outcome := answer (s.protectRow e p.toNat 4)

/-- PROTECT MANUAL_B (R51). -/
def execProtectManualB (e : Fin 4) (p : BitVec 18) (s : State) : Outcome := answer (s.protectRow e p.toNat 5)

/-- PIN (R173). -/
def execPin (e : Fin 4) (p : BitVec 18) (s : State) : Outcome :=
  answer (s.runObject 0x25 e p.toNat (fun s en h => s.pin h (bitOf en.word 0 == 1)))

/-- QUERY (R61). -/
def execQuery (e : Fin 4) (p : BitVec 18) (s : State) : Outcome :=
  answer (s.runObject 0x26 e p.toNat (fun s _ h => (.ok (s.queryWord h), s)))

/-- RELANE (R132 to R134). -/
def execRelane (e : Fin 4) (p : BitVec 18) (s : State) : Outcome :=
  answer (s.runObject 0x27 e p.toNat (fun s en h => s.relane h (argOf en.word % 32)))

/-- REFSET (R72, R404). -/
def execRefset (e : Fin 4) (p : BitVec 18) (s : State) : Outcome :=
  answer (s.runObject 0x40 e p.toNat (fun s en _ =>
    let c := refCheck en.desc
    if c = 0 then (.ok 0, s.refsetIn en.desc) else (.refused c, s)))

/-- REALIGN (R403). -/
def execRealign (e : Fin 4) (p : BitVec 18) (s : State) : Outcome :=
  answer (s.runObject 0x41 e p.toNat (fun s _ _ =>
    if (s.carA.ost == .enabled) || (s.carB.ost == .enabled) then (.wait [.realign], s) else (.refused 0x0412, s)))

/-- TIMERD (R45). -/
def execTimerd (e : Fin 4) (p : BitVec 18) (s : State) : Outcome :=
  answer (s.runObject 0x42 e p.toNat (fun s _ _ => (.ok s.clk.dev, s)))

/-- MRETIRE (R439). -/
def execMretire (e : Fin 4) (p : BitVec 18) (s : State) : Outcome :=
  answer (s.runObject 0x50 e p.toNat (fun s _ h => s.mretireOp h))

/-- MTEST (R437). -/
def execMtest (e : Fin 4) (p : BitVec 18) (s : State) : Outcome :=
  answer (s.runObject 0x51 e p.toNat (fun s _ h => s.mtestOp h))

end Sys2Proof.Machine
end

