-- ==== Sys2Proof/Machine/Reset.lean ====
section
/-! DEFINITION. Resets, lockout, bring-up and the boot action (R84, R186, R189, R205, R233, R407, R431, R440, R441, R476, R492 to
R511, R545 to R547, R613). -/

namespace Sys2Proof.Machine

open Reg

/-! ## What a reset leaves (R494) -/

/-- Fields that cold reset keeps (R494, R511, R571). -/
def coldFlds : List Fld :=
  [PWR_SEQ_CNVFIRST, PWR_SEQ_ORDER, PWR_SEQ_LATE, RST_STATUS_CAUSE, RST_STATUS_FALLBACK, RST_STATUS_NOXO,
    RST_STATUS_WARMPROMOTED, RST_CRIT_UNIT, RST_CRIT_KEPT, RST_CRIT_DBL, RST_COUNT_WARM, RST_COUNT_COLD, RST_COUNT_CRIT,
    GLB_SCRATCH_DATA, CIP_TAMPER_WIPED]

/-- The block after a power-on reset: what is fused, what MTP holds (R380), what stands outside it, and WIPED while TAMPER_N is low
(R205). -/
def State.blankCore (s : State) : State :=
  { State.reset with
    flds := if s.on CIP_TAMPER_WIPED && !s.cip.tamperN then Assoc.put CIP_TAMPER_WIPED.key 1 resetFields else resetFields
    pending := s.pending, gradeX := s.gradeX, rails := s.rails, mtp := s.tornStore.mtp, freeN := s.freeN
    clk := { xoRuns := s.clk.xoRuns }
    cip := { tamperN := s.cip.tamperN }
    ports := { jtagIr := s.ports.jtagIr, jtagOut := s.ports.jtagOut, cells := s.ports.cells } }

/-- The block after a cold reset: beside that, its record of resets, and what a tamper trigger leaves (R204, R205). -/
def State.coldCore (s : State) : State :=
  let t := coldFlds.foldl (fun t f => if s.get f = f.rst then t else t.set f (s.get f)) s.blankCore
  { t with
    rst := { lockout := s.rst.lockout, critDue := s.rst.critDue }
    cip := { wiping := s.cip.wiping, tamperCauses := s.cip.tamperCauses, pendingCount := s.cip.pendingCount
             tamperN := s.cip.tamperN } }

/-- A carrier after a warm reset: RXSRC is kept, and with it that a SRCID has been accepted (R267). -/
def Carrier.warm (x : Carrier) : Carrier :=
  { ost := if x.desc.isEmpty then .unbound else .bound, desc := x.desc, rx := { srcAccepted := x.rx.srcAccepted } }

/-- A tributary after a warm reset. -/
def Trib.warm (t : Trib) : Trib :=
  { ost := if t.desc.isEmpty then .unbound else .bound, desc := t.desc, pinned := t.pinned, tx := { ctrEnd := t.tx.ctrEnd } }

/-- Fields that a warm reset keeps (R11): those of the table's `kept`. -/
def State.keptFlds (s : State) : List (Nat × Nat) :=
  s.flds.filter (fun e => match rowOfKey e.1 with
    | some r => r.kept
    | none => false)

/-- The block after a warm reset: LAST_ERR stays where the reset abandons a verification, and is cleared as its table says
otherwise (R82, R84; log entry 82) (R84, R198, R233, R381, R407, R431, R476, R494, R606, R607, R613). -/
def State.warmCore (s : State) : State :=
  let s := s.abortStore
  let lcs := s.cip.lcs
  let kek := s.cip.kek.isSome
  let busy := s.get SLU_LOAD_STATUS_BUSY != 0
  let lastErr := s.get SLU_LOAD_STATUS_LAST_ERR
  let sluOff := (s.pd pdSLU).st == .off || (s.pd pdSLU).st == .waking true
  let s := { s with
    flds := s.keptFlds, shadow := []
    mem := { s.mem with tests := [], clearing := [], log := [] }
    cip := { s.cip with kek := none, lcs := none }
    carA := s.carA.warm, carB := s.carB.warm, pairProt := {}
    tribs := s.tribs.map (fun p => (p.1, p.2.warm))
    lanes := [], groups := []
    poolA := { imin := s.get FEC_ALLOC_IMIN, head := s.get FEC_ALLOC_HEAD }
    poolB := { imin := s.get FEC_ALLOC_IMIN, head := s.get FEC_ALLOC_HEAD }
    engines := [], mgt := { rolled := s.mgt.rolled }, adc := {}
    ports := { jtagIr := s.ports.jtagIr, jtagOut := s.ports.jtagOut, cells := s.ports.cells }
    lineA := {}, lineB := {}, acqA := {}, acqB := {} }
  let s := [0, 1].foldl (fun s c => s.takeThresholds c) s
  let s := if sluOff then [0, 1, 2, 3].foldl (fun s e => s.set (SLU_ENG_STATUS_STATE e) 0) s else s
  let s := if busy then s.set SLU_LOAD_STATUS_LAST_ERR lastErr else s
  let s := if kek then s.set CIP_KEKSTAT_RESULT 9 else s
  match lcs with
  | some o => s.set CIP_LCS_RESULT (if o.committed then 0 else 6)
  | none => s

/-! ## Assertion (R492, R496, R509) -/

/-- The record of the latest reset: its cause, its count, and whether it ended a lockout. -/
def State.resetRecord (s : State) (cause reach : Nat) (ended : Bool) : State :=
  let s := (s.set RST_STATUS_CAUSE cause).setB RST_STATUS_FALLBACK ended
  let s := if reach = 1 then s.bump RST_COUNT_COLD 1 else if reach = 2 then s.bump RST_COUNT_WARM 1 else s
  { s with rst := { s.rst with asserted := true, reach := reach, lockout := false } }

/-- A cold reset. -/
def State.coldReset (s : State) (cause : Nat) : State := s.coldCore.resetRecord cause 1 s.rst.lockout

/-- A warm reset; a request before READY is taken as cold (R509). -/
def State.warmReset (s : State) (cause : Nat) : State :=
  if s.ready then (s.closeWicket).warmCore.resetRecord cause 2 false
  else (s.coldReset cause).setB RST_STATUS_WARMPROMOTED true

/-- A cold request other than by RESET_N: none acts in lockout. -/
def State.coldRequest (s : State) (cause : Nat) : State := if s.rst.lockout then s else s.coldReset cause

/-- VAON rises: rails that were good before it are noticed as out of order (R450). -/
def State.powerOn (s : State) : State :=
  let early := !s.rails.good.contains 5 && !s.rails.good.isEmpty
  let ended := s.rst.lockout
  let s := s.blankCore
  let s := ({ s with rails := { s.rails with good := insertNat 5 s.rails.good } }).resetRecord 0 0 ended
  if early then s.seqBits [PWR_SEQ_ORDER] else s

/-- VAON fails: everything but MTP is lost, and no reset ends before VAON rises again. -/
def State.powerLost (s : State) : State :=
  let s := s.blankCore
  { s with rails := { s.rails with good := s.rails.good.filter (fun r => r != 5) } }

/-- A rail that holds every reset falls. -/
def State.coreRail (s : State) (r cause : Nat) : State :=
  if s.rails.good.contains 5 && s.rails.good.contains r then
    ({ s with rails := { s.rails with good := s.rails.good.filter (fun q => q != r) } }).coldRequest cause
  else s

/-- RST_CTL is written (R492): lockout ignores it. -/
def State.rstWrite (s : State) (key req : Nat) : State :=
  if key ≠ 0x5253 ∨ s.rst.lockout = true then s
  else if req = 1 then s.warmReset 6
  else if req = 2 then s.coldReset 4
  else s

/-- The units of R495 of class K, and those whose errors are double-bit errors. -/
def critKept (u : Nat) : Bool := decide (4 ≤ u ∧ u ≤ 7)
def critDouble (u : Nat) : Bool := u == 3 || u == 7

/-- An error in critical state (R495). -/
def State.critError (s : State) (u : Nat) : State :=
  if s.rst.lockout then s
  else
    let s := ((s.set RST_CRIT_UNIT u).setB RST_CRIT_KEPT (critKept u)).setB RST_CRIT_DBL (critDouble u)
    let s := { s with rst := { s.rst with critDue := true } }
    (if critKept u then s.coldReset 5 else s.warmReset 7).bump RST_COUNT_CRIT 1

/-- Lockout (R496): every polder but AON in reset, its contents of no further use. -/
def State.lockOut (s : State) : State :=
  let t := s.coldCore
  { t with
    flds := ((s.setB GLB_STATUS_READY false).setB TIM_RINGSTAT_WICKET false).flds.filter (fun e => polderOfAddr (e.1 / 32) == [0])
    clk := s.clk, thm := s.thm, tim := s.tim, adc := s.adc, mem := s.mem, polders := s.polders
    rst := { s.rst with asserted := true, lockout := true, flashLoading := false, trims := [] } }

/-! ## Bring-up (R500 to R505) -/

/-- A released reset may be brought up: no lockout, every rail good (R493, R500). -/
def State.released (s : State) : Bool :=
  s.rst.asserted && !s.rst.lockout && [0, 1, 2, 3, 4, 5].all (fun r => s.rails.good.contains r)

/-- The checker self-test, with the banks that fail it (R441). -/
def State.selfTest (s : State) (bad : List Nat) : State :=
  let s := bad.foldl (fun s b => (s.setB (MEM_BANK_STATUS_CHKFAIL b) true).retireBank b 4 0 0) s
  let s := (s.setB ECC_SELFTEST_DONE true).set ECC_SELFTEST_FAILED (min 255 bad.length)
  let s := s.setB ECC_SELFTEST_FIXEDFAIL (bad.any (fun b => fixedBank b))
  if bad.isEmpty then s else (s.setB ECC_EVENT_SELFTEST true).post srcMEM 0x07 0 [bad.length]

/-- Spare columns that manufacturing leaves a bank (R609): at least 4. -/
def fusedSpares (b : Nat) : Nat := 4 + Config.moreSpares b % 12

/-- The retirement log is applied (R440, R609). -/
def State.applyLog (s : State) : State :=
  let log := s.mtp.log
  let repairs (b : Nat) : Nat := (log.filter (fun e => e.bank == b && e.kind == 0)).length
  let s := (List.range 192).foldl (fun s b => s.set (MEM_BANK_STATUS_SPARES b) (fusedSpares b - repairs b)) s
  let s := (log.filter (fun e => e.kind == 1)).foldl (fun s e =>
    let s := s.setB (MEM_BANK_STATUS_RETIRED e.bank) true
    let s := if fixedBank e.bank then s else s.setOwner e.bank ownRETIRED
    if e.cause = 2 ∨ e.cause = 3 then s.setB (MEM_BANK_STATUS_HARD e.bank) true else s) s
  (s.set ECC_LOGCTL_ENTRIES log.length).setB ECC_LOGCTL_FULL (decide (256 ≤ log.length))

/-- The boot epoch is stepped in the older copy, and shown (R186, R189). -/
def State.stepEpoch (s : State) : State :=
  let e := max s.mtp.epochA s.mtp.epochB
  let top := decide (2 ^ 24 - 1 ≤ e)
  let n := if top then e else e + 1
  let m := if top then s.mtp
    else if s.mtp.epochA ≤ s.mtp.epochB then { s.mtp with epochA := n } else { s.mtp with epochB := n }
  let s := { s with mtp := m }
  ((s.set CIP_EPOCH_EPOCH n).setB CIP_EPOCH_LAST (decide (n = 2 ^ 24 - 1))).setB CIP_EPOCH_EXHAUSTED top

/-- RST_STRAP as a word. -/
def State.strapWord (s : State) : Nat :=
  s.get RST_STRAP_FORCED * 16 + s.get RST_STRAP_CLK_MODE * 4 + s.get RST_STRAP_BOOT_SRC

/-- READY: the lanes of quads that are on or waking leave OFF, conversions resume, BOOT is posted, and CRIT when it is due (R116, R495,
R510, R525). -/
def State.setReady (s : State) : State :=
  let s := { s with rst := { s.rst with asserted := false } }
  let s := [9, 10, 11, 12].foldl (fun s n => if s.quadServed n then s.quadLanes n 1 else s) s
  let s : State := s.adcScan none
  let s : State := if s.cip.pendingCount = 0 then s else s.queueJobs.refreshNeeds
  let s := (s.setB GLB_STATUS_READY true).post srcRST 0x01 0
    [s.get RST_STATUS_CAUSE, s.strapWord, s.get RST_TRIM_PASSES, s.get GLB_STATUS_LIMITED]
  if s.rst.critDue then
    ({ s with rst := { s.rst with critDue := false } }).post srcRST 0x02 0
      [s.get RST_CRIT_UNIT, s.get RST_CRIT_KEPT, s.get RST_CRIT_DBL]
  else s

/-- Copy 32-bit window words to the start of a store bank (R547). -/
def State.copyImage (s : State) (k : Nat) (ws : List Nat) : State :=
  (List.range ((ws.length + 1) / 2)).foldl (fun s i =>
    s.storeWord (storeBase k + i) (ws.getD (2 * i + 1) 0 * 2 ^ 32 + ws.getD (2 * i) 0) false) s

/-- Verify a store bank as R78 gives. -/
def State.verifyBank (s : State) (k : Nat) : State := (s.loadGo k).loadEnd k

/-- Engine 0 starts on bank 0 if that is VALID; BOOT shows it. -/
def State.bootStart (s : State) : State :=
  if s.bit SLU_LOAD_STATUS_VALID 0 then (s.startEntry 0 0).set GLB_STATUS_BOOT 2 else s.set GLB_STATUS_BOOT 3

/-- The boot action after a power-on or cold reset (R505). -/
def State.bootAction (s : State) (image : List Nat) : State :=
  match s.get RST_STRAP_BOOT_SRC with
  | 1 => ({ s with rst := { s.rst with flashLoading := true } }).set GLB_STATUS_BOOT 1
  | 2 => ((s.copyImage 0 image).verifyBank 0).bootStart
  | 3 => if s.mtp.lcs < 2 then (s.setB GLB_STATUS_DEBUG true).set GLB_STATUS_BOOT 4 else s
  | _ => s

/-- A trim record as it reads (R502): TAG, IDX and the payload, where its length and its CRC are right. -/
def trimRecord (b : List Byte) : Option (Nat × Nat × List Nat) :=
  let len := natBE ((b.drop 1).take 1)
  let tag := natBE (b.take 1)
  if b.length = 8 + 4 * len ∧ tag ≠ 0 ∧ (tag = 0xFF → len = 0) ∧ natBE (b.drop (4 + 4 * len)) = crc32 (b.take (4 + 4 * len)) then
    some (tag, natBE ((b.drop 2).take 2), (chunks 4 ((b.drop 4).take (4 * len))).map natBE)
  else none

/-- A trim load (R503): passes run, records verified in this pass, reads of the record that failed, the trims staged, the last record
that failed all its reads, and whether it has ended well. -/
structure TrimLoad where
  passes : Nat := 1
  records : Nat := 0
  fails : Nat := 0
  staged : List (Nat × List Nat) := []
  failRec : Nat := 0
  ok : Bool := false
deriving DecidableEq, Repr

/-- A reading fails. -/
def TrimLoad.miss (x : TrimLoad) : TrimLoad :=
  if x.fails < 2 then { x with fails := x.fails + 1 }
  else if x.passes < 4 then { x with passes := x.passes + 1, records := 0, fails := 0, staged := [], failRec := x.records }
  else { x with passes := 5, staged := [], failRec := x.records }

/-- The load takes one reading: a record in sequence is staged, END ends it; one that fails is read up to twice more, then a new pass
starts, up to 4. -/
def TrimLoad.read (x : TrimLoad) (b : List Byte) : TrimLoad :=
  if x.ok ∨ 4 < x.passes then x
  else match trimRecord b with
    | some (tag, idx, words) =>
      if idx = x.records ∧ x.records < 256 then
        { x with records := x.records + 1, fails := 0, ok := decide (tag = 0xFF)
                 staged := if tag = 0xFF then x.staged else x.staged ++ [(tag, words)] }
      else x.miss
    | none => x.miss

/-- The load over readings; past the last of them nothing verifies. -/
def trimLoad (l : List (List Byte)) : TrimLoad := (l ++ List.replicate 12 []).foldl TrimLoad.read {}

/-- The trims are loaded, and applied together (R503). -/
def State.loadTrims (s : State) (l : List (List Byte)) : State :=
  let x := trimLoad l
  let s : State := { s with rst := { s.rst with trims := x.staged } }
  let s := (s.set RST_TRIM_PASSES (min 4 x.passes)).set RST_TRIM_RECORDS x.records
  let s := (s.set RST_TRIM_FAILREC x.failRec).setB RST_STATUS_TRIM_VALID x.ok
  let s := s.setB RST_STATUS_TRIMERR (!x.ok)
  if x.ok then s else (s.setB GLB_STATUS_LIMITED true).post srcRST 0x03 0 [x.failRec]

/-- The steps of R500; the frame clock starts (R401); an owed erasure is made (R613), and TAMPER_N fallen low or a diode outside its range triggers (R203). -/
def State.bringUp (s0 : State) (x : BringUp) : State :=
  let s := s0
  let s := ({ s with shadow := [], cip := { s.cip with tamperN := x.tamperN } }).set RST_STRAP_BOOT_SRC x.boot
  let s := (s.set RST_STRAP_CLK_MODE x.clk).setB RST_STRAP_FORCED (decide (x.boot.val = 3 ∧ 2 ≤ s.mtp.lcs))
  let s := ({ s with frameClk := { runs := true } } : State).loadTrims x.trims
  let s := (s.applyLog).selfTest (x.failing.map (fun b => b.val)).eraseDups
  let s := if s.gradeX then s.set THM_CTL_TSTEP 0x69 else s
  let fell := s0.cip.tamperN && !x.tamperN
  let s := ((s.seedModel x.diodes).finishErase).stepEpoch
  let s := if x.tamperN then s.setB CIP_TAMPER_WIPED false else if fell then s.tamper 0 else s
  let s := if x.diodes.any tamperReading then s.tamper 3 else s
  let s := (s.loadRoot).loadSets
  s.setReady.bootAction (x.image.map (fun w => w.toNat))

/-- The steps of R501; a store may fall due again (R381). Only a power-on or cold reset loads trims anew, so LIMITED shows again what it showed (R503). -/
def State.warmBringUp (s : State) (bad : List Nat) : State :=
  let s := ((s.setB GLB_STATUS_LIMITED (!s.on RST_STATUS_TRIM_VALID)).zeroLock).selfTest bad
  let s := (s.finishErase.loadRoot).chooseBank.showSets.autoStore
  let s := (s.mem.allocs.map (fun a => (a.role, a.obj))).eraseDups.foldl (fun s a => s.unplace a.1 a.2) s
  let s := s.setReady.evalHosts
  if (s.get RST_STRAP_BOOT_SRC = 1 ∨ s.get RST_STRAP_BOOT_SRC = 2) ∧ s.bit SLU_LOAD_STATUS_VALID 0 = true then s.bootStart else s

/-! ## The boot-flash load (R545, R546) -/

/-- OFFSETk and LENGTHk. -/
def flashEntry (dir : List Byte) (k : Nat) : Nat × Nat :=
  (natBE ((dir.drop (8 * k + 8)).take 4), natBE ((dir.drop (8 * k + 12)).take 4))

/-- The first cause of R546 that a directory shows, and its bank. -/
def flashCheck (dir : List Byte) : Nat × Nat :=
  let badEntry (k : Nat) : Bool :=
    let e := flashEntry dir k
    e.2 % 4 != 0 || decide (524288 < e.2) || (e.2 != 0 && decide (2 ^ 24 < e.1 + e.2))
  if natBE (dir.take 4) ≠ 0x44524246 ∨ natBE ((dir.drop 4).take 2) ≠ 1 then (1, 0)
  else if natBE ((dir.drop 60).take 4) ≠ crc32 (dir.take 60) then (2, 0)
  else match [0, 1, 2, 3].find? badEntry with
    | some k => (3, k)
    | none => if (flashEntry dir 0).2 = 0 then (4, 0) else (0, 0)

/-- The load fails. -/
def State.bootFails (s : State) (cause bank : Nat) : State :=
  ((s.set GLB_BOOTERR_CAUSE cause).set GLB_BOOTERR_BANK bank).set GLB_STATUS_BOOT 3

/-- The load ends. -/
def State.flashEnd (s : State) (x : FlashLoad) : State :=
  let s := { s with rst := { s.rst with flashLoading := false } }
  match flashCheck x.dir with
  | (0, _) =>
    let banks := [0, 1, 2, 3].filter (fun k => (flashEntry x.dir k).2 != 0)
    let s := banks.foldl (fun s k =>
      (s.copyImage k ((((x.images.getD k []).map (fun (w : BitVec 32) => w.toNat)) ++ List.replicate 131072 0).take
        ((flashEntry x.dir k).2 / 4))).verifyBank k) s
    match banks.find? (fun k => !(s.bit SLU_LOAD_STATUS_VALID k)) with
    | some k => s.bootFails 5 k
    | none => s.bootStart
  | (c, k) => s.bootFails c k

/-! ## Commands -/

/-- VAON_FAIL (R409, R464). -/
def execVaonFail (s : State) : Outcome := answer s.powerLost

/-- POWER_ON_RESET (R492). -/
def execPowerOnReset (s : State) : Outcome := answer s.powerOn

/-- RESET_N (R492, R496): low after its filter. -/
def execResetN (s : State) : Outcome := answer (s.coldReset 1)

/-- VCORE_LOW (R451, R492). -/
def execVcoreLow (s : State) : Outcome := answer (s.coreRail 0 2)

/-- VIO_LOW (R492). -/
def execVioLow (s : State) : Outcome := answer (s.coreRail 4 3)

/-- HOSTCOLD (R492): RST_CTL written with REQ 2 and this KEY. -/
def execHostcold (key : BitVec 16) (s : State) : Outcome := answer (s.gated adr_RST_CTL (fun s => s.rstWrite key.toNat 2))

/-- HOSTWARM (R492): with REQ 1. -/
def execHostwarm (key : BitVec 16) (s : State) : Outcome := answer (s.gated adr_RST_CTL (fun s => s.rstWrite key.toNat 1))

/-- CRITICAL_STATE_ERROR (R495) in unit 1 to 7. -/
def execCriticalStateError (u : Fin 8) (s : State) : Outcome := answerIf (decide (u.val ≠ 0)) (s.critError u)

/-- LOCKOUT (R496). -/
def execLockout (s : State) : Outcome := answer s.lockOut

/-- BRING_UP (R500): of a released power-on or cold reset, once XO_IN qualifies. -/
def execBringUp (x : BringUp) (s : State) : Outcome :=
  answerIf x.wf (if s.released && decide (s.rst.reach < 2) && s.clk.xoRuns then s.bringUp x else s)

/-- WARM_BRING_UP (R501): with the banks whose checker fails. -/
def execWarmBringUp (failing : List (Fin 192)) (s : State) : Outcome :=
  answer (if s.released && decide (s.rst.reach = 2) then s.warmBringUp (failing.map (fun b => b.val)).eraseDups else s)

/-- NOXO (R498): bring-up waits for XO_IN. -/
def execNoxo (s : State) : Outcome :=
  answer (if s.released && decide (s.rst.reach < 2) then s.setB RST_STATUS_NOXO true else s)

/-- GLB_CTL.RELEASE is written (R505). -/
def State.leaveDebug (s : State) : State :=
  if s.on GLB_STATUS_DEBUG then (s.setB GLB_STATUS_DEBUG false).set GLB_STATUS_BOOT 0 else s

/-- RELEASE (R505). -/
def execRelease (s : State) : Outcome := answer (s.gated adr_GLB_CTL (fun s => s.leaveDebug))

/-- FLASH_LOAD_END (R505, R546). -/
def execFlashLoadEnd (x : FlashLoad) (s : State) : Outcome :=
  answerIf x.wf (if s.rst.flashLoading && s.ready then s.flashEnd x else s)

end Sys2Proof.Machine
end

