-- ==== Sys2Proof/Machine/Views.lean ====
section
/-! DEFINITION. Reading a register: what shows other state, shadows of upper words, clear on read (R4, R5, R8, R10, R454). -/

namespace Sys2Proof.Machine

open Reg

/-! ## Fields that show other state -/

/-- Which register of an array an address is. -/
def nthReg (base stride n a : Nat) : Option Nat :=
  if base ≤ a ∧ (a - base) % stride = 0 ∧ (a - base) / stride < n then some ((a - base) / stride) else none

/-- Bits of a predicate on 0 to n − 1. -/
def bitsWhere (n : Nat) (f : Nat → Bool) : Nat := ((List.range n).map (fun i => if f i then 2 ^ i else 0)).sum

/-- LSR_EN of a carrier is high (R551). -/
def State.laserOn (s : State) (c : Nat) : Bool :=
  let x := s.car c
  x.everEnabled && !s.carHeld &&
    (if cdLsrAuto x.desc then x.ost == .enabled else s.on (if c = 0 then GLB_OPTCTL_LSRA else GLB_OPTCTL_LSRB))

/-- TXMUTE of a carrier is low (R551). -/
def State.unmuted (s : State) (c : Nat) : Bool :=
  let x := s.car c
  x.everEnabled && !s.carHeld &&
    (if cdMuteAuto x.desc then x.ost == .enabled else !(s.on (if c = 0 then GLB_OPTCTL_MUTEA else GLB_OPTCTL_MUTEB)))

/-- GLB_OPTCTL.PINS (R554). -/
def State.pins (s : State) : Nat :=
  8 * (s.laserOn 0).toNat + 4 * (!s.unmuted 0).toNat + 2 * (s.laserOn 1).toNat + (!s.unmuted 1).toNat

/-- SEQ of the last LSTEER word of a carrier (R552). -/
def State.lstSeqSent (s : State) (c : Nat) : Nat := fieldOf ((s.line c).word.getD 0) 9 6

/-- GLB. -/
def State.viewGlb (s : State) (a lo : Nat) : Option Nat :=
  if a = adr_GLB_ID ∧ lo = 0 then some (if s.gradeX then 0x58 else 0x43)
  else if a = 0x10 ∧ lo = 2 then some (!s.mgt.responses.isEmpty).toNat
  else if a = 0x10 ∧ lo = 1 then some (decide (1024 ≤ s.evq.recs.length)).toNat
  else if a = 0x10 ∧ lo = 0 then some (!s.evq.recs.isEmpty).toNat
  else if a = 0x30 ∧ lo = 24 then some s.pins
  else if a = 0x30 ∧ lo = 8 then some (s.lstSeqSent 0)
  else if a = 0x30 ∧ lo = 0 then some (s.lstSeqSent 1)
  else none

/-- INT_N is low (R541): an interrupt that GLB_INTEN enables, once the device answers, and lockout. -/
def State.intLow (s : State) : Bool :=
  let bit (i : Fld) (en : Fld) : Bool := (match s.viewGlb adr_GLB_INT i.lo with
    | some v => v == 1
    | none => s.on i) && s.on en
  s.rst.lockout || (s.ready && (bit GLB_INT_EVQ GLB_INTEN_EVQ || bit GLB_INT_EVTHR GLB_INTEN_EVTHR || bit GLB_INT_MBX GLB_INTEN_MBX
    || bit GLB_INT_DROP GLB_INTEN_DROP))

/-- The state that R456 gives a polder at present. -/
def State.target (s : State) (n : Nat) : Nat := if s.needed n then 0 else s.choose n

/-- PWR. AON never leaves on, whatever is needed: its NEEDED reads 0, as the word that the register table gives for it
(DEDUCED, log 77). -/
def State.viewPwr (s : State) (a lo : Nat) : Option Nat :=
  match nthReg 0x20000 0x10 40 a with
  | some n =>
    if lo = 28 then some (n != 0 && s.needed n).toNat
    else if lo = 24 then some (s.target n)
    else if lo = 29 then some ((s.pd n).st == .on && (s.pd n).dwelled && !(s.needed n) && s.choose n == 0
      && s.get (PWR_PD_LTOL_LTOL n) != 0).toNat
    else none
  | none => if a = 0x20404 ∧ lo = 0 then some (bitsWhere 6 s.rails.good.contains) else none

/-- TIM, MEM and SLU. -/
def State.viewAon (s : State) (a lo : Nat) : Option Nat :=
  if a = adr_TIM_STATUS ∧ lo = 29 then some s.tstat
  else if a = 0x60400 then
    some (((List.range 192).filter (fun b =>
      if lo = 16 then s.on (MEM_BANK_STATUS_RETIRED b) else if lo = 8 then s.on (MEM_BANK_STATUS_RETPEND b)
      else s.owner b == ownFREE)).length)
  else if a = 0x80004 ∧ lo = 12 then some (bitsWhere 4 s.bankLocked)
  else match nthReg 0x80104 0x10 4 a with
    | some e =>
      let x := s.eng e
      if lo = 14 then some (x.faults.foldl (fun m f => min m f.pc) ((x.entries.head?.map (fun en => en.pc)).getD x.pc))
      else if lo = 4 then some x.entries.length else none
    | none => none

/-- The response in MBXOUT (R534). -/
def State.mbxWord (s : State) (k : Nat) : Nat := (s.mgt.responses.headD []).getD k 0

/-- MGT. -/
def State.viewMgt (s : State) (a lo : Nat) : Option Nat :=
  if a = 0x90010 then
    (if lo = 24 then some (min 32 s.mgt.unwraps.length) else if lo = 16 then some s.mgt.mail.length
     else if lo = 12 then some s.mgt.seconds.length else if lo = 8 then some s.mgt.jobs.length else none)
  else if a = 0x90020 then some (s.clk.dev % 2 ^ 32)
  else if a = 0x90024 then some (s.clk.dev / 2 ^ 32 % 2 ^ 32)
  else if a = 0x90184 ∧ lo = 31 then some (!s.mgt.responses.isEmpty).toNat
  else if a = 0x90184 ∧ lo = 0 then some s.mgt.mail.length
  else if a = 0x90210 ∧ lo = 0 then some s.evq.recs.length
  else match nthReg 0x90140 4 16 a with
    | some k => some (s.mbxWord k)
    | none =>
      match nthReg 0x90200 4 4 a with
      | some k => some (fieldOf (s.evq.recs.headD 0) (96 - 32 * k) 32)
      | none => none

/-- HLN. -/
def State.viewHln (s : State) (a lo : Nat) : Option Nat :=
  if a = 0x102000 then some (bitsWhere 28 s.laneLocked)
  else match nthReg 0x100004 0x40 28 a with
    | some l =>
      if lo = 16 then some ((s.laneGrp l).getD 0) else if lo = 6 then some (s.laneGrp l).isSome.toNat else none
    | none => none

/-- TRB and CIP. -/
def State.viewTrib (s : State) (a lo : Nat) : Option Nat :=
  if a = adr_CIP_LCS ∧ lo = 0 then some s.mtp.lcs
  else if a = adr_CIP_TAMPER ∧ lo = 16 then some s.mtp.tamper
  else if a = adr_CIP_TAMPER ∧ lo = 5 then some (decide (s.cip.pendingCount ≠ 0)).toNat
  else match nthReg 0x140000 0x20 2048 a with
    | some i => if lo = 29 then some (decide (i < 1024) && (s.trib 0 i).pinned).toNat else none
    | none =>
      match nthReg 0x180000 0x20 2048 a with
      | some i =>
        let t := s.trib (i / 1024) (i % 1024)
        if lo = 17 then some (t.enabled && decide (t.stop ≠ 0)).toNat else none
      | none => none

/-- An accepted value of a carrier is usable (R245). -/
def State.accepted (s : State) (c : Nat) : Bool :=
  !(s.on (FRM_C_STATUS_DLOL c)) && !(s.on (FRM_C_STATUS_DLOF c)) && !(s.on (FRM_C_STATUS_DLOM c))

/-- FRM. -/
def State.viewFrm (s : State) (a lo : Nat) : Option Nat :=
  if lo ≠ 18 then none
  else if a = 0x1C0200 then some (s.on (FRM_C_APS_VALID 0) || s.on (FRM_C_APS_VALID 1)).toNat
  else match nthReg 0x1D0000 0x10 1024 a with
    | some n => some (s.on (FRM_TP_STATUS_APSV n) && s.accepted (s.rxCarrier n)).toNat
    | none => none

/-- A correction that a register shows, in its two's-complement field (R385). -/
def State.calField (s : State) (st k w : Nat) : Option Nat := some (encSigned w (calShown (Assoc.get 0 k (s.calView st))))

/-- CNV. -/
def State.viewCnv (s : State) (a lo : Nat) : Option Nat :=
  let c := (a - 0x300000) / 0x100
  let o := a % 0x100
  if 2 ≤ c then none
  else if o = 0 ∧ lo = 31 then some ((s.car c).ost == .enabled && (s.car c).tx.running && s.pdOn (pdLINE c)).toNat
  else if o = 0 ∧ lo = 30 then some ((s.car c).ost == .enabled && (s.car c).tx.running && s.pdOn (pdLINE c)).toNat
  else if o = 0x40 then s.calField (2 * c) (if lo = 22 then 0 else 1) 10
  else if o = 0x44 then s.calField (2 * c + 1) (if lo = 22 then 0 else 1) 10
  else if o = 0x48 then s.calField (2 * c + 1) (if lo = 21 then 5 else 6) 11
  else if o = 0x20 ∨ o = 0x30 then (if lo = 0 then some 0 else none)
  else match nthReg 0x24 4 3 o, nthReg 0x34 4 3 o with
    | some i, _ =>
      if lo = 0 then some (encSigned 13 (max (-2500) (min 2500 (s.txSkewSum c (i + 1) (s.calView (2 * c)))))) else none
    | _, some i => s.calField (2 * c + 1) (i + 2) 13
    | _, _ => none

/-- What a field shows of other state, if it does. -/
def State.view (s : State) (a lo : Nat) : Option Nat :=
  let b := a / 0x10000
  if b = 0 then s.viewGlb a lo
  else if b = 2 then s.viewPwr a lo
  else if b = 5 ∨ b = 6 ∨ b = 8 then s.viewAon a lo
  else if b = 9 then s.viewMgt a lo
  else if b = 0x10 then s.viewHln a lo
  else if b = 0x14 ∨ b = 0x18 ∨ b = 0x19 then s.viewTrib a lo
  else if b = 0x1C ∨ b = 0x1D then s.viewFrm a lo
  else if b = 0x30 then s.viewCnv a lo
  else none

/-! ## Reads -/

/-- What a field of the register at an address reads (R8). -/
def State.fieldVal (s : State) (a : Nat) (r : FieldRow) : Nat :=
  if r.acc == .wo then 0
  else ((s.view a r.lo).getD (Assoc.get r.rst (32 * a + r.lo) s.flds)) % 2 ^ r.width

/-- The word that the register at an address holds: reserved bits and unassigned addresses read zero (R10). -/
def State.regWord (s : State) (a : Nat) : Nat := ((regFields a).map (fun r => s.fieldVal a r * 2 ^ r.lo)).sum

/-- The lower registers of values wider than 32 bits; the upper one follows at the next address (R5). -/
def lowRegs : List RegRow :=
  [⟨0x80208, 4, 0x20, 1, 0x20, []⟩, ⟨0x10001C, 28, 0x40, 2, 8, []⟩, ⟨0x180008, 2, 0x8000, 1024, 0x20, []⟩,
    ⟨0x19001C, 1, 4, 1, 4, []⟩, ⟨0x1C0010, 2, 0x100, 1, 0x100, []⟩, ⟨0x1C0040, 2, 0x100, 3, 8, []⟩,
    ⟨0x200008, 2, 0x100, 5, 8, []⟩, ⟨0x20003C, 2, 0x100, 1, 0x100, []⟩, ⟨0x60414, 1, 4, 1, 4, []⟩,
    ⟨0xA0000, 64, 0x10, 1, 0x10, []⟩, ⟨0x10100C, 28, 0x20, 2, 8, []⟩, ⟨0x90020, 1, 4, 1, 4, []⟩]

/-- The register at an address is a lower one. -/
def isLowReg (a : Nat) : Bool := lowRegs.any (fun r => r.hit a)

/-- Fields that a read clears (R8). -/
def State.clearRead (s : State) (a : Nat) : State :=
  ((regFields a).filter (fun r => r.acc == .rc)).foldl (fun s r => s.set ⟨a, r.lo, r.width, r.rst⟩ 0) s

/-- Read the register at an address: an upper word captured before is returned once, a lower word captures its upper one
(R5, R454). -/
def State.regRead (s : State) (a : Nat) : Nat × State :=
  if s.regOn a = false then (0, s.offAccess)
  else
    let v := (Assoc.find a s.shadow).getD (s.regWord a)
    let t := { s with shadow := Assoc.drop a s.shadow }
    let t := if isLowReg a then { t with shadow := Assoc.put (a + 4) (s.regWord (a + 4)) t.shadow } else t
    (v, t.clearRead a)

end Sys2Proof.Machine
end

