-- ==== Sys2Proof/Machine/RegWrite.lean ====
section
/-! DEFINITION. Writing a register: ranges, access types and the action that a register's write commands (R8, R10, R48, R139, R142,
R171, R197, R231 to R233, R266, R297, R337, R357, R385, R404, R425 to R427, R443 to R446, R470 to R472, R491, R511, R525, R554 to R557). -/

namespace Sys2Proof.Machine

open Reg

/-! ## Plain fields -/

/-- A value lies in the range of an RW field; a value outside has no effect on the field (log entry 40). -/
def fieldTakes (a lo v : Nat) : Bool :=
  let within (l h : Nat) : Bool := decide (l ≤ v ∧ v ≤ h)
  let b := a / 0x10000
  let o := a % 0x100
  if b = 0x1C ∧ a < 0x1C0200 ∧ o = 0x38 then (if lo = 24 then within 2 10 else within 1 781250)
  else if b = 0x20 ∧ a < 0x200200 ∧ o = 0x44 then within 1 255
  else if a = adr_FEC_ALLOC then (if lo = 8 then within 4 16 else within 0 8)
  else if a = adr_DS_OSNRCAL 0 ∨ a = adr_DS_OSNRCAL 1 then decide (v ≠ 0)
  else if b = 0x30 ∧ a < 0x300200 ∧ o = 0x04 ∧ lo = 24 then decide (v ≠ 0)
  else if a = adr_CNV_STCTL ∧ lo = 0 then decide (v ≠ 0)
  else if a = adr_TIM_CTL ∧ lo = 8 then decide (v ≠ 0)
  else if a = adr_MEM_SCRUB ∧ lo = 0 then within 1 3600
  else if a = adr_MEM_BIST ∧ lo = 0 then within 1 8760
  else if a = adr_ECC_BUCKET ∧ lo = 0 then within 1 60000
  else if a = adr_PWR_CTL then decide (v ≠ 0)
  else if a = adr_TRB_DEFRAG ∧ lo = 16 then within 1 100
  else true

/-- A write to one field under its access type (R8). -/
def State.writeField (s : State) (a v : Nat) (r : FieldRow) : State :=
  let f : Fld := ⟨a, r.lo, r.width, r.rst⟩
  let x := f.of v
  match r.acc with
  | .rw => if fieldTakes a r.lo x then s.set f x else s
  | .w1c => s.set f (s.get f - Nat.land (s.get f) x)
  | _ => s

/-- A write to the fields of a register that its access types alone decide. -/
def State.writePlain (s : State) (a v : Nat) : State := (regFields a).foldl (fun s r => s.writeField a v r) s

/-! ## Registers whose write does more -/

/-- THM_CTL, THM_PWR and THM_DWELL: a field out of range keeps the whole register as it was (R491). -/
def State.thmWrite (s : State) (a v : Nat) : State :=
  let within (f : Fld) (l h : Nat) : Bool := decide (l ≤ f.of v ∧ f.of v ≤ h)
  let ok := if a = adr_THM_CTL then
      within THM_CTL_TSTEP 60 (if s.gradeX then 105 else 100) && within THM_CTL_HYST 1 15 && within THM_CTL_GUARD 1 15
    else if a = adr_THM_PWR then within THM_PWR_PLIM 400 1200
    else within THM_DWELL_RELDWELL 100 60000 && within THM_DWELL_ENTDWELL 10 10000
  if ok then s.writePlain a v else s

/-- SLU_ENGn_CTL: the bank, then START, then STOP or KILL (R81; log entry 41 for several in one write). -/
def State.engCtlWrite (s : State) (e v : Nat) : State :=
  let s := s.wr v (SLU_ENG_CTL_BANK e)
  let s := if (SLU_ENG_CTL_START e).of v = 1 then s.engStart e else s
  if (SLU_ENG_CTL_STOP e).of v = 1 ∨ (SLU_ENG_CTL_KILL e).of v = 1 then s.engDrain e else s

/-- MEM_CLAIM (R426). -/
def State.claimWrite (s : State) (v : Nat) : State :=
  let b := MEM_CLAIM_BANK.of v
  if MEM_CLAIM_GO.of v = 0 then s.wrs v [MEM_CLAIM_REL, MEM_CLAIM_BANK]
  else if MEM_CLAIM_REL.of v = 0 then s.memClaim b else s.memRelease b

/-- MEM_ACCCTL (R427). -/
def State.accCtlWrite (s : State) (v : Nat) : State :=
  let s := s.accFields v
  if MEM_ACCCTL_GO.of v = 0 then s
  else if s.on MEM_ACCCTL_WRITE then s.accWrite false else s.accRead 0

/-- CIP_KEKCTL: no effect while an operation runs (R198). -/
def State.kekCtlWrite (s : State) (v : Nat) : State :=
  if s.on CIP_KEKSTAT_BUSY then s
  else if CIP_KEKCTL_GO.of v = 1 then
    s.kekGo (CIP_KEKCTL_PLAIN.of v == 1) (CIP_KEKCTL_WRAP.of v) (CIP_KEKCTL_TARGET.of v)
  else s.wrs v [CIP_KEKCTL_PLAIN, CIP_KEKCTL_WRAP, CIP_KEKCTL_TARGET]

/-- ACQ_Cc_CTL: WATCHEN decides whether lanes sweep after lock (R354). -/
def State.acqCtlWrite (s : State) (c v : Nat) : State :=
  let s := s.wr v (ACQ_C_CTL_WATCHEN c)
  let s := match (s.acq c).lock with
    | some l => s.showLanes c (if s.on (ACQ_C_CTL_WATCHEN c) then l.prof.baud else 0)
    | none => s
  if (ACQ_C_CTL_RESTART c).of v = 1 then s.acqRestart c else s

/-- CNV_Cc_CALCTL: when HOLD falls, corrections of a direction that is not running follow their target (R373, R374). -/
def State.calCtlWrite (s : State) (c v : Nat) : State :=
  ((s.writePlain (adr_CNV_C_CALCTL c) v).calSync (2 * c)).calSync (2 * c + 1)

/-- MGT_TIME_STATUS (R472). -/
def State.timeStatusWrite (s : State) (v : Nat) : State :=
  let s := s.writePlain adr_MGT_TIME_STATUS v
  if MGT_TIME_STATUS_UCLR.of v = 1 then s.set MGT_TIME_UNCERT_UNCERT 0 else s

/-- MGT_MBXCTL.POST (R533): the command is queued, or refused BUSY. -/
def State.mailPost (s : State) : State :=
  if s.mgt.mail.length < 16 then
    let cmd := (List.range 16).map (fun k => s.get (MGT_MBXIN_DATA k))
    (({ s with mgt := { s.mgt with mail := s.mgt.mail ++ [cmd] } }).set MGT_MBXSTAT_RESULT 0).refreshNeeds
  else s.set MGT_MBXSTAT_RESULT 5

/-- MGT_MBXCTL.ACK (R534): the response in MBXOUT is released. -/
def State.mailAck (s : State) : State := { s with mgt := { s.mgt with responses := s.mgt.responses.drop 1 } }

/-- MGT_MBXCTL: a response is released before a command is posted. -/
def State.mbxCtlWrite (s : State) (v : Nat) : State :=
  let s := if MGT_MBXCTL_ACK.of v = 1 then s.mailAck else s
  if MGT_MBXCTL_POST.of v = 1 then s.mailPost else s

/-- MGT_EVQ_CTL.POP (R540): the oldest record leaves bank 187. -/
def State.evqPop (s : State) : State :=
  match s.evq.recs with
  | [] => s
  | _ :: t =>
    let s := s.unpoison (fun w => (evqWords s.evq.pos).contains w)
    State.evqClean { s with evq := { s.evq with recs := t, pos := (s.evq.pos + 1) % 4096 } } 4096

/-- Registers of the always-on blocks. -/
def State.writeAon (s : State) (a v : Nat) : State :=
  if a = adr_GLB_CTL then (if GLB_CTL_RELEASE.of v = 1 then s.leaveDebug else s)
  else if a = adr_RST_CTL then s.rstWrite (RST_CTL_KEY.of v) (RST_CTL_REQ.of v)
  else if a = adr_PWR_TIMER then s.timerWrite v
  else if a = adr_THM_CTL ∨ a = adr_THM_PWR ∨ a = adr_THM_DWELL then s.thmWrite a v
  else if a = adr_THM_DIODECTL then s.reinstate (THM_DIODECTL_REINSTATE.of v)
  else if a = adr_HKA_CTL then s.hkaCtlWrite v
  else if a = adr_HKA_SCAN then s.hkaScanWrite v
  else if a = adr_TIM_OUT then s.timOutWrite v
  else if a = adr_MEM_CLAIM then s.claimWrite v
  else if a = adr_MEM_ACCCTL then s.accCtlWrite v
  else if a = adr_ECC_INJ then s.injWrite v
  else if a = adr_ECC_LOGCTL then (if ECC_LOGCTL_CLR.of v = 1 then s.logClear else s)
  else if a = adr_ECC_LOGSEL then s.logSelWrite v
  else match nthReg 0x40020 8 4 a with
    | some k => s.almWrite k v
    | none => s.writePlain a v

/-- Registers of SLU, MGT and PMC. -/
def State.writeControl (s : State) (a v : Nat) : State :=
  if a = adr_SLU_LOAD then
    (if SLU_LOAD_GO.of v = 1 then s.loadGo (SLU_LOAD_BANK.of v) else s.wr v SLU_LOAD_BANK)
  else if a = adr_MGT_TIME_STATUS then s.timeStatusWrite v
  else if a = adr_MGT_MBXCTL then s.mbxCtlWrite v
  else if a = adr_MGT_EVQ_CTL then (if MGT_EVQ_CTL_POP.of v = 1 then s.evqPop else s)
  else if a = adr_PMC_CTL then s.pmcCtlWrite v
  else match nthReg 0x80100 0x10 4 a, nthReg 0xA0008 0x10 64 a with
    | some e, _ => s.engCtlWrite e v
    | _, some k => s.pmcSelWrite k v
    | _, _ => s.writePlain a v

/-- Registers of HLN, TRB, CIP and FRM. -/
def State.writePath (s : State) (a v : Nat) : State :=
  if a = adr_HLN_THRESH then s.hlnThreshWrite v
  else if a = adr_TRB_CMSEL then s.cmselWrite v
  else if a = adr_CIP_LCS then s.lcsWrite (CIP_LCS_CONFIRM.of v) (CIP_LCS_REQ.of v)
  else if a = adr_CIP_KSSEL then s.ksselWrite v
  else if a = adr_CIP_KEKCTL then s.kekCtlWrite v
  else match nthReg 0x190040 4 16 a with
    | some k => if s.on CIP_KEKSTAT_BUSY then s else s.wr v (CIP_KEKBUF_DATA k)
    | none =>
      match nthReg 0x100000 0x40 28 a, nthReg 0x100014 0x40 28 a, nthReg 0x100018 0x40 28 a with
      | some l, _, _ =>
        let s := s.writePlain a v
        if (HLN_LANE_CTL_RESTART l).of v = 1 then s.laneDefaults l else s
      | _, some l, _ => s.txeqWrite l v
      | _, _, some l => s.prbsWrite l v
      | _, _, _ =>
        let s := s.writePlain a v
        if 0x1C0048 ≤ a ∧ a < 0x1C0060 then s.defects 0
        else if 0x1C0148 ≤ a ∧ a < 0x1C0160 then s.defects 1 else s

/-- Registers of FEC, DSA, DSB, ACQ and CNV, one carrier's. -/
def State.writeLine (s : State) (a v c : Nat) : State :=
  if a = adr_FEC_C_SD c then s.fecSdWrite c v
  else if a = adr_FEC_C_HISTSEL c then s.histSelWrite c v
  else if a = adr_FEC_C_CTL c then (if (FEC_C_CTL_CLR c).of v = 1 then s.fecClear c else s)
  else if a = adr_DS_TXCTL c then s.txctlWrite c v
  else if a = adr_DS_LSTCTL c then s.lstctlWrite c v
  else if a = adr_DS_EQCTL c then s.eqctlWrite c v
  else if a = adr_DS_TAPSEL c then s.tapselWrite c v
  else if a = adr_ACQ_C_CTL c then s.acqCtlWrite c v
  else if a = adr_CNV_C_CALCTL c then s.calCtlWrite c v
  else if a = adr_CNV_C_MAP c then (if (s.car c).active then s else s.writePlain a v)
  else if a = adr_CNV_C_TABSEL c then s.tabselWrite c v
  else if adr_CNV_C_TXSKEW c 0 ≤ a ∧ a ≤ adr_CNV_C_TXSKEW c 3 then (s.writePlain a v).checkClip c
  else s.writePlain a v

/-- Registers of FEC and the line blocks. -/
def State.writeLines (s : State) (a v : Nat) : State :=
  if a = adr_ACQ_THRESH then s.threshWrite v
  else if a = adr_CNV_BINSEL then s.binselWrite v
  else if a = adr_CNV_STCTL then
    (let t := s.writePlain a v
     if CNV_STCTL_STORE.of v = 1 then t.fallDue else t.nowDue s.storeDue)
  else s.writeLine a v (if a < 0x240000 ∨ 0x2C0000 ≤ a then a / 0x100 % 2 else (a - 0x240000) / 0x40000)

/-- The effect of a write that reaches its register. -/
def State.writeReg (s : State) (a v : Nat) : State :=
  let b := a / 0x10000
  if b < 8 then s.writeAon a v
  else if b < 0x10 then s.writeControl a v
  else if b < 0x20 then s.writePath a v
  else s.writeLines a v

/-- Write the register at an address: nothing while its polder is not on (R454), nothing at an unassigned address (R10). -/
def State.regWrite (s : State) (a v : Nat) : State :=
  if s.regOn a = false then s.offAccess
  else if (regFields a).isEmpty then s
  else s.writeReg a v

/-- REGISTER_WRITE (R8): a management write, with no other effect of its interface; an address that is no multiple of 4 names no
register. -/
def execRegisterWrite (a v : W32) (s : State) : Outcome :=
  answer (if s.ready ∧ a.toNat % 4 = 0 then s.regWrite a.toNat v.toNat else s)

/-- POST (R533): MGT_MBXCTL written with POST 1. -/
def execPost (s : State) : Outcome := answer (s.gated adr_MGT_MBXCTL State.mailPost)

/-- ACK (R534): MGT_MBXCTL written with ACK 1. -/
def execAck (s : State) : Outcome := answer (s.gated adr_MGT_MBXCTL State.mailAck)

/-- POP (R540): MGT_EVQ_CTL written with POP 1. -/
def execPop (s : State) : Outcome := answer (s.gated adr_MGT_EVQ_CTL State.evqPop)

end Sys2Proof.Machine
end

