-- ==== Sys2Proof/Machine/Mgmt.lean ====
section
/-! DEFINITION. Management interfaces: SPI, the mailbox, PM seconds, I²C, JTAG, and programs' access to registers (R48, R49, R93 to
R96, R106 to R109, R528 to R535, R542 to R544, R548 to R550). -/

namespace Sys2Proof.Machine

open Reg

/-! ## Accesses from a bus -/

/-- The program-store window (R76). -/
def inWindow (a : Nat) : Bool := decide (0x01000000 ≤ a ∧ a < 0x01200000)

/-- The results of an SPI transaction (R532). -/
def spiOK : Nat := 0
def spiERR : Nat := 1
def spiBUSY : Nat := 2

/-- Read a word of the management space (R10, R76, R454, R568). -/
def State.busRead (s : State) (a : Nat) : Nat × State :=
  if inWindow a then (if s.regOn a then s.windowRead (a - 0x01000000) else (0, s.offAccess)) else s.regRead a

/-- Write a word of it: the result that the transaction reports (R532, R533, R546). -/
def State.busWrite (s : State) (a v : Nat) : Nat × State :=
  if inWindow a then
    (if s.regOn a then (if s.rst.flashLoading then spiERR else spiOK, s.windowWrite (a - 0x01000000) v) else (spiOK, s.offAccess))
  else
    let t := s.regWrite a v
    let refused := a == adr_MGT_MBXCTL && s.regOn a && MGT_MBXCTL_POST.of v == 1 && t.get MGT_MBXSTAT_RESULT == 5
    (if refused then spiBUSY else spiOK, t)

/-! ## SPI (R528 to R532) -/

/-- The status byte (R532). -/
def State.spiStatusByte (s : State) : Nat :=
  if s.ready then
    128 + 32 * s.ports.spiResult + 16 * (!s.evq.recs.isEmpty).toNat + 8 * (!s.mgt.responses.isEmpty).toNat
      + 4 * s.get GLB_STATUS_LIMITED + 2
  else 2

/-- The chip select falls: the status byte is shifted out, and the SPI wake fires (R460, R499). -/
def State.spiOpen (s : State) : State :=
  let t := { s with ports := { s.ports with spiStatus := s.spiStatusByte, spiOut := [] } }
  if s.ready then t.fireWake 1 else t

/-- The chip select rises after a transaction with a result; a reset that the transaction caused leaves nothing. -/
def State.spiClose (s : State) (res : Nat) : State :=
  if s.ready then { s with ports := { s.ports with spiResult := res } } else s

/-- An SPI transaction after READY: what its phases do, and its result. -/
def State.spi (s : State) (f : State → Nat × State) : State :=
  let t := s.spiOpen
  if s.ready then
    let r := f t
    r.2.spiClose r.1
  else t

/-- A word that SPI returns is kept for the host. -/
def State.spiGive (s : State) (v : Nat) : State := { s with ports := { s.ports with spiOut := s.ports.spiOut ++ [v] } }

/-- Of two results the one to report: ERR before BUSY before OK. -/
def worse (a b : Nat) : Nat := if a = spiERR ∨ b = spiERR then spiERR else max a b

/-- Words written at ascending addresses. -/
def State.spiWrites (s : State) (a : Nat) : List Nat → Nat × State
  | [] => (spiOK, s)
  | v :: t =>
    if s.ready then
      let r := s.busWrite a v
      let q := r.2.spiWrites ((a + 4) % 2 ^ 32) t
      (worse r.1 q.1, q.2)
    else (spiOK, s)

/-- So many words read at ascending addresses. -/
def State.spiReads (s : State) (a : Nat) : Nat → State
  | 0 => s
  | n + 1 =>
    let r := s.busRead a
    (r.2.spiGive r.1).spiReads ((a + 4) % 2 ^ 32) n

/-- The address phase: complete, with a multiple of 4 (R531). -/
def State.spiAt (s : State) (addr : Option W32) (f : State → Nat → Nat × State) : State :=
  s.spi (fun s => match addr with
    | some a => if a.toNat % 4 = 0 then f s a.toNat else (spiERR, s)
    | none => (spiERR, s))

/-- A cut word makes the result ERR (R531). -/
def cutResult (cut : Bool) (res : Nat) : Nat := if cut then spiERR else res

/-- The codes of R529. -/
def spiCodes : List Nat := [0x02, 0x03, 0x12, 0x13, 0x05]

/-- WRITE (R529, R531): no address where the transaction ended in the address phase, no word where it was cut short. -/
def execWrite (addr word : Option W32) (s : State) : Outcome :=
  answer (s.spiAt addr (fun s a => match word with
    | some v => s.busWrite a v.toNat
    | none => (spiERR, s)))

/-- READ (R529, R531): `cut` says that the chip select rose within the word. -/
def execRead (addr : Option W32) (cut : Bool) (s : State) : Outcome :=
  answer (s.spiAt addr (fun s a => (cutResult cut spiOK, s.spiReads a 1)))

/-- WRITEINC (R529, R530): the whole words, and whether a cut one followed. -/
def execWriteinc (addr : Option W32) (words : List W32) (cut : Bool) (s : State) : Outcome :=
  answer (s.spiAt addr (fun s a =>
    let r := s.spiWrites a (words.map (fun v => v.toNat))
    (cutResult cut r.1, r.2)))

/-- READINC (R529): the words shifted out, the last of them cut or whole. -/
def execReadinc (addr : Option W32) (n : Nat) (cut : Bool) (s : State) : Outcome :=
  answer (s.spiAt addr (fun s a => (cutResult cut spiOK, s.spiReads a n)))

/-- STATUS (R529). -/
def execStatus (s : State) : Outcome := answer (s.spi (fun s => (spiOK, s)))

/-- SPI_UNDEFINED_COMMAND (R531): a code that R529 does not list. -/
def execSpiUndefinedCommand (code : Byte) (s : State) : Outcome :=
  answerIf (!(spiCodes.contains code.toNat)) (s.spi (fun s => (spiERR, s)))

/-- SYNC (R96): GLB_FENCE written with SYNC 1. Every earlier write has taken effect already (log entry 42), so PEND reads 0. -/
def execSync (s : State) : Outcome := answer (s.gated adr_GLB_FENCE (fun s => s.setB GLB_FENCE_PEND false))

/-! ## Programs (R48, R93) -/

/-- RDREG. -/
def execRdreg (e : Fin 4) (p : BitVec 18) (s : State) : Outcome :=
  answer (s.runObject 0x1C e p.toNat (fun s en _ =>
    let r := s.regRead (regAddr en.word en.a)
    (.ok r.1, r.2)))

/-- WRREG. -/
def execWrreg (e : Fin 4) (p : BitVec 18) (s : State) : Outcome :=
  answer (s.runObject 0x1D e p.toNat (fun s en _ => (.ok 0, s.regWrite (regAddr en.word en.a) (en.d % 2 ^ 32))))

/-! ## PM seconds (R106 to R108) -/

/-- A second is marked INCOMPLETE: reported without counts, counted and posted (R107). -/
def State.pmIncomplete (s : State) (label : Nat) : State :=
  let s := { s with mgt := { s.mgt with rolled := (s.mgt.rolled ++ [(⟨label, true, []⟩ : PmSecond)]).drop (s.mgt.rolled.length - 15) } }
  (s.bump MGT_INCOMPLETE_COUNT 1).post srcMGT 0x01 0 [label]

/-- What a second brings for a carrier: its classification, and CSLIP when it slipped (R251, R335). -/
def State.carrierPm (s : State) (c label : Nat) : State :=
  let r := s.carrierSecond c label
  let s := r.1.pmCount (hCarrier c) 2 r.2
  let n := (s.line c).slips
  if n = 0 then s else (s.setLine c { s.line c with slips := 0 }).post (srcDS c) 0x02 (hCarrier c) [n]

/-- A second of the interval timer ends: the counts are queued for roll-up, the oldest of eight giving way. -/
def State.pmSecond (s : State) : State :=
  if s.ready && s.mgtOn then
    let label := s.seconds
    let s := (s.carrierPm 0 label).carrierPm 1 label
    let new : PmSecond := ⟨label, false, s.mgt.counts⟩
    let s := { s with mgt := { s.mgt with counts := [] } }
    if s.on GLB_STATUS_DEBUG then s.pmIncomplete label
    else
      let q := s.mgt.seconds ++ [new]
      let t := if 8 < q.length then
        ({ s with mgt := { s.mgt with seconds := q.drop 1, slices := 0 } }).pmIncomplete ((q.headD new).label)
        else { s with mgt := { s.mgt with seconds := q } }
      t.refreshNeeds
  else s

/-- Slices of 64 tributaries that a roll-up takes. -/
def State.rollSlices (s : State) : Nat := max 1 ((s.tribs.length + 63) / 64)

/-- The roll-up of a second ends: its counts can be read, or a poisoned word of its snapshot makes it INCOMPLETE (R107, R438). -/
def State.rolledUp (s : State) (x : PmSecond) : State :=
  match (List.range 4096).map (fun i => bankWord 187 (8192 + 4096 * (x.label % 8) + i)) |>.find? (fun w => s.wordPoison w) with
  | some w => ((s.consume w 0).unpoison (inSnapshot x.label)).pmIncomplete x.label
  | none => { s with mgt := { s.mgt with rolled := (s.mgt.rolled ++ [x]).drop (s.mgt.rolled.length - 15) } }

/-- A slice of the roll-up of the oldest pending second, when no class 0 or class 1 job waits (R106). -/
def State.pmRollup (s : State) : State :=
  match s.mgt.seconds with
  | [] => s
  | x :: rest =>
    if s.mgtServes && s.mgt.unwraps.isEmpty && s.mgt.mail.isEmpty then
      if s.rollSlices ≤ s.mgt.slices + 1 then
        (State.rolledUp { s with mgt := { s.mgt with seconds := rest, slices := 0 } } x).seeBusy
      else { s with mgt := { s.mgt with slices := s.mgt.slices + 1 } }
    else s

/-- PM_SECOND (R107, R108). -/
def execPmSecond (s : State) : Outcome := answer s.pmSecond

/-- PM_ROLLUP (R106). -/
def execPmRollup (s : State) : Outcome := answer s.pmRollup

/-! ## Mailbox commands (R534, R535) -/

/-- CMD and TAG of a posted command. -/
def mailCmd (m : List Nat) : Nat := fieldOf (m.headD 0) 24 8
def mailTag (m : List Nat) : Nat := fieldOf (m.headD 0) 16 8

/-- A carrier or directional tributary handle. -/
def pmHandle (h : Nat) : Bool :=
  (h / 0x1000 == 1 && handleInRange h) || (h / 0x1000 == 2 && handleInRange h && h / 0x400 % 4 != 0)

/-- The answer of PMGET: RESULT and the response words. -/
def State.pmGet (s : State) (second h : Nat) : Nat × List Nat :=
  if pmHandle h = false then (2, [])
  else match s.mgt.rolled.reverse.find? (fun x => x.label == second) with
    | none => (3, [])
    | some x =>
      if x.incomplete then (4, [])
      else
        let l := Assoc.get [] h x.counts
        (0, (List.range (if h / 0x1000 = 1 then 3 else 4)).map (fun i => l.getD i 0 % 2 ^ 32))

/-- The answer of PMLAST. -/
def State.pmLast (s : State) : Nat × List Nat :=
  match s.mgt.rolled.reverse.find? (fun x => !x.incomplete) with
  | none => (3, [])
  | some x => (0, [x.label])

/-- RESULT and response words of a command (R534, R535). -/
def State.mailAnswer (s : State) (m : List Nat) : Nat × List Nat :=
  match mailCmd m with
  | 1 => (0, [Config.firmware 0 % 2 ^ 32, Config.firmware 1 % 2 ^ 32])
  | 2 => s.pmGet (m.getD 1 0) (m.getD 2 0 % 2 ^ 16)
  | 3 => s.pmLast
  | _ => (1, [])

/-- The oldest posted command is served, if it is of the kind given and no class 0 job waits (R106). -/
def State.mailServe (s : State) (kind : Nat → Bool) : State :=
  match s.mgt.mail with
  | [] => s
  | m :: rest =>
    if s.mgtServes && s.mgt.unwraps.isEmpty && kind (mailCmd m) then
      let r := s.mailAnswer m
      let head := mailCmd m * 2 ^ 24 + mailTag m * 2 ^ 16 + r.1 * 2 ^ 8 + r.2.length
      ({ s with mgt := { s.mgt with mail := rest, responses := s.mgt.responses ++ [head :: r.2] } }).seeBusy
    else s

/-- VERSION (R534). -/
def execVersion (s : State) : Outcome := answer (s.mailServe (fun k => k == 1))

/-- PMGET (R534, R535). -/
def execPmget (s : State) : Outcome := answer (s.mailServe (fun k => k == 2))

/-- PMLAST (R534). -/
def execPmlast (s : State) : Outcome := answer (s.mailServe (fun k => k == 3))

/-- BADCMD (R535). -/
def execBadcmd (s : State) : Outcome := answer (s.mailServe (fun k => k == 0 || decide (3 < k)))

/-! ## I²C (R542 to R544) -/

/-- The register of an index (R543). -/
def i2cReg (i : Nat) : Option Nat :=
  match i with
  | 0 => some adr_GLB_ID
  | 1 => some adr_GLB_STATUS
  | 2 => some adr_GLB_INT
  | 3 => some adr_RST_STATUS
  | 4 => some adr_RST_CTL
  | 5 => some adr_PWR_SEQ
  | 6 => some adr_PWR_LASTWAKE
  | 7 => some adr_PWR_TIMER
  | 8 => some adr_THM_STATUS
  | 9 => some adr_TIM_STATUS
  | 10 => some (adr_HKA_RES 11)
  | _ => none

/-- The target declines a byte. -/
def State.i2cDecline (s : State) : State := { s with ports := { s.ports with i2cNack := true, i2cOut := none } }

/-- A transaction at the target's address: NACK before READY, while XO_IN is stopped, and at an undefined index. -/
def State.i2c (s : State) (i : Nat) (f : State → Nat → State) : State :=
  if s.ready = false then s.i2cDecline
  else
    let t := s.fireWake 0
    match i2cReg i with
    | none => t.i2cDecline
    | some a =>
      if s.clk.xoRuns = false then t.i2cDecline
      else f ({ t with ports := { t.ports with i2cNack := false, i2cOut := none } }) a

/-- I2C_WRITE (R542). -/
def execI2cWrite (index : Byte) (v : W32) (s : State) : Outcome :=
  answer (s.i2c index.toNat (fun s a => s.regWrite a v.toNat))

/-- I2C_READ (R542). -/
def execI2cRead (index : Byte) (s : State) : Outcome :=
  answer (s.i2c index.toNat (fun s a =>
    let r := s.regRead a
    { r.2 with ports := { r.2.ports with i2cOut := some r.1 } }))

/-! ## JTAG (R548 to R550) -/

/-- The identification of R548. -/
def idcode : Nat := 0x148125A7

/-- An instruction is loaded: carriers and host groups follow the hold of R550. -/
def State.loadIr (s : State) (ir : Nat) : State :=
  let t := s.withHold (fun s => { s with ports := { s.ports with jtagIr := ir, jtagOut := if ir = 1 then idcode else 0 } })
  if s.jtagHold = t.jtagHold then t else t.evalHosts

/-- MANUFACTURE or PROVISIONED. -/
def State.openLife (s : State) : Bool := decide (s.mtp.lcs < 2)

/-- IDCODE. -/
def execIdcode (s : State) : Outcome := answer (s.loadIr 0x01)

/-- SAMPLE_PRELOAD: with the levels shifted into the boundary cells. -/
def execSamplePreload (cells : List Bool) (s : State) : Outcome :=
  answer (let t := s.loadIr 0x02
          { t with ports := { t.ports with cells := cells } })

/-- EXTEST. -/
def execExtest (s : State) : Outcome := answer (s.loadIr 0x03)

/-- EXTEST_PULSE. -/
def execExtestPulse (s : State) : Outcome := answer (s.loadIr 0x04)

/-- EXTEST_TRAIN. -/
def execExtestTrain (s : State) : Outcome := answer (s.loadIr 0x05)

/-- CLAMP. -/
def execClamp (s : State) : Outcome := answer (s.loadIr 0x06)

/-- HIGHZ. -/
def execHighz (s : State) : Outcome := answer (s.loadIr 0x07)

/-- DEBUG: outside its conditions BYPASS. -/
def execDebug (s : State) : Outcome :=
  answer (if s.on GLB_STATUS_DEBUG && s.openLife then s.loadIr 0x20 else s.loadIr 0xFF)

/-- CIPTEST: the key store is zeroed; outside its conditions BYPASS. -/
def execCiptest (s : State) : Outcome := answer (if s.openLife then (s.loadIr 0x30).wipe else s.loadIr 0xFF)

/-- BYPASS, by its code or any undefined one. -/
def execBypass (s : State) : Outcome := answer (s.loadIr 0xFF)

/-- TEST_LOGIC_RESET (R493, R548): IDCODE is selected. -/
def execTestLogicReset (s : State) : Outcome := answer (s.loadIr 0x01)

end Sys2Proof.Machine
end

