-- ==== Sys2Proof/Machine/Dispatch.lean ====
section
/-! DEFINITION. The meaning of every command, one arm each. -/

namespace Sys2Proof.Machine

/-- The effect of a command on everything but the queue. -/
def exec (i : Instr) (s : State) : Host.Outcome State Fault Refusal :=
  match i with
  | .registerWrite a v => Sys2Proof.Machine.execRegisterWrite a v s
  | .nop e => Sys2Proof.Machine.execNop e s
  | .halt e => Sys2Proof.Machine.execHalt e s
  | .jmp e => Sys2Proof.Machine.execJmp e s
  | .br e => Sys2Proof.Machine.execBr e s
  | .call e => Sys2Proof.Machine.execCall e s
  | .ret e => Sys2Proof.Machine.execRet e s
  | .wait e => Sys2Proof.Machine.execWait e s
  | .waitExpiry e => Sys2Proof.Machine.execWaitExpiry e s
  | .movi e => Sys2Proof.Machine.execMovi e s
  | .movih e => Sys2Proof.Machine.execMovih e s
  | .addi e => Sys2Proof.Machine.execAddi e s
  | .add e => Sys2Proof.Machine.execAdd e s
  | .sub e => Sys2Proof.Machine.execSub e s
  | .and e => Sys2Proof.Machine.execAnd e s
  | .or e => Sys2Proof.Machine.execOr e s
  | .xor e => Sys2Proof.Machine.execXor e s
  | .shl e => Sys2Proof.Machine.execShl e s
  | .shr e => Sys2Proof.Machine.execShr e s
  | .ld e => Sys2Proof.Machine.execLd e s
  | .st e => Sys2Proof.Machine.execSt e s
  | .rdreg e p => Sys2Proof.Machine.execRdreg e p s
  | .wrreg e p => Sys2Proof.Machine.execWrreg e p s
  | .bind e p => Sys2Proof.Machine.execBind e p s
  | .enable e p => Sys2Proof.Machine.execEnable e p s
  | .disable e p => Sys2Proof.Machine.execDisable e p s
  | .disableAbort e p => Sys2Proof.Machine.execDisableAbort e p s
  | .unbind e p => Sys2Proof.Machine.execUnbind e p s
  | .protectClear e p => Sys2Proof.Machine.execProtectClear e p s
  | .protectLockout e p => Sys2Proof.Machine.execProtectLockout e p s
  | .protectForceA e p => Sys2Proof.Machine.execProtectForceA e p s
  | .protectForceB e p => Sys2Proof.Machine.execProtectForceB e p s
  | .protectManualA e p => Sys2Proof.Machine.execProtectManualA e p s
  | .protectManualB e p => Sys2Proof.Machine.execProtectManualB e p s
  | .pin e p => Sys2Proof.Machine.execPin e p s
  | .query e p => Sys2Proof.Machine.execQuery e p s
  | .relane e p => Sys2Proof.Machine.execRelane e p s
  | .keyimp e p => Sys2Proof.Machine.execKeyimp e p s
  | .keyUnwrap => Sys2Proof.Machine.execKeyUnwrap s
  | .keystage e p => Sys2Proof.Machine.execKeystage e p s
  | .keyroll e p => Sys2Proof.Machine.execKeyroll e p s
  | .keyzero e p => Sys2Proof.Machine.execKeyzero e p s
  | .refset e p => Sys2Proof.Machine.execRefset e p s
  | .realign e p => Sys2Proof.Machine.execRealign e p s
  | .timerd e p => Sys2Proof.Machine.execTimerd e p s
  | .mretire e p => Sys2Proof.Machine.execMretire e p s
  | .mtest e p => Sys2Proof.Machine.execMtest e p s
  | .power e p => Sys2Proof.Machine.execPower e p s
  | .evpost e p => Sys2Proof.Machine.execEvpost e p s
  | .evwait e => Sys2Proof.Machine.execEvwait e s
  | .evwaitTimeout e => Sys2Proof.Machine.execEvwaitTimeout e s
  | .fenceAll e => Sys2Proof.Machine.execFenceAll e s
  | .fenceObj e => Sys2Proof.Machine.execFenceObj e s
  | .fenceIo e => Sys2Proof.Machine.execFenceIo e s
  | .faultRecord e => Sys2Proof.Machine.execFaultRecord e s
  | .sluLoadGo k => Sys2Proof.Machine.execSluLoadGo k s
  | .verificationEnd k => Sys2Proof.Machine.execVerificationEnd k s
  | .windowWrite word v => Sys2Proof.Machine.execWindowWrite word v s
  | .start e bank => Sys2Proof.Machine.execStart e bank s
  | .stop e => Sys2Proof.Machine.execStop e s
  | .kill e => Sys2Proof.Machine.execKill e s
  | .engineDrained e => Sys2Proof.Machine.execEngineDrained e s
  | .sync => Sys2Proof.Machine.execSync s
  | .pmSecond => Sys2Proof.Machine.execPmSecond s
  | .pmRollup => Sys2Proof.Machine.execPmRollup s
  | .allocationInterval => Sys2Proof.Machine.execAllocationInterval s
  | .sfInterval => Sys2Proof.Machine.execSfInterval s
  | .signalPresent l => Sys2Proof.Machine.execSignalPresent l s
  | .signalLost l => Sys2Proof.Machine.execSignalLost l s
  | .laneLock l m => Sys2Proof.Machine.execLaneLock l m s
  | .adaptTimeout l => Sys2Proof.Machine.execAdaptTimeout l s
  | .laneUnlock l m => Sys2Proof.Machine.execLaneUnlock l m s
  | .laneRestart l => Sys2Proof.Machine.execLaneRestart l s
  | .markerLock l logical skew => Sys2Proof.Machine.execMarkerLock l logical skew s
  | .markerLockLost l => Sys2Proof.Machine.execMarkerLockLost l s
  | .rsCodeword l info parity => Sys2Proof.Machine.execRsCodeword l info parity s
  | .hostCell g => Sys2Proof.Machine.execHostCell g s
  | .prbsGenen l pat => Sys2Proof.Machine.execPrbsGenen l pat s
  | .prbsClr l => Sys2Proof.Machine.execPrbsClr l s
  | .prbsSync x => Sys2Proof.Machine.execPrbsSync x s
  | .prbsSyncLoss l levels last => Sys2Proof.Machine.execPrbsSyncLoss l levels last s
  | .prbsSaturation l levels => Sys2Proof.Machine.execPrbsSaturation l levels s
  | .hlnThreshWrite v => Sys2Proof.Machine.execHlnThreshWrite v s
  | .txeqWrite l v => Sys2Proof.Machine.execTxeqWrite l v s
  | .transmitFrame => Sys2Proof.Machine.execTransmitFrame s
  | .superframeBoundary => Sys2Proof.Machine.execSuperframeBoundary s
  | .sealBoundary n => Sys2Proof.Machine.execSealBoundary n s
  | .defragMove c => Sys2Proof.Machine.execDefragMove c s
  | .cmselWrite v => Sys2Proof.Machine.execCmselWrite v s
  | .receiveUnit n => Sys2Proof.Machine.execReceiveUnit n s
  | .tagVerdict n => Sys2Proof.Machine.execTagVerdict n s
  | .areaZeroed n => Sys2Proof.Machine.execAreaZeroed n s
  | .keywarn k => Sys2Proof.Machine.execKeywarn k s
  | .keySpent k => Sys2Proof.Machine.execKeySpent k s
  | .counterLimit n => Sys2Proof.Machine.execCounterLimit n s
  | .rootInjection wrap target => Sys2Proof.Machine.execRootInjection wrap target s
  | .kekLoad wrap target => Sys2Proof.Machine.execKekLoad wrap target s
  | .kekOperationEnd verified => Sys2Proof.Machine.execKekOperationEnd verified s
  | .provision confirm => Sys2Proof.Machine.execProvision confirm s
  | .deploy confirm => Sys2Proof.Machine.execDeploy confirm s
  | .retire confirm => Sys2Proof.Machine.execRetire confirm s
  | .renew confirm => Sys2Proof.Machine.execRenew confirm s
  | .lcsTransitionEnd ok => Sys2Proof.Machine.execLcsTransitionEnd ok s
  | .tamperTrigger cause => Sys2Proof.Machine.execTamperTrigger cause s
  | .tamperZeroed => Sys2Proof.Machine.execTamperZeroed s
  | .tamperCountWrite => Sys2Proof.Machine.execTamperCountWrite s
  | .ksselWrite v => Sys2Proof.Machine.execKsselWrite v s
  | .receiveFrame c arrival => Sys2Proof.Machine.execReceiveFrame c arrival s
  | .holdoffExpiry g c => Sys2Proof.Machine.execHoldoffExpiry g c s
  | .wtrExpiry g => Sys2Proof.Machine.execWtrExpiry g s
  | .commitPoint n => Sys2Proof.Machine.execCommitPoint n s
  | .ddUnknown => Sys2Proof.Machine.execDdUnknown s
  | .blockArrival c zeros => Sys2Proof.Machine.execBlockArrival c zeros s
  | .decodingPass c th window e16 e32 => Sys2Proof.Machine.execDecodingPass c th window e16 e32 s
  | .blockDelivery c => Sys2Proof.Machine.execBlockDelivery c s
  | .fecCtlClr c => Sys2Proof.Machine.execFecCtlClr c s
  | .fecSdWrite c v => Sys2Proof.Machine.execFecSdWrite c v s
  | .histselWrite c v => Sys2Proof.Machine.execHistselWrite c v s
  | .pilotBlock c x => Sys2Proof.Machine.execPilotBlock c x s
  | .dispersionTracking c residual => Sys2Proof.Machine.execDispersionTracking c residual s
  | .bulkDgdUpdate c delay => Sys2Proof.Machine.execBulkDgdUpdate c delay s
  | .eqRestart c => Sys2Proof.Machine.execEqRestart c s
  | .eqFreeze c => Sys2Proof.Machine.execEqFreeze c s
  | .eqUnfreeze c => Sys2Proof.Machine.execEqUnfreeze c s
  | .eqDdEntry c => Sys2Proof.Machine.execEqDdEntry c s
  | .eqreinit c => Sys2Proof.Machine.execEqreinit c s
  | .lsteerPeriod c f => Sys2Proof.Machine.execLsteerPeriod c f s
  | .xiSearch c snr => Sys2Proof.Machine.execXiSearch c snr s
  | .fillsync c => Sys2Proof.Machine.execFillsync c s
  | .monitorUpdate c m => Sys2Proof.Machine.execMonitorUpdate c m s
  | .tapselWrite c v => Sys2Proof.Machine.execTapselWrite c v s
  | .dspControlWrite c reg v => Sys2Proof.Machine.execDspControlWrite c reg v s
  | .sweepEnd c lane x => Sys2Proof.Machine.execSweepEnd c lane x s
  | .confirmStart c => Sys2Proof.Machine.execConfirmStart c s
  | .settleEnd c => Sys2Proof.Machine.execSettleEnd c s
  | .pilotPass c => Sys2Proof.Machine.execPilotPass c s
  | .fillHold c => Sys2Proof.Machine.execFillHold c s
  | .fillTimeout c => Sys2Proof.Machine.execFillTimeout c s
  | .blockWindow c zeros pick => Sys2Proof.Machine.execBlockWindow c zeros pick s
  | .checkEnd c zeros => Sys2Proof.Machine.execCheckEnd c zeros s
  | .rejectExpiry c => Sys2Proof.Machine.execRejectExpiry c s
  | .lossOfPilots c => Sys2Proof.Machine.execLossOfPilots c s
  | .setupCheck c => Sys2Proof.Machine.execSetupCheck c s
  | .acqRestart c => Sys2Proof.Machine.execAcqRestart c s
  | .preempt c => Sys2Proof.Machine.execPreempt c s
  | .acqThreshWrite v => Sys2Proof.Machine.execAcqThreshWrite v s
  | .startupEnd c => Sys2Proof.Machine.execStartupEnd c s
  | .pairStart st => Sys2Proof.Machine.execPairStart st s
  | .calibrationRunEnd st x => Sys2Proof.Machine.execCalibrationRunEnd st x s
  | .correctionStep st => Sys2Proof.Machine.execCorrectionStep st s
  | .store_ => Sys2Proof.Machine.execStore_ s
  | .storeJob => Sys2Proof.Machine.execStoreJob s
  | .storeInvalidated => Sys2Proof.Machine.execStoreInvalidated s
  | .storeWritten => Sys2Proof.Machine.execStoreWritten s
  | .storeVerified right => Sys2Proof.Machine.execStoreVerified right s
  | .storeCommitted => Sys2Proof.Machine.execStoreCommitted s
  | .mapWrite c v => Sys2Proof.Machine.execMapWrite c v s
  | .tabselWrite c v => Sys2Proof.Machine.execTabselWrite c v s
  | .binselWrite v => Sys2Proof.Machine.execBinselWrite v s
  | .qualificationSecond x => Sys2Proof.Machine.execQualificationSecond x s
  | .los k => Sys2Proof.Machine.execLos k s
  | .refActive k => Sys2Proof.Machine.execRefActive k s
  | .bandwidthStep => Sys2Proof.Machine.execBandwidthStep s
  | .sampleEligible => Sys2Proof.Machine.execSampleEligible s
  | .pulldone => Sys2Proof.Machine.execPulldone s
  | .ringLinkUp => Sys2Proof.Machine.execRingLinkUp s
  | .ringLinkDown x => Sys2Proof.Machine.execRingLinkDown x s
  | .wicketOpen => Sys2Proof.Machine.execWicketOpen s
  | .wicketClose => Sys2Proof.Machine.execWicketClose s
  | .ringSync m at_ => Sys2Proof.Machine.execRingSync m at_ s
  | .ringState m => Sys2Proof.Machine.execRingState m s
  | .ringDelay m => Sys2Proof.Machine.execRingDelay m s
  | .stateSend => Sys2Proof.Machine.execStateSend s
  | .peerTimeout p => Sys2Proof.Machine.execPeerTimeout p s
  | .timOutWrite v => Sys2Proof.Machine.execTimOutWrite v s
  | .scrubRead b word upset => Sys2Proof.Machine.execScrubRead b word upset s
  | .testBlock b fails => Sys2Proof.Machine.execTestBlock b fails s
  | .bucketLeak b => Sys2Proof.Machine.execBucketLeak b s
  | .bistStart b => Sys2Proof.Machine.execBistStart b s
  | .clearDone b => Sys2Proof.Machine.execClearDone b s
  | .memClaim b => Sys2Proof.Machine.execMemClaim b s
  | .memRelease b => Sys2Proof.Machine.execMemRelease b s
  | .accWrite b word poison coll => Sys2Proof.Machine.execAccWrite b word poison coll s
  | .accRead b word upset => Sys2Proof.Machine.execAccRead b word upset s
  | .logWrite => Sys2Proof.Machine.execLogWrite s
  | .logClr => Sys2Proof.Machine.execLogClr s
  | .injArm v => Sys2Proof.Machine.execInjArm v s
  | .logselWrite v => Sys2Proof.Machine.execLogselWrite v s
  | .railGood r late => Sys2Proof.Machine.execRailGood r late s
  | .railFall r => Sys2Proof.Machine.execRailFall r s
  | .railReturn r => Sys2Proof.Machine.execRailReturn r s
  | .vaonFail => Sys2Proof.Machine.execVaonFail s
  | .aonMonitor ok => Sys2Proof.Machine.execAonMonitor ok s
  | .dwellExpiry n => Sys2Proof.Machine.execDwellExpiry n s
  | .entryEnd n px po => Sys2Proof.Machine.execEntryEnd n px po s
  | .wake n src => Sys2Proof.Machine.execWake n src s
  | .wakeEnd n => Sys2Proof.Machine.execWakeEnd n s
  | .wholdExpiry n => Sys2Proof.Machine.execWholdExpiry n s
  | .i2cAddressMatch => Sys2Proof.Machine.execI2cAddressMatch s
  | .pwrTimerWrite v => Sys2Proof.Machine.execPwrTimerWrite v s
  | .timer => Sys2Proof.Machine.execTimer s
  | .xoInStop => Sys2Proof.Machine.execXoInStop s
  | .xoInReturn => Sys2Proof.Machine.execXoInReturn s
  | .modelAdvance x => Sys2Proof.Machine.execModelAdvance x s
  | .thermalEvaluation => Sys2Proof.Machine.execThermalEvaluation s
  | .stepUp => Sys2Proof.Machine.execStepUp s
  | .stepRelease => Sys2Proof.Machine.execStepRelease s
  | .trip => Sys2Proof.Machine.execTrip s
  | .tripClear => Sys2Proof.Machine.execTripClear s
  | .reinstate mask => Sys2Proof.Machine.execReinstate mask s
  | .reinstateEnd d => Sys2Proof.Machine.execReinstateEnd d s
  | .powerOnReset => Sys2Proof.Machine.execPowerOnReset s
  | .resetN => Sys2Proof.Machine.execResetN s
  | .vcoreLow => Sys2Proof.Machine.execVcoreLow s
  | .vioLow => Sys2Proof.Machine.execVioLow s
  | .hostcold key => Sys2Proof.Machine.execHostcold key s
  | .hostwarm key => Sys2Proof.Machine.execHostwarm key s
  | .criticalStateError u => Sys2Proof.Machine.execCriticalStateError u s
  | .lockout => Sys2Proof.Machine.execLockout s
  | .bringUp x => Sys2Proof.Machine.execBringUp x s
  | .warmBringUp failing => Sys2Proof.Machine.execWarmBringUp failing s
  | .noxo => Sys2Proof.Machine.execNoxo s
  | .release => Sys2Proof.Machine.execRelease s
  | .flashLoadEnd x => Sys2Proof.Machine.execFlashLoadEnd x s
  | .hkaGo => Sys2Proof.Machine.execHkaGo s
  | .hkaConfigWrite scan v => Sys2Proof.Machine.execHkaConfigWrite scan v s
  | .hkaSample bits => Sys2Proof.Machine.execHkaSample bits s
  | .conversionEnd => Sys2Proof.Machine.execConversionEnd s
  | .hkaDataRead => Sys2Proof.Machine.execHkaDataRead s
  | .write addr word => Sys2Proof.Machine.execWrite addr word s
  | .read addr cut => Sys2Proof.Machine.execRead addr cut s
  | .writeinc addr words cut => Sys2Proof.Machine.execWriteinc addr words cut s
  | .readinc addr n cut => Sys2Proof.Machine.execReadinc addr n cut s
  | .status => Sys2Proof.Machine.execStatus s
  | .post => Sys2Proof.Machine.execPost s
  | .ack => Sys2Proof.Machine.execAck s
  | .version => Sys2Proof.Machine.execVersion s
  | .pmget => Sys2Proof.Machine.execPmget s
  | .pmlast => Sys2Proof.Machine.execPmlast s
  | .pop => Sys2Proof.Machine.execPop s
  | .i2cWrite index v => Sys2Proof.Machine.execI2cWrite index v s
  | .i2cRead index => Sys2Proof.Machine.execI2cRead index s
  | .idcode => Sys2Proof.Machine.execIdcode s
  | .samplePreload cells => Sys2Proof.Machine.execSamplePreload cells s
  | .extest => Sys2Proof.Machine.execExtest s
  | .extestPulse => Sys2Proof.Machine.execExtestPulse s
  | .extestTrain => Sys2Proof.Machine.execExtestTrain s
  | .clamp => Sys2Proof.Machine.execClamp s
  | .highz => Sys2Proof.Machine.execHighz s
  | .debug => Sys2Proof.Machine.execDebug s
  | .ciptest => Sys2Proof.Machine.execCiptest s
  | .bypass => Sys2Proof.Machine.execBypass s
  | .testLogicReset => Sys2Proof.Machine.execTestLogicReset s
  | .pmcClr k => Sys2Proof.Machine.execPmcClr k s
  | .clrall => Sys2Proof.Machine.execClrall s
  | .pmcSelWrite k v => Sys2Proof.Machine.execPmcSelWrite k v s
  | .hostTransmit g skip => Sys2Proof.Machine.execHostTransmit g skip s
  | .publishedSuperframeBoundary => Sys2Proof.Machine.execPublishedSuperframeBoundary s
  | .undefinedOpcode e => Sys2Proof.Machine.execUndefinedOpcode e s
  | .spiUndefinedCommand code => Sys2Proof.Machine.execSpiUndefinedCommand code s
  | .badcmd => Sys2Proof.Machine.execBadcmd s
  | .periodBoundary st => Sys2Proof.Machine.execPeriodBoundary st s

end Sys2Proof.Machine
end

