-- ==== Sys2Proof/Machine/Tick.lean ====
section
/-! DEFINITION. What passes in a microsecond in which no command waits: the tick sources of AON and the wake timer, device
time, the counters of levels, the core's utilisation, the steps of an MTP write, test patterns on HTX (log entries 43 and 83). Everything else that time brings is a command. -/

namespace Sys2Proof.Machine

open Reg

/-! ## Tick sources of AON (R465, R608) -/

/-- Quarter periods of XO_IN in a microsecond, at the CLK_MODE frequency (R497). -/
def State.xoRate (s : State) : Nat :=
  match s.get RST_STRAP_CLK_MODE with
  | 0 => 100
  | 1 => 200
  | 2 => 400
  | _ => 625

/-- A decrement of PWR_TIMER.MS falls due for every whole millisecond counted since the last, in fs (R608). -/
def State.timerCount (s : State) (fs : Nat) : State :=
  if s.clk.timerOn then
    let t := s.clk.timerFs + fs
    if t < 1000000000000 then { s with clk := { s.clk with timerFs := t } }
    else
      let s := ({ s with clk := { s.clk with timerFs := t - 1000000000000 } }).set PWR_TIMER_MS (s.get PWR_TIMER_MS - 1)
      if s.get PWR_TIMER_MS = 0 then s.timerFires else s
  else s

/-- A microsecond on XO_IN: 4,096 periods make a tick. -/
def State.xoTick (s : State) : State :=
  let q := s.clk.xoQuarters + s.xoRate
  if q < 16384 then { s with clk := { s.clk with xoQuarters := q } }
  else ({ s with clk := { s.clk with xoQuarters := q - 16384
                                     nx := if s.clk.asleep then s.clk.nx + 1 else s.clk.nx } }).timerCount
         (16384 * 1000000000 / s.xoRate)

/-- A microsecond on the internal oscillator of 32,768 Hz. -/
def State.oscTick (s : State) : State :=
  let u := s.clk.oscUnits + 32768
  if u < 1000000 then { s with clk := { s.clk with oscUnits := u } }
  else ({ s with clk := { s.clk with oscUnits := u - 1000000
                                     no := if s.clk.asleep then s.clk.no + 1 else s.clk.no } }).timerCount 30517578125

/-- A microsecond in AON: one source is counted at a time. -/
def State.aonTick (s : State) : State := if s.clk.xoRuns then s.xoTick else s.oscTick

/-! ## Device time and what follows it (R107, R109, R557, R559) -/

/-- Device time counts: from the output clock, once the device is up, except while MGT sleeps. -/
def State.timeRuns (s : State) : Bool := s.ready && s.clk.xoRuns && !s.clk.asleep

/-- A whole second of device time is over: UTIL shows how much of it the core was busy (R109), and a
second less of wait-to-restore remains (log entry 75). -/
def State.utilise (s : State) : State :=
  let t := s.clk.dev / 1000000000
  if t = s.clk.second then s
  else
    let s := s.set MGT_LOAD_UTIL (min 100 (s.mgt.busyUs / 10000))
    let s := s.wtrCount
    { s with clk := { s.clk with second := t }, mgt := { s.mgt with busyUs := 0 } }

/-- What MTP brings by itself (R377, R383, R613): a store falls due when MININT has passed (`was`: it had before), the commit word of a store in COMMIT begins to be
written, a transition on its turn makes its commit. -/
def State.mtpTick (s : State) (was : Bool) : State :=
  let s := s.nowDue was
  let s : State := if s.get CNV_MTP_STATE = 5 then { s with cnv := { s.cnv with committing := true } } else s
  s.lcsCommit

/-- A microsecond of device time; at its end the oldest event record is one that reads without poison (R438). -/
def State.devTick (s : State) : State :=
  let was := s.minintOver
  let s := ({ s with clk := { s.clk with dev := (s.clk.dev + 1000) % 2 ^ 64 } }).seeBusy
  let s := { s with mgt := { s.mgt with busyUs := s.mgt.busyUs + s.mgt.busy.toNat } }
  ((((((s.pmcTicks 100).pmc 0x3F 0 1).utilise).mtpTick was).genTick).ringGap).evqClean 4096

/-- A microsecond passes. -/
def State.tick (s : State) : State :=
  let s := s.aonTick
  if s.timeRuns then s.devTick else s

end Sys2Proof.Machine
end

