-- ==== Sys2Proof/WellFormed.lean ====
section
/-! DEFINITION. Which operands can occur: the types say most of it, this the rest (lists of a fixed length, moments that are
not 0, codes that a table leaves out). Every other command is well formed. -/

namespace Sys2Proof

/-- The command's operands can occur. -/
def Instr.wf : Instr → Bool
  | .spiUndefinedCommand code => !([0x02, 0x03, 0x05, 0x12, 0x13].contains code.toNat)
  | .criticalStateError u => decide (u.val ≠ 0)
  | .bringUp x => x.wf
  | .flashLoadEnd x => x.wf
  | .modelAdvance x => x.wf
  | .qualificationSecond x => x.wf
  | .calibrationRunEnd _ x => x.wf
  | .hkaSample bits => decide (bits.length ≤ 128)
  | .rsCodeword _ info parity => info.length == 2570 && parity.length == 150
  | _ => true

end Sys2Proof
end

