-- ==== Sys2Proof/Safety.lean ====
section
/-! DEFINITION. The words in which claims speak of a step: what it leaves, what it posts, and when an engine's next instruction
starts. -/

namespace Sys2Proof.Machine

open Reg

/-! ## What a step leaves -/

/-- The parts of the state, by their names in State. -/
inductive Part where
  | pending
  | gradeX
  | flds
  | shadow
  | mem
  | evq
  | clk
  | polders
  | rails
  | rst
  | mtp
  | cip
  | carA
  | carB
  | frameClk
  | pairProt
  | tribs
  | policies
  | refset
  | powerDescs
  | refusals
  | lanes
  | groups
  | poolA
  | poolB
  | engines
  | mgt
  | thm
  | adc
  | ports
  | lineA
  | lineB
  | acqA
  | acqB
  | cnv
  | tim
  | freeN
deriving DecidableEq, Repr

/-- A part is the same in two states. -/
def Part.same : Part → State → State → Prop
  | .pending, s, t => t.pending = s.pending
  | .gradeX, s, t => t.gradeX = s.gradeX
  | .flds, s, t => t.flds = s.flds
  | .shadow, s, t => t.shadow = s.shadow
  | .mem, s, t => t.mem = s.mem
  | .evq, s, t => t.evq = s.evq
  | .clk, s, t => t.clk = s.clk
  | .polders, s, t => t.polders = s.polders
  | .rails, s, t => t.rails = s.rails
  | .rst, s, t => t.rst = s.rst
  | .mtp, s, t => t.mtp = s.mtp
  | .cip, s, t => t.cip = s.cip
  | .carA, s, t => t.carA = s.carA
  | .carB, s, t => t.carB = s.carB
  | .frameClk, s, t => t.frameClk = s.frameClk
  | .pairProt, s, t => t.pairProt = s.pairProt
  | .tribs, s, t => t.tribs = s.tribs
  | .policies, s, t => t.policies = s.policies
  | .refset, s, t => t.refset = s.refset
  | .powerDescs, s, t => t.powerDescs = s.powerDescs
  | .refusals, s, t => t.refusals = s.refusals
  | .lanes, s, t => t.lanes = s.lanes
  | .groups, s, t => t.groups = s.groups
  | .poolA, s, t => t.poolA = s.poolA
  | .poolB, s, t => t.poolB = s.poolB
  | .engines, s, t => t.engines = s.engines
  | .mgt, s, t => t.mgt = s.mgt
  | .thm, s, t => t.thm = s.thm
  | .adc, s, t => t.adc = s.adc
  | .ports, s, t => t.ports = s.ports
  | .lineA, s, t => t.lineA = s.lineA
  | .lineB, s, t => t.lineB = s.lineB
  | .acqA, s, t => t.acqA = s.acqA
  | .acqB, s, t => t.acqB = s.acqB
  | .cnv, s, t => t.cnv = s.cnv
  | .tim, s, t => t.tim = s.tim
  | .freeN, s, t => t.freeN = s.freeN

/-- The parts that belong to a carrier: 0 is A, any other number B. -/
def Part.ofCar (c : Nat) : Part := if c = 0 then .carA else .carB
def Part.ofPool (c : Nat) : Part := if c = 0 then .poolA else .poolB
def Part.ofLine (c : Nat) : Part := if c = 0 then .lineA else .lineB
def Part.ofAcq (c : Nat) : Part := if c = 0 then .acqA else .acqB

/-- Every part of the state but those listed is unchanged. -/
def Keeps (l : List Part) (s t : State) : Prop := ∀ p : Part, p ∉ l → p.same s t

/-- Every byte of the banks reads as before. -/
def SameBytes (s t : State) : Prop := ∀ a, Memory.read t.mem.bytes a = Memory.read s.mem.bytes a

/-- The keys of listed fields. -/
def among (l : List Fld) (k : Nat) : Bool := l.any (fun g => g.key == k)

/-- The keys of the fields of the performance counters, 0x000A_0000 to 0x000A_FFFF (R555). -/
def ofPmc (k : Nat) : Bool := k / 0x200000 == 0x0A

/-- The keys of the fields that posting an event may write beside the queue: the performance counters, the notes of a discarded
event (R539), and the state of an engine whose EVWAIT it ends (R47). -/
def ofEvents (k : Nat) : Bool :=
  ofPmc k || among [MGT_EVQ_STAT_DROP, GLB_INT_DROP, SLU_ENG_STATUS_STATE 0, SLU_ENG_STATUS_STATE 1, SLU_ENG_STATUS_STATE 2,
    SLU_ENG_STATUS_STATE 3] k

/-- Every register field but those with a key of a set is unchanged. -/
def KeepsFlds (out : Nat → Bool) (s t : State) : Prop := ∀ f : Fld, out f.key = false → t.get f = s.get f

/-- Nothing but the listed register fields changes. -/
def Only (l : List Fld) (s t : State) : Prop := Keeps [.flds] s t ∧ KeepsFlds (among l) s t

/-- Nothing changes but the listed register fields, the listed parts, and what posting events changes: the queue and the engines
that wait for an event. -/
def OnlyPosting (l : List Fld) (ps : List Part) (s t : State) : Prop :=
  Keeps ([.flds, .evq, .engines] ++ ps) s t ∧ KeepsFlds (fun k => ofEvents k || among l k) s t

/-- The keys of the fields that a wake may write: those of events, of the polders (block 0x0002) and the status of the host lanes
(0x0010_0004 + 0x40 × n). -/
def ofNeeds (k : Nat) : Bool := ofEvents k || k / 0x200000 == 0x02 || (k / 0x200000 == 0x10 && k / 32 % 0x40 == 4)

/-- Nothing changes but the listed register fields, the listed parts, and what needs that begin change (R24, R459): polders that
wake, the events that say so, and what waits for either. -/
def OnlyNeeding (l : List Fld) (ps : List Part) (s t : State) : Prop :=
  Keeps ([.flds, .evq, .polders, .lanes, .engines, .mgt] ++ ps) s t ∧ KeepsFlds (fun k => ofNeeds k || among l k) s t

/-- The keys of the fields that host lanes and groups may write: those of events and of block 0x0010. -/
def ofHost (k : Nat) : Bool := ofEvents k || k / 0x200000 == 0x10

/-- Nothing changes but the listed parts and what host lanes and groups change: their registers and what stands behind them, the
fill of transmit tributaries, events and what waits for them. -/
def OnlyHost (ps : List Part) (s t : State) : Prop :=
  Keeps ([.flds, .evq, .engines, .tribs, .lanes, .groups] ++ ps) s t ∧ KeepsFlds ofHost s t

/-- The keys of the fields of events and of some blocks of registers, each of 0x1_0000 addresses. -/
def ofBlocks (bs : List Nat) (k : Nat) : Bool := ofEvents k || bs.contains (k / 0x200000)

/-- Nothing changes but register fields of some blocks, the listed parts, and what posting events changes. -/
def OnlyBlocks (bs : List Nat) (ps : List Part) (s t : State) : Prop :=
  Keeps ([.flds, .evq, .engines] ++ ps) s t ∧ KeepsFlds (ofBlocks bs) s t

/-- The device is ready and the register's polder is on: a write reaches the register (R454, R499). -/
def Reaches (s : State) (a : Nat) : Prop := s.ready = true ∧ s.regOn a = true

/-- Registers whose write is decided by the access types of their fields alone (R8): the scratch register, the interrupt enables, the
identification, and the event registers of the memory, of each polder and of each host lane. -/
def plainRegs : List Nat :=
  [adr_GLB_SCRATCH, adr_GLB_INTEN, adr_GLB_ID, adr_ECC_EVENT] ++ (List.range 13).map adr_PWR_PD_EVENT
    ++ (List.range 28).map adr_HLN_LANE_EVENT

/-! ## Events -/

/-- The item words of an event about an object: its TAG first (R537). -/
def State.itemsOf (s : State) (handle : Nat) (items : List Nat) : List Nat :=
  (match (if handle = 0 then none else s.descOf handle) with
    | some d => [dfld d 0 0 32]
    | none => []) ++ items

/-- With MGT on and room in the queue, the event is in the queue as its newest record, with the source's sequence number, the
device time and the shutter step of the first state (R536, R537, R539). -/
def Posted (s t : State) (src code handle : Nat) (items : List Nat) : Prop :=
  s.mgtOn = true → s.evq.recs.length + 1 + contOf (s.itemsOf handle items) ≤ 4096 →
    t.evq.recs = s.evq.recs ++ eventRecords s.clk.dev src code s.shutter (s.source src).seq handle (s.source src).lost
      (s.itemsOf handle items)

/-- The same, where further events may follow in the same step. -/
def PostedFirst (s t : State) (src code handle : Nat) (items : List Nat) : Prop :=
  s.mgtOn = true → s.evq.recs.length + 1 + contOf (s.itemsOf handle items) ≤ 4096 →
    (s.evq.recs ++ eventRecords s.clk.dev src code s.shutter (s.source src).seq handle (s.source src).lost
      (s.itemsOf handle items)) <+: t.evq.recs

/-! ## Instructions of an engine -/

/-- The next word of an engine has this opcode and starts without a fault: nothing holds it (R46, R85, R89, R90), it lies in the
code area and is not poisoned, it passes the checks of R56, and no word in flight stands at its place. -/
def Starts (s : State) (e op : Nat) : Prop :=
  s.canStart e = true ∧ opOf (s.nextWord e) = op ∧ (s.eng e).next < s.codeLen (s.eng e).bank
    ∧ s.wordPoison ((s.eng e).codeAddr (s.eng e).next) = false ∧ s.startFault e (s.nextWord e) = none
    ∧ ∀ en ∈ (s.eng e).entries, en.pc ≠ (s.eng e).next

/-- Nothing but one engine changes, and the performance counters. -/
def OnlyEngine (e : Nat) (s t : State) : Prop :=
  Keeps [.flds, .engines] s t ∧ KeepsFlds ofPmc s t ∧ ∀ k, k ≠ e → t.eng k = s.eng k

/-- The working registers of an engine after one of them is written (R42): w0 stays 0. -/
def Writes (s t : State) (e r v : Nat) : Prop :=
  ∀ q, (t.eng e).reg q = if q = r ∧ q ≠ 0 then v else (s.eng e).reg q

/-- A data instruction at the next place of an engine has completed with a result for w[D], and nothing else changed. -/
def DataResult (s t : State) (e v : Nat) : Prop :=
  OnlyEngine e s t ∧ Writes s t e (dOf (s.nextWord e)) v ∧ (t.eng e).pc = (s.eng e).next + 1 ∧ (t.eng e).bank = (s.eng e).bank

/-- A control instruction at the next place of an engine has gone on to a word, and nothing else changed. -/
def GoesTo (s t : State) (e target : Nat) : Prop :=
  OnlyEngine e s t ∧ (t.eng e).pc = target ∧ (t.eng e).bank = (s.eng e).bank

/-- Nothing changes but one engine, its state where a HALT behind it retires, and the performance counters. -/
def OnlyEngineState (e : Nat) (s t : State) : Prop :=
  Keeps [.flds, .engines] s t ∧ KeepsFlds (fun k => ofPmc k || among [SLU_ENG_STATUS_STATE e] k) s t
    ∧ ∀ k, k ≠ e → t.eng k = s.eng k

/-- Nothing changes but one engine, its state, the performance counters, and the listed parts. -/
def OnlyEngineAnd (e : Nat) (ps : List Part) (s t : State) : Prop :=
  Keeps ([.flds, .engines] ++ ps) s t ∧ KeepsFlds (fun k => ofPmc k || among [SLU_ENG_STATUS_STATE e] k) s t
    ∧ ∀ k, k ≠ e → t.eng k = s.eng k

/-- An instruction's effect is taken now: its word is legal and names a handle that its opcode accepts (R39, R52), and either it is in
flight behind no HALT with its effect still due, or it is the next word and starts. `en` is its entry and `u` the state in which it
acts. -/
def Takes (s : State) (op e p : Nat) (en : Entry) (u : State) : Prop :=
  legal en.word = true ∧ (namesHandle op = true → handleOk op (namedHandle en.word en.a) = true)
    ∧ (((s.eng e).entries.find? (fun x => x.pc == p || opOf x.word == 0x01) = some en ∧ opOf en.word = op ∧ en.taken = false
          ∧ en.completed = false ∧ en.waits = [] ∧ u = s)
      ∨ (Starts s e op ∧ (s.eng e).next = p ∧ u = s.pushEntry e en
          ∧ en = (s.eng e).entryOf p (s.nextWord e) (if copiesWords op then s.argWords (s.nextWord e) else [])))

/-- The instruction at a place has completed with a result, which w[D] holds unless D is w0 (R42, R54, R87). -/
def Completed (t : State) (e p : Nat) (en : Entry) (v : Nat) : Prop :=
  (t.eng e).reg (dOf en.word) = (if dOf en.word = 0 then 0 else v % 2 ^ 64)
    ∧ ∀ x ∈ (t.eng e).entries, x.pc = p → x.completed = true

/-- The instruction at a place has taken its effect and waits (R86, R87). -/
def Awaits (t : State) (e p : Nat) (ws : List Wait) : Prop := ∃ x ∈ (t.eng e).entries, x.pc = p ∧ x.taken = true ∧ x.waits = ws

end Sys2Proof.Machine
end

