-- ==== Sys2Proof/Certificates/Slice0/Obligations.lean ====
section
/-! DEFINITION. The statements about the block. Each says where its commands complete and what they leave; clauses over one input are
conjoined. A clause that rests on a choice of the model names its log entry. -/

open Sys2Proof Sys2Proof.Machine Sys2Proof.Machine.Reg Host

/-- A step takes the command at the front of the queue and answers what exec answers for it with the rest of the queue; with an empty queue a
microsecond passes. -/
def Obligations.StepTakesFront : Prop := ∀ (s : State),
  (∀ i rest, step { s with pending := i :: rest } = exec i { s with pending := rest })
  ∧ (s.pending = [] → step s = .next s.tick)

/-- A command whose operands can occur always answers a next state; any other one faults, and none is refused. -/
def Obligations.WellFormedCommandsRun : Prop := ∀ (i : Instr) (s : State),
  (i.wf = true → ∃ t, exec i s = .next t) ∧ (i.wf = false → exec i s = .fault .illFormed)

/-- R11, R27, R81, R424, R445, R457, R492: right after power-on reset no command waits, every register field but HOLD of AON, MGT, SLU and
MEM23 and the owners of the fixed banks reads the reset value of its table, READY is 0, the engines are IDLE with nothing in flight, no
object is bound and every byte of the banks reads 0. -/
def Obligations.ResetState : Prop :=
  State.reset.pending = [] ∧ State.reset.ready = false
  ∧ (∀ f : Fld, (resetFields.map (fun p => p.1)).contains f.key = false → State.reset.get f = f.rst)
  ∧ (∀ n, n < 40 → State.reset.get (PWR_PD_STATUS_HOLD n) = if n = 0 ∨ n = 1 ∨ n = 2 ∨ n = 39 then 1 else 0)
  ∧ (∀ b, b < 192 → State.reset.owner b = if b < 187 then 0 else if b = 187 then 2 else 1)
  ∧ (∀ e, e < 4 → State.reset.engState e = 1 ∧ (State.reset.eng e).entries = [])
  ∧ (∀ c, (State.reset.car c).ost = .unbound) ∧ (∀ d n, (State.reset.trib d n).ost = .unbound)
  ∧ State.reset.policies = [] ∧ State.reset.refset = none
  ∧ ∀ a, Memory.read State.reset.mem.bytes a = 0

/-- R8, R10, R454, R499: a register write before READY, at an address that names no register or at an unassigned one changes nothing; with the
polder off it counts in PWR_OFFACC alone; otherwise, in a register that its access types alone decide, each RW field takes its bits, each
W1C bit written 1 is cleared, and every other field stays. -/
def Obligations.RegisterWrites : Prop := ∀ (a v : W32) (s : State),
  (s.ready = false ∨ a.toNat % 4 ≠ 0 → exec (.registerWrite a v) s = .next s)
  ∧ (s.ready = true → a.toNat % 4 = 0 → s.regOn a.toNat = false → ∃ t, exec (.registerWrite a v) s = .next t
      ∧ t.get PWR_OFFACC_COUNT = min (2 ^ 32 - 1) (s.get PWR_OFFACC_COUNT + 1) % 2 ^ 32 ∧ Only [PWR_OFFACC_COUNT] s t)
  ∧ (Reaches s a.toNat → regFields a.toNat = [] → exec (.registerWrite a v) s = .next s)
  ∧ (Reaches s a.toNat → a.toNat ∈ plainRegs → ∃ t, exec (.registerWrite a v) s = .next t
      ∧ Keeps [.flds] s t
      ∧ KeepsFlds (fun k => (regFields a.toNat).any (fun r => 32 * a.toNat + r.lo == k && (r.acc == .rw || r.acc == .w1c))) s t
      ∧ ∀ r ∈ regFields a.toNat,
          (r.acc = .rw → t.get ⟨a.toNat, r.lo, r.width, r.rst⟩ = fieldOf v.toNat r.lo r.width)
          ∧ (r.acc = .w1c → s.get ⟨a.toNat, r.lo, r.width, r.rst⟩ < 2 →
              t.get ⟨a.toNat, r.lo, r.width, r.rst⟩ = if bitOf v.toNat r.lo = 1 then 0 else s.get ⟨a.toNat, r.lo, r.width, r.rst⟩))

/-- R26, R424: every step from a state whose banks are in canonical form (addresses strictly rising, no listed byte equal to what an unlisted
address reads as) leaves them in canonical form. -/
def Obligations.MemoryStaysCanonical : Prop := ∀ (s t : State),
  Memory.wf s.mem.bytes = true → step s = .next t → Memory.wf t.mem.bytes = true

/-- R106, R107, R539: no step takes the event queue beyond its 4,096 records, the queue of mailbox commands beyond 16, nor the seconds that
wait for roll-up beyond 8. -/
def Obligations.QueuesBounded : Prop := ∀ (s t : State), step s = .next t →
  (s.evq.recs.length ≤ 4096 → t.evq.recs.length ≤ 4096)
  ∧ (s.mgt.mail.length ≤ 16 → t.mgt.mail.length ≤ 16) ∧ (s.mgt.seconds.length ≤ 8 → t.mgt.seconds.length ≤ 8)

/-- R52, R58: no step names a tributary above 1,023 where no tributary held so far, and no seal phase that waits, is above it. -/
def Obligations.TributariesInRange : Prop := ∀ (s t : State),
  let inRange (x : State) : Prop := (∀ q ∈ x.tribList, q.2 < 1024) ∧ ∀ c, ∀ p ∈ (x.car c).rx.phases, p.1 < 1024
  inRange s → step s = .next t → inRange t

/-- The invariants hold right after reset: memory in canonical form, no queue too long, no tributary out of range. -/
def Obligations.InvariantsAtReset : Prop :=
  Memory.wf State.reset.mem.bytes = true ∧ State.reset.evq.recs.length ≤ 4096
  ∧ State.reset.mgt.mail.length ≤ 16 ∧ State.reset.mgt.seconds.length ≤ 8
  ∧ (∀ q ∈ State.reset.tribList, q.2 < 1024) ∧ ∀ c, ∀ p ∈ (State.reset.car c).rx.phases, p.1 < 1024

/-- R42, R44, R45: the arithmetic instructions, started without a fault, write w[D] and nothing else; w0 stays 0. Arithmetic wraps modulo
2^64, shifts take w[B][5:0] and SHR fills with zeros. -/
def Obligations.ArithmeticResults : Prop := ∀ (e : Fin 4) (s : State),
  let w := s.nextWord e
  let a := (s.eng e).reg (aOf w)
  let b := (s.eng e).reg (brOf w)
  let n (v : Nat) : BitVec 64 := BitVec.ofNat 64 v
  let imm : BitVec 64 := (BitVec.ofNat 40 (bOf w)).signExtend 64
  (Starts s e 0x10 → ∃ t, exec (.movi e) s = .next t ∧ DataResult s t e (if bitOf w 48 = 1 then imm.toNat else bOf w))
  ∧ (Starts s e 0x11 → ∃ t, exec (.movih e) s = .next t
      ∧ DataResult s t e (fieldOf (bOf w) 0 24 * 2 ^ 40 + fieldOf a 0 40))
  ∧ (Starts s e 0x12 → ∃ t, exec (.addi e) s = .next t ∧ DataResult s t e (n a + imm).toNat)
  ∧ (Starts s e 0x13 → ∃ t, exec (.add e) s = .next t ∧ DataResult s t e (n a + n b).toNat)
  ∧ (Starts s e 0x14 → ∃ t, exec (.sub e) s = .next t ∧ DataResult s t e (n a - n b).toNat)
  ∧ (Starts s e 0x15 → ∃ t, exec (.and e) s = .next t ∧ DataResult s t e (n a &&& n b).toNat)
  ∧ (Starts s e 0x16 → ∃ t, exec (.or e) s = .next t ∧ DataResult s t e (n a ||| n b).toNat)
  ∧ (Starts s e 0x17 → ∃ t, exec (.xor e) s = .next t ∧ DataResult s t e (n a ^^^ n b).toNat)
  ∧ (Starts s e 0x18 → ∃ t, exec (.shl e) s = .next t ∧ DataResult s t e (n a <<< (b % 64)).toNat)
  ∧ (Starts s e 0x19 → ∃ t, exec (.shr e) s = .next t ∧ DataResult s t e (a / 2 ^ (b % 64) % 2 ^ 64))

/-- R41, R42, R45: NOP changes nothing but the place; JMP, BR, CALL and RET go to their target, CALL with the following word's index in w15;
the other working registers stay. R45, R46, R81: HALT retires and halts the engine when nothing else is in flight, and holds every later
instruction while something is; a WAIT holds every later instruction until its delay ends, and then retires. -/
def Obligations.ControlTransfers : Prop :=
  (∀ (e : Fin 4) (s : State),
  let w := s.nextWord e
  let x := s.eng e
  let a := x.reg (aOf w)
  let b := x.reg (brOf w)
  let sg (v : Nat) : Int := (BitVec.ofNat 64 v).toInt
  let same (t : State) : Prop := ∀ q, (t.eng e).reg q = x.reg q
  (Starts s e 0x00 → ∃ t, exec (.nop e) s = .next t ∧ GoesTo s t e (x.next + 1) ∧ same t)
  ∧ (Starts s e 0x02 → ∃ t, exec (.jmp e) s = .next t ∧ GoesTo s t e (fieldOf w 0 18) ∧ same t)
  ∧ (Starts s e 0x03 → a < 2 ^ 64 → b < 2 ^ 64 → ∃ t, exec (.br e) s = .next t ∧ same t ∧
      GoesTo s t e (if (fieldOf w 48 4 = 0 ∧ a = b) ∨ (fieldOf w 48 4 = 1 ∧ a ≠ b) ∨ (fieldOf w 48 4 = 2 ∧ sg a < sg b)
        ∨ (fieldOf w 48 4 = 3 ∧ sg b ≤ sg a) ∨ (fieldOf w 48 4 = 4 ∧ a < b) ∨ (fieldOf w 48 4 = 5 ∧ b ≤ a)
        then fieldOf w 0 18 else x.next + 1))
  ∧ (Starts s e 0x04 → ∃ t, exec (.call e) s = .next t ∧ GoesTo s t e (fieldOf w 0 18)
      ∧ Writes s t e 15 ((x.next + 1) % 2 ^ 64))
  ∧ (Starts s e 0x05 → ∃ t, exec (.ret e) s = .next t ∧ GoesTo s t e (x.reg 15 % 2 ^ 18) ∧ same t))
  ∧ (∀ (e : Fin 4) (s : State),
  (Starts s e 0x01 → (s.eng e).entries = [] → ∃ t, exec (.halt e) s = .next t
      ∧ t.engState e = 4 ∧ (t.eng e).entries = [] ∧ OnlyEngineState e s t ∧ ∀ q, (t.eng e).reg q = (s.eng e).reg q)
  ∧ (∀ h l, Starts s e 0x01 → (s.eng e).entries = h :: l → h.completed = false → isFence (opOf h.word) = false →
      ∃ t, exec (.halt e) s = .next t ∧ OnlyEngine e s t ∧ t.canStart e = false ∧ (∃ x ∈ (t.eng e).entries, opOf x.word = 0x01)
        ∧ ∀ q, (t.eng e).reg q = (s.eng e).reg q)
  ∧ (Starts s e 0x06 → ∃ t, exec (.wait e) s = .next t ∧ OnlyEngine e s t ∧ t.canStart e = false
      ∧ (t.eng e).entries.length = (s.eng e).entries.length + 1 ∧ ∀ q, (t.eng e).reg q = (s.eng e).reg q)
  ∧ (∀ en, (s.eng e).entries = [en] → en.waits = [.delay] → opOf en.word = 0x06 →
      ∃ t, exec (.waitExpiry e) s = .next t ∧ OnlyEngine e s t ∧ (t.eng e).entries = [] ∧ (t.eng e).pc = (s.eng e).pc
        ∧ ∀ q, (t.eng e).reg q = (s.eng e).reg q)
  ∧ ((∀ en ∈ (s.eng e).entries, .delay ∈ en.waits → opOf en.word = 0x06) → ∃ t, exec (.waitExpiry e) s = .next t
      ∧ (∀ en ∈ (t.eng e).entries, .delay ∉ en.waits) ∧ (t.eng e).pc = (s.eng e).pc ∧ OnlyEngineState e s t
      ∧ ∀ q, (t.eng e).reg q = (s.eng e).reg q))

/-- R43, R45, R79: LD reads the store word at w[A] + OFF into w[D] and changes no byte; ST writes w[D] there, clears its POISON, and changes
no byte outside that word; neither clears a bank's VALID. -/
def Obligations.LoadAndStore : Prop := ∀ (e : Fin 4) (s : State),
  let w := s.nextWord e
  let word := 188 * 65536 + (BitVec.ofNat 64 ((s.eng e).reg (aOf w)) + (BitVec.ofNat 24 (bOf w)).signExtend 64).toNat / 8
  (Starts s e 0x1A → Assoc.get 0 word s.mem.flips = 0 → s.wordPoison word = false →
    ∃ t, exec (.ld e) s = .next t ∧ DataResult s t e (readWord s.mem.bytes word % 2 ^ 64) ∧ SameBytes s t)
  ∧ (Starts s e 0x1B → ∃ t, exec (.st e) s = .next t ∧ Keeps [.flds, .mem, .engines] s t ∧ KeepsFlds ofPmc s t
      ∧ readWord t.mem.bytes word = (s.eng e).reg (dOf w) % 2 ^ 64
      ∧ t.wordPoison word = s.on (MEM_BANK_STATUS_CHKFAIL (word / 65536))
      ∧ (∀ a, a / 8 ≠ word → Memory.read t.mem.bytes a = Memory.read s.mem.bytes a)
      ∧ (∀ q, (t.eng e).reg q = (s.eng e).reg q) ∧ (t.eng e).pc = (s.eng e).next + 1)

/-- R48, R54: RDREG writes the register's word, zero-extended, to w[D], and a register without a field that a read clears stays as it was;
WRREG has the effect of a register write with w[D][31:0], and completes. R45, R54, R61: QUERY writes the state word of the object it
names, TIMERD the device time, and neither changes anything else. The state word shows the state of a carrier, of a directional tributary
(STOPPED where it is held at a limit) and the code of the latest refusal. A tributary named in both directions shows its transmit one (the
model's choice, log entry 39). -/
def Obligations.RegisterAndQueryInstructions : Prop :=
  (∀ (e : Fin 4) (p : BitVec 18) (s u : State) (en : Entry),
  let a := if bitOf en.word 48 = 1 then (fieldOf en.word 0 32 + en.a) % 2 ^ 32 else fieldOf en.word 0 32
  (Takes s 0x1C e p.toNat en u → ∃ t, exec (.rdreg e p) s = .next t
      ∧ Writes u t e (dOf en.word) ((u.regRead a).1 % 2 ^ 64)
      ∧ Keeps [.flds, .shadow, .engines] u t
      ∧ ((regFields a).all (fun r => r.acc != .rc) = true → u.regOn a = true →
          KeepsFlds (fun k => ofPmc k || among [SLU_ENG_STATUS_STATE e] k) u t))
  ∧ (Takes s 0x1D e p.toNat en u →
      exec (.wrreg e p) s = .next ((u.regWrite a (en.d % 2 ^ 32)).complete e p.toNat 0)))
  ∧ (∀ (e : Fin 4) (p : BitVec 18) (s u : State) (en : Entry),
  (Takes s 0x26 e p.toNat en u → ∃ t, exec (.query e p) s = .next t ∧ OnlyEngineState e u t
      ∧ Writes u t e (dOf en.word) (u.queryWord (namedHandle en.word en.a) % 2 ^ 64))
  ∧ (Takes s 0x42 e p.toNat en u → ∃ t, exec (.timerd e p) s = .next t ∧ OnlyEngineState e u t
      ∧ Writes u t e (dOf en.word) (u.clk.dev % 2 ^ 64))
  ∧ (∀ c, c < 2 → (u.queryWord (hCarrier c)) % 2 ^ 16 = (u.car c).ost.code
      ∧ u.queryWord (hCarrier c) / 2 ^ 16 % 2 ^ 16 = Assoc.get 0 (hCarrier c) u.refusals % 2 ^ 16)
  ∧ ∀ d n, d < 2 → n < 1024 → let x := u.trib d n
      (u.queryWord (hTrib d n)) % 2 ^ 16 = (if x.ost = .enabled ∧ x.stop ≠ 0 then 4 else x.ost.code)
      ∧ u.queryWord (hTrib d n) / 2 ^ 16 % 2 ^ 16 = Assoc.get 0 (hTrib d n) u.refusals % 2 ^ 16
      ∧ u.queryWord (hTrib d n) / 2 ^ 32 = u.get (TRB_T_PLACE_SLOTS d n)
      ∧ u.query (0x2000 + n) = u.query (hTrib 0 n))

/-- R45, R47, R538: EVPOST posts a program event with IMM[31:0] and w[A], and completes an EVWAIT of another engine on that source with 1; an
EVWAIT holds every later instruction, and completes with 0 when its timeout ends first. -/
def Obligations.EventInstructions : Prop := ∀ (e : Fin 4) (s : State),
  (∀ p u en, Takes s 0x70 e p en u → p < 2 ^ 18 → ∃ t, exec (.evpost e (BitVec.ofNat 18 p)) s = .next t
      ∧ Posted u t (0x80 + e) 0x01 0 [fieldOf en.word 0 32, en.a / 2 ^ 32, en.a % 2 ^ 32]
      ∧ (∀ x ∈ (t.eng e).entries, x.pc = p → x.completed = true)
      ∧ (∀ (k : Fin 4) x, k ≠ e → (u.eng k).entries = [x] → opOf x.word = 0x71 → x.waits = [.event (0x80 + e)] →
          (t.eng k).entries = [] ∧ Writes u t k (dOf x.word) 1)
      ∧ OnlyPosting [] [] u t)
  ∧ (Starts s e 0x71 → ∃ t, exec (.evwait e) s = .next t ∧ OnlyEngine e s t ∧ t.canStart e = false
      ∧ (∀ q, (t.eng e).reg q = (s.eng e).reg q)
      ∧ (∃ en ∈ (t.eng e).entries, en.pc = (s.eng e).next ∧ en.waits = [.event (fieldOf (s.nextWord e) 32 8)]))
  ∧ (∀ en, (s.eng e).entries = [en] → opOf en.word = 0x71 → en.completed = false → fieldOf en.word 0 32 ≠ 0 →
      ∃ t, exec (.evwaitTimeout e) s = .next t ∧ OnlyEngine e s t ∧ Writes s t e (dOf en.word) 0 ∧ (t.eng e).entries = [])
  ∧ (∀ en, (s.eng e).entries.find? (fun x => opOf x.word == 0x71 && !x.completed) = some en →
      (s.eng e).entries.find? (fun x => x.pc == en.pc) = some en → fieldOf en.word 0 32 ≠ 0 →
      ∃ t, exec (.evwaitTimeout e) s = .next t ∧ Writes s t e (dOf en.word) 0 ∧ Completed t e en.pc en 0 ∧ OnlyEngineState e s t)

/-- R89, R90: with an instruction of the kind that the fence waits for still in flight at the old end, a FENCE.ALL lets nothing start, a
FENCE.OBJ holds what names its object, a FENCE.IO holds register accesses; a fence completes once all that it waits for has completed, and
with nothing in flight it retires at once. R96: GLB_FENCE.SYNC changes no register but PEND, which reads 0 at once, since every earlier
write has taken effect (the model's choice, log entry 42). -/
def Obligations.Fences : Prop :=
  (∀ (e : Fin 4) (s : State),
  let obj := namedHandle (s.nextWord e) ((s.eng e).reg (aOf (s.nextWord e)))
  let fence (i : Instr) (op : Nat) (waitsFor : Entry → Bool) (holds : Entry → State → Prop) : Prop := Starts s e op →
    ∃ t, exec i s = .next t ∧ OnlyEngine e s t ∧ (∀ q, (t.eng e).reg q = (s.eng e).reg q)
      ∧ (t.eng e).pc = (s.eng e).next + 1
      ∧ ((s.eng e).entries = [] → (t.eng e).entries = [])
      ∧ ((s.eng e).faults = [] → (∀ x ∈ (s.eng e).entries, waitsFor x = true → x.completed = true) →
          ∀ x ∈ (t.eng e).entries, x.pc = (s.eng e).next → x.completed = true)
      ∧ ∀ h l, (s.eng e).entries = h :: l → h.completed = false → isFence (opOf h.word) = false → holds h t
  fence (.fenceAll e) 0x80 (fun _ => true) (fun _ t => t.canStart e = false)
  ∧ fence (.fenceObj e) 0x81 (fun x => x.names obj) (fun h t => ∀ k w a, h.handle = some k → sameObject k obj = true →
      namesHandle (opOf w) = true → sameObject (namedHandle w a) obj = true → fencesHold w a [] (t.eng e).entries = true)
  ∧ fence (.fenceIo e) 0x82 (fun x => opOf x.word == 0x1C || opOf x.word == 0x1D) (fun h t => ∀ w a,
      (opOf h.word = 0x1C ∨ opOf h.word = 0x1D) → (opOf w = 0x1C ∨ opOf w = 0x1D) → fencesHold w a [] (t.eng e).entries = true))
  ∧ (∀ (s : State), Reaches s 0x20 →
  ∃ t, exec .sync s = .next t ∧ t.get GLB_FENCE_PEND = 0 ∧ Only [GLB_FENCE_PEND] s t)

/-- R56, R57, R81, R102: a word with an undefined opcode faults ILLEGAL: the engine enters FAULTED, the fault is noted at the word, no
register is written and nothing else changes. R102, R103: once nothing is in flight in a FAULTED engine, FAULT_RECORD shows the oldest
fault, whether there were more, and which of the 64 words from it on completed, and posts the engine-fault event; a START that stands then
resumes the engine at that fault (the model's choice, log entry 78). -/
def Obligations.InstructionFaults : Prop :=
  (∀ (e : Fin 4) (s : State),
  s.canStart e = true → formatOfOp (opOf (s.nextWord e)) = none → (s.eng e).next < s.codeLen (s.eng e).bank →
  s.wordPoison ((s.eng e).codeAddr (s.eng e).next) = false →
  ∃ t, exec (.undefinedOpcode e) s = .next t ∧ t.engState e = 5 ∧ OnlyEngineState e s t
    ∧ (t.eng e).faults = (s.eng e).faults ++ [⟨(s.eng e).next, 1, 0x0801, 0⟩]
    ∧ (∀ q, (t.eng e).reg q = (s.eng e).reg q) ∧ t.canStart e = false)
  ∧ (∀ (e : Fin 4) (s : State) (f : FaultNote),
  (s.eng e).entries = [] → s.on (SLU_ENG_FLT0_VALID e) = false →
  f ∈ (s.eng e).faults → (∀ g ∈ (s.eng e).faults, g = f ∨ f.pc < g.pc) →
  let flt := [SLU_ENG_FLT0_VALID e, SLU_ENG_FLT0_MULTI e, SLU_ENG_FLT0_FCODE e, SLU_ENG_FLT0_FPC e, SLU_ENG_FLT1_REASON e,
    SLU_ENG_FLT1_HANDLE e, SLU_ENG_MASKLO_MASK e, SLU_ENG_MASKHI_MASK e]
  let items : List Nat := [e, 2 ^ 31 + (if (s.eng e).faults.length = 1 then 0 else 2 ^ 30) + f.code * 2 ^ 18 + f.pc % 2 ^ 18,
    f.reason * 2 ^ 16 + f.handle]
  (s.on (SLU_ENG_CTL_START e) = false ∨ s.engState e ≠ 5 → ∃ t, exec (.faultRecord e) s = .next t ∧ t.get (SLU_ENG_FLT0_VALID e) = 1
    ∧ t.get (SLU_ENG_FLT0_MULTI e) = (if (s.eng e).faults.length = 1 then 0 else 1)
    ∧ t.get (SLU_ENG_FLT0_FCODE e) = f.code % 2 ^ 8 ∧ t.get (SLU_ENG_FLT0_FPC e) = f.pc % 2 ^ 18
    ∧ t.get (SLU_ENG_FLT1_REASON e) = f.reason % 2 ^ 16 ∧ t.get (SLU_ENG_FLT1_HANDLE e) = f.handle % 2 ^ 16
    ∧ (∀ i, i < 64 → bitOf (t.get (SLU_ENG_MASKHI_MASK e) * 2 ^ 32 + t.get (SLU_ENG_MASKLO_MASK e)) i
        = if (s.eng e).doneMask.contains (f.pc + i) then 1 else 0)
    ∧ Posted s t 0x08 0x01 0 items ∧ OnlyPosting flt [] s t)
  ∧ (s.on (SLU_ENG_CTL_START e) = true → s.engState e = 5 → f.pc < 2 ^ 18 → ∃ t, exec (.faultRecord e) s = .next t
    ∧ t.engState e = 2 ∧ (t.eng e).pc = f.pc ∧ (t.eng e).regs = (s.eng e).regs ∧ (t.eng e).faults = []
    ∧ (∀ i, i < 64 → (t.eng e).skipWords.contains (f.pc + i)
        = ((s.eng e).doneMask.contains (f.pc + i) || (i == 0 && s.on (SLU_ENG_RESUME_SKIP e))))
    ∧ t.on (SLU_ENG_FLT0_VALID e) = false ∧ t.on (SLU_ENG_CTL_START e) = false ∧ PostedFirst s t 0x08 0x01 0 items
    ∧ OnlyNeeding (SLU_ENG_STATUS_STATE e :: SLU_ENG_CTL_START e :: SLU_ENG_RESUME_SKIP e :: flt) [] s t))

/-- R81, R104, R105: START from IDLE or HALTED runs a VALID bank from its ENTRY with cleared registers and no record, and from FAULTED it
resumes at FPC once its record is written; a bank that is not VALID leaves NOTVALID, and in any other state, or in debug halt, only BANK
changes. STOP and KILL drain a RUN or FAULTED engine, and a drained engine is IDLE. -/
def Obligations.EngineControl : Prop := ∀ (e bank : Fin 4) (s : State),
  let flt := [SLU_ENG_FLT0_VALID e, SLU_ENG_FLT0_MULTI e, SLU_ENG_FLT0_FCODE e, SLU_ENG_FLT0_FPC e, SLU_ENG_FLT1_REASON e,
    SLU_ENG_FLT1_HANDLE e, SLU_ENG_MASKLO_MASK e, SLU_ENG_MASKHI_MASK e]
  (Reaches s (0x80100 + 0x10 * e) → s.on GLB_STATUS_DEBUG = false →
    (s.engState e = 1 ∨ s.engState e = 4 → s.bit SLU_LOAD_STATUS_VALID bank = true → ∃ t, exec (.start e bank) s = .next t
      ∧ t.engState e = 2 ∧ t.eng e = { bank := bank, pc := s.entryWord bank % 2 ^ 18 }
      ∧ t.get (SLU_ENG_FLT0_VALID e) = 0 ∧ t.get (SLU_ENG_CTL_BANK e) = bank
      ∧ t.get (SLU_ENG_RESUME_SKIP e) = 0
      ∧ OnlyNeeding (SLU_ENG_STATUS_STATE e :: SLU_ENG_CTL_BANK e :: SLU_ENG_RESUME_SKIP e :: flt) [] s t)
    ∧ (s.engState e = 1 ∨ s.engState e = 4 → s.bit SLU_LOAD_STATUS_VALID bank = false → ∃ t, exec (.start e bank) s = .next t
      ∧ t.get SLU_LOAD_STATUS_LAST_ERR = 6 ∧ Only [SLU_ENG_CTL_BANK e, SLU_LOAD_STATUS_LAST_ERR] s t)
    ∧ (s.engState e = 5 → s.on (SLU_ENG_FLT0_VALID e) = true → ∃ t, exec (.start e bank) s = .next t
      ∧ t.engState e = 2 ∧ (t.eng e).pc = s.get (SLU_ENG_FLT0_FPC e) ∧ (t.eng e).regs = (s.eng e).regs
      ∧ (∀ i, i < 64 → ((t.eng e).skipWords.contains (s.get (SLU_ENG_FLT0_FPC e) + i) =
          (bitOf (s.get (SLU_ENG_MASKHI_MASK e) * 2 ^ 32 + s.get (SLU_ENG_MASKLO_MASK e)) i == 1
            || (i == 0 && s.on (SLU_ENG_RESUME_SKIP e)))))
      ∧ t.get (SLU_ENG_FLT0_VALID e) = 0 ∧ t.get (SLU_ENG_RESUME_SKIP e) = 0
      ∧ OnlyNeeding [SLU_ENG_STATUS_STATE e, SLU_ENG_CTL_BANK e, SLU_ENG_CTL_START e, SLU_ENG_RESUME_SKIP e, SLU_ENG_FLT0_VALID e] [] s t)
    ∧ (s.engState e = 5 → s.on (SLU_ENG_FLT0_VALID e) = false → ∃ t, exec (.start e bank) s = .next t
      ∧ t.on (SLU_ENG_CTL_START e) = true ∧ t.get (SLU_ENG_CTL_BANK e) = bank
      ∧ Only [SLU_ENG_CTL_BANK e, SLU_ENG_CTL_START e] s t))
  ∧ (Reaches s (0x80100 + 0x10 * e) → s.on GLB_STATUS_DEBUG = true ∨ s.engState e ∉ [1, 4, 5] →
      ∃ t, exec (.start e bank) s = .next t ∧ t.get (SLU_ENG_CTL_BANK e) = bank ∧ Only [SLU_ENG_CTL_BANK e] s t)
  ∧ (Reaches s (0x80100 + 0x10 * e) → s.engState e = 2 ∨ s.engState e = 5 →
      (∃ t, exec (.stop e) s = .next t ∧ t.engState e = 3 ∧ t.on (SLU_ENG_CTL_START e) = false
        ∧ Only [SLU_ENG_STATUS_STATE e, SLU_ENG_CTL_START e] s t)
      ∧ ∃ t, exec (.kill e) s = .next t ∧ t.engState e = 3 ∧ t.on (SLU_ENG_CTL_START e) = false
        ∧ Only [SLU_ENG_STATUS_STATE e, SLU_ENG_CTL_START e] s t)
  ∧ (Reaches s (0x80100 + 0x10 * e) → s.engState e ≠ 2 → s.engState e ≠ 5 → exec (.stop e) s = .next s ∧ exec (.kill e) s = .next s)
  ∧ (s.engState e = 3 → (s.eng e).entries = [] →
      ∃ t, exec (.engineDrained e) s = .next t ∧ t.engState e = 1 ∧ Only [SLU_ENG_STATUS_STATE e] s t)

/-- R75, R77, R78, R83: GO clears VALID and sets BUSY of its bank, or leaves LOCKED for a bank in use; at the end VALID is set exactly when
every header field is right, the CRC passes and no word is poisoned, and otherwise ERR. R76, R79: a host write through the window replaces
one half of a store word, clears the bank's VALID and ends a verification with DISTURBED; in a LOCKED bank it is discarded and noted in
WPHIT, and during a boot-flash load it is discarded. -/
def Obligations.ProgramStore : Prop :=
  (∀ (k : Fin 4) (s : State),
  let w (i : Nat) : Nat := readWord s.mem.bytes ((188 + k) * 65536 + i)
  let cw := fieldOf (w 1) 32 32
  let db := fieldOf (w 1) 0 32
  let bytes := 64 + (8 * cw + 63) / 64 * 64 + db
  let header := fieldOf (w 0) 32 32 = 0x524E4A4E ∧ fieldOf (w 0) 16 16 = 1 ∧ fieldOf (w 0) 0 16 = 0 ∧ 1 ≤ cw ∧ cw ≤ 65528
    ∧ db % 64 = 0 ∧ bytes ≤ 524288 ∧ fieldOf (w 2) 32 32 < cw ∧ fieldOf (w 2) 0 32 = 0 ∧ fieldOf (w 3) 0 32 = 0
    ∧ w 4 = 0 ∧ w 5 = 0 ∧ w 6 = 0 ∧ w 7 = 0
  let good := header ∧ crc32 (s.crcBytes k bytes) = fieldOf (w 3) 32 32
    ∧ ∀ i, i < bytes / 8 → s.wordPoison ((188 + k) * 65536 + i) = false
  (Reaches s 0x80000 → s.bit SLU_LOAD_STATUS_BUSY k = false → s.bankLocked k = false → ∃ t, exec (.sluLoadGo k) s = .next t
      ∧ t.bit SLU_LOAD_STATUS_VALID k = false ∧ t.bit SLU_LOAD_STATUS_BUSY k = true
      ∧ Only [SLU_LOAD_BANK, SLU_LOAD_STATUS_VALID, SLU_LOAD_STATUS_BUSY] s t)
  ∧ (Reaches s 0x80000 → s.bit SLU_LOAD_STATUS_BUSY k = false → s.bankLocked k = true → ∃ t, exec (.sluLoadGo k) s = .next t
      ∧ t.get SLU_LOAD_STATUS_LAST_ERR = 5 ∧ Only [SLU_LOAD_BANK, SLU_LOAD_STATUS_LAST_ERR] s t)
  ∧ (Reaches s 0x80000 → s.bit SLU_LOAD_STATUS_BUSY k = true → ∃ t, exec (.sluLoadGo k) s = .next t ∧ Only [SLU_LOAD_BANK] s t)
  ∧ (s.bit SLU_LOAD_STATUS_BUSY k = true → good → ∃ t, exec (.verificationEnd k) s = .next t
      ∧ t.bit SLU_LOAD_STATUS_VALID k = true ∧ t.bit SLU_LOAD_STATUS_BUSY k = false
      ∧ Only [SLU_LOAD_STATUS_VALID, SLU_LOAD_STATUS_BUSY] s t)
  ∧ (s.bit SLU_LOAD_STATUS_BUSY k = true → ¬good → ∃ t, exec (.verificationEnd k) s = .next t
      ∧ t.bit SLU_LOAD_STATUS_ERR k = true ∧ t.bit SLU_LOAD_STATUS_BUSY k = false
      ∧ Only [SLU_LOAD_STATUS_ERR, SLU_LOAD_STATUS_LAST_ERR, SLU_LOAD_STATUS_BUSY] s t))
  ∧ (∀ (i : BitVec 19) (v : W32) (s : State),
  let k := i.toNat / 131072
  let word := 188 * 65536 + i.toNat / 2
  let old := readWord s.mem.bytes word
  Reaches s (0x01000000 + 4 * i.toNat) →
  (s.rst.flashLoading = true → exec (.windowWrite i v) s = .next s)
  ∧ (s.rst.flashLoading = false → s.bankLocked k = false → Assoc.get 0 word s.mem.flips = 0 → ∃ t, exec (.windowWrite i v) s = .next t
      ∧ readWord t.mem.bytes word = (if i.toNat % 2 = 0 then old / 2 ^ 32 * 2 ^ 32 + v.toNat else v.toNat * 2 ^ 32 + old % 2 ^ 32)
      ∧ (∀ a, a / 8 ≠ word → Memory.read t.mem.bytes a = Memory.read s.mem.bytes a)
      ∧ t.bit SLU_LOAD_STATUS_VALID k = false ∧ t.bit SLU_LOAD_STATUS_BUSY k = false
      ∧ (s.bit SLU_LOAD_STATUS_BUSY k = true →
          t.bit SLU_LOAD_STATUS_ERR k = true ∧ t.get SLU_LOAD_STATUS_LAST_ERR = 7)
      ∧ Keeps [.flds, .mem] s t
      ∧ KeepsFlds (among [SLU_LOAD_STATUS_VALID, SLU_LOAD_STATUS_BUSY, SLU_LOAD_STATUS_ERR, SLU_LOAD_STATUS_LAST_ERR]) s t)
  ∧ (s.rst.flashLoading = false → s.bankLocked k = true → ∃ t, exec (.windowWrite i v) s = .next t
      ∧ t.bit SLU_LOAD_STATUS_WPHIT k = true ∧ Only [SLU_LOAD_STATUS_WPHIT] s t))

/-- R52, R54, R59, R62, R63, R98: BIND with EN 0 of a carrier, tributary or seal policy copies the descriptor, leaves the object BOUND and
completes with 0; with EN 1 a carrier or tributary that passes its checks is ENABLED under it. The policies of other indices stay. R52,
R54, R59, R62: UNBIND of a carrier, tributary or seal policy that nothing uses discards its descriptor and completes with 0; one of an
UNBOUND object has no other effect; the policies of other indices stay. -/
def Obligations.BindAndUnbind : Prop :=
  (∀ (e : Fin 4) (p : BitVec 18) (s u : State) (en : Entry),
  let h := namedHandle en.word en.a
  let i := h % 0x1000
  let n := h % 0x400
  let d := en.desc
  let car := u.setCar i { u.car i with ost := .bound, desc := d }
  let held := (dirsOf h).foldl (fun s x => s.holdDesc x n d) u
  Takes s 0x20 e p.toNat en u →
    (h / 0x1000 = 1 → (u.car i).active = false → u.carInUse i = false → cdEn d = false → carFieldsOk d = true →
      ∃ t, exec (.bind e p) s = .next t ∧ t.car i = { u.car i with ost := .bound, desc := d } ∧ Completed t e p.toNat en 0
        ∧ OnlyEngineAnd e [Part.ofCar i] u t)
    ∧ (h / 0x1000 = 1 → (u.car i).active = false → u.carInUse i = false → cdEn d = true → u.on GLB_STATUS_LIMITED = false →
      car.carCheck i d = 0 → u.mem.allocs.any (fun a => a.role == ownCONN && a.obj == hCarrier i) = true
        ∨ (car.placeConn (hCarrier i)).isSome = true →
      ∃ t, exec (.bind e p) s = .next t ∧ (t.car i).ost = .enabled ∧ (t.car i).desc = d ∧ Awaits t e p.toNat [.carrierOn i]
        ∧ SameBytes u t ∧ OnlyBlocks [0x02, 0x06, 0x10, 0x16, 0x1C, 0x1D, 0x20, 0x24, 0x28]
          [.mem, .polders, .carA, .carB, .pairProt, .tribs, .lanes, .mgt, .lineA, .lineB, .acqA, .acqB] u t)
    ∧ (h / 0x1000 = 2 → (∀ x ∈ dirsOf h, (u.trib x n).active = false) → tdEn d = false → tribFieldsOk d = true →
      ∃ t, exec (.bind e p) s = .next t ∧ (∀ x ∈ dirsOf h, (t.trib x n).ost = .bound ∧ (t.trib x n).desc = d
          ∧ (t.trib x n).pinned = tdPin d) ∧ Completed t e p.toNat en 0 ∧ OnlyHost [] u t)
    ∧ (h / 0x1000 = 2 → (∀ x ∈ dirsOf h, (u.trib x n).active = false) → tdEn d = true → (enableTribs n (dirsOf h) held).1 = 0 →
      ∃ t, exec (.bind e p) s = .next t ∧ (∀ x ∈ dirsOf h, (t.trib x n).ost = .enabled ∧ (t.trib x n).desc = d
          ∧ t.get (CIP_T_KEY_CURRENT x n) = tdKeyslot d) ∧ SameBytes u t
        ∧ OnlyBlocks [0x02, 0x06, 0x07, 0x10, 0x14, 0x16, 0x18, 0x1C, 0x1D]
          [.mem, .polders, .carA, .carB, .pairProt, .tribs, .lanes, .groups, .mgt] u t)
    ∧ (h / 0x1000 = 3 → u.polUsed i = false → polFieldsOk d = true →
      ∃ t, exec (.bind e p) s = .next t ∧ Assoc.find i t.policies = some d
        ∧ (∀ j, j ≠ i → Assoc.find j t.policies = Assoc.find j u.policies) ∧ Completed t e p.toNat en 0
        ∧ OnlyEngineAnd e [.policies] u t))
  ∧ (∀ (e : Fin 4) (p : BitVec 18) (s u : State) (en : Entry),
  let h := namedHandle en.word en.a
  let i := h % 0x1000
  let n := h % 0x400
  Takes s 0x23 e p.toNat en u →
    (h / 0x1000 = 1 → (u.car i).ost = .bound → u.carInUse i = false → ∃ t, exec (.unbind e p) s = .next t
      ∧ (t.car i).ost = .unbound ∧ (t.car i).desc = [] ∧ Completed t e p.toNat en 0
      ∧ OnlyBlocks [0x1C] [.carA, .carB, .pairProt] u t)
    ∧ (h / 0x1000 = 1 → (u.car i).ost = .unbound → u.carInUse i = false → ∃ t, exec (.unbind e p) s = .next t
      ∧ Completed t e p.toNat en 0 ∧ OnlyEngineAnd e [] u t)
    ∧ (h / 0x1000 = 2 → (∀ d ∈ dirsOf h, (u.trib d n).active = false) → ∃ t, exec (.unbind e p) s = .next t
      ∧ (∀ d ∈ dirsOf h, (t.trib d n).ost = .unbound ∧ ((u.trib d n).ost = .bound → (t.trib d n).desc = []))
      ∧ Completed t e p.toNat en 0 ∧ OnlyBlocks [0x10, 0x1D] [.tribs, .lanes, .groups] u t)
    ∧ (h / 0x1000 = 2 → (∀ d ∈ dirsOf h, (u.trib d n).ost = .unbound) → ∃ t, exec (.unbind e p) s = .next t
      ∧ Completed t e p.toNat en 0 ∧ OnlyEngineAnd e [] u t)
    ∧ (h / 0x1000 = 3 → u.polUsed i = false → ∃ t, exec (.unbind e p) s = .next t ∧ Assoc.find i t.policies = none
      ∧ (∀ j, j ≠ i → Assoc.find j t.policies = Assoc.find j u.policies)
      ∧ Completed t e p.toNat en 0 ∧ OnlyEngineAnd e [.policies] u t))

/-- R59, R87, R98: ENABLE of a BOUND carrier or tributary that passes the checks leaves it ENABLED under its descriptor, a tributary with the
key of its KEYSLOT, in each direction that its handle names; an object that is ENABLED already stays as it is. No byte of memory changes. -/
def Obligations.EnablePlacesAndRuns : Prop := ∀ (e : Fin 4) (p : BitVec 18) (s u : State) (en : Entry),
  let h := namedHandle en.word en.a
  let c := h % 0x1000
  let n := h % 0x400
  let due := (dirsOf h).filter (fun d => (u.trib d n).ost == .bound)
  Takes s 0x21 e p.toNat en u →
    (h / 0x1000 = 1 → (u.car c).ost = .bound → u.on GLB_STATUS_LIMITED = false → u.carCheck c (u.car c).desc = 0 →
      u.mem.allocs.any (fun a => a.role == ownCONN && a.obj == hCarrier c) = true ∨ (u.placeConn (hCarrier c)).isSome = true →
      ∃ t, exec (.enable e p) s = .next t ∧ (t.car c).ost = .enabled
        ∧ (t.car c).desc = (u.car c).desc ∧ Awaits t e p.toNat [.carrierOn c] ∧ SameBytes u t
        ∧ OnlyBlocks [0x02, 0x06, 0x10, 0x16, 0x1C, 0x1D, 0x20, 0x24, 0x28]
          [.mem, .polders, .carA, .carB, .pairProt, .tribs, .lanes, .mgt, .lineA, .lineB, .acqA, .acqB] u t)
    ∧ (h / 0x1000 = 1 → (u.car c).ost = .enabled → (u.car c).enabling = false → ∃ t, exec (.enable e p) s = .next t
        ∧ Completed t e p.toNat en 0 ∧ OnlyEngineAnd e [] u t)
    ∧ (h / 0x1000 = 2 → (∀ d ∈ dirsOf h, (u.trib d n).ost = .bound ∨ (u.trib d n).ost = .enabled) → (enableTribs n due u).1 = 0 →
      ∃ t, exec (.enable e p) s = .next t
        ∧ (∀ d ∈ dirsOf h, (t.trib d n).ost = .enabled ∧ (t.trib d n).desc = (u.trib d n).desc)
        ∧ (∀ d ∈ due, t.get (CIP_T_KEY_CURRENT d n) = tdKeyslot (u.trib d n).desc) ∧ SameBytes u t
        ∧ OnlyBlocks [0x02, 0x06, 0x07, 0x10, 0x14, 0x16, 0x18, 0x1C, 0x1D]
          [.mem, .polders, .carA, .carB, .pairProt, .tribs, .lanes, .groups, .mgt] u t)
    ∧ ∀ d, h / 0x1000 = 2 → dirsOf h = [d] → (u.trib d n).ost = .bound → u.tribCheck d n (u.trib d n).desc = 0 →
      (placeAll (hTrib d n) (u.tribWords d n (u.trib d n).desc) u).isSome = true →
      ∃ t, exec (.enable e p) s = .next t ∧ (t.trib d n).ost = .enabled ∧ (t.trib d n).desc = (u.trib d n).desc
        ∧ t.get (CIP_T_KEY_CURRENT d n) = tdKeyslot (u.trib d n).desc ∧ SameBytes u t
        ∧ OnlyBlocks [0x02, 0x06, 0x07, 0x10, 0x14, 0x16, 0x18, 0x1C, 0x1D]
          [.mem, .polders, .carA, .carB, .pairProt, .tribs, .lanes, .groups, .mgt] u t

/-- R59, R174: DISABLE of an ENABLED transmit tributary that sends leaves it DRAINING until its open seal ends, and of one with no seal open
it takes the slots out of the standby pages at once, as DISABLE.ABORT always does; a receive tributary is DRAINING while seals of it stand
in the lock chamber, which an ABORT discards, and otherwise BOUND; a carrier reaches BOUND at once (the model's choice, log entry 31);
what is BOUND already stays as it is. -/
def Obligations.DisableDrains : Prop := ∀ (e : Fin 4) (p : BitVec 18) (s u : State) (en : Entry),
  let h := namedHandle en.word en.a
  let c := h % 0x1000
  let n := h % 0x400
  let r := (u.trib 1 n).rx
  let row := if bitOf en.word 48 = 1 then Instr.disableAbort e p else .disable e p
  Takes s 0x22 e p.toNat en u →
    (bitOf en.word 48 = 0 → h / 0x1000 = 2 → dirsOf h = [0] → (u.trib 0 n).ost = .enabled → (u.trib 0 n).stop ≠ 3 →
      (u.trib 0 n).tx.removing = false →
      ((u.trib 0 n).tx.opened.isSome = true → u.tribSends n = true →
        ∃ t, exec (.disable e p) s = .next t ∧ (t.trib 0 n).ost = .draining ∧ (t.trib 0 n).tx.drain = true
          ∧ Awaits t e p.toNat [.tribBound (2 * n)]
          ∧ (∀ d m, (d, m) ≠ (0, n) → d < 2 → t.trib d m = u.trib d m) ∧ OnlyEngineAnd e [.tribs] u t)
      ∧ ((u.trib 0 n).tx.opened = none → ∃ t, exec (.disable e p) s = .next t ∧ (t.trib 0 n).ost = .draining
          ∧ (t.trib 0 n).tx.removing = true ∧ pageHas t.carA.tx.standby n = false ∧ pageHas t.carB.tx.standby n = false
          ∧ Awaits t e p.toNat [.tribBound (2 * n)] ∧ SameBytes u t ∧ OnlyBlocks [0x16] [.mem, .tribs, .carA, .carB] u t))
    ∧ (bitOf en.word 48 = 1 → h / 0x1000 = 2 → dirsOf h = [0] → (u.trib 0 n).active = true →
      ∃ t, exec (.disableAbort e p) s = .next t ∧ (t.trib 0 n).ost = .draining ∧ (t.trib 0 n).tx.removing = true
        ∧ pageHas t.carA.tx.standby n = false ∧ pageHas t.carB.tx.standby n = false ∧ Awaits t e p.toNat [.tribBound (2 * n)]
        ∧ SameBytes u t ∧ OnlyBlocks [0x16] [.mem, .tribs, .carA, .carB] u t)
    ∧ (h / 0x1000 = 2 → dirsOf h = [1] → (u.trib 1 n).ost = .enabled →
      (bitOf en.word 48 = 0 → (u.trib 1 n).stop ≠ 3 → r.seals ≠ [] → ∃ t, exec (.disable e p) s = .next t
        ∧ t.trib 1 n = { u.trib 1 n with ost := .draining, rx := { r with last := true } } ∧ t.get (CIP_T_SEAL_RXSTATE 1 n) = 0
        ∧ Awaits t e p.toNat [.tribBound (2 * n + 1)] ∧ OnlyBlocks [0x18] [.tribs] u t)
      ∧ (bitOf en.word 48 = 1 → r.seals ≠ [] ∨ r.zeroing ≠ [] → ∃ t, exec (.disableAbort e p) s = .next t
        ∧ (t.trib 1 n).ost = .draining ∧ (t.trib 1 n).rx.seals = [] ∧ (t.trib 1 n).rx.last = true
        ∧ t.get (CIP_T_SEAL_RXSTATE 1 n) = 0 ∧ Awaits t e p.toNat [.tribBound (2 * n + 1)] ∧ OnlyBlocks [0x18] [.tribs] u t)
      ∧ (r.seals = [] → r.zeroing = [] → ∃ t, exec row s = .next t ∧ (t.trib 1 n).ost = .bound
        ∧ (t.trib 1 n).desc = (u.trib 1 n).desc ∧ Completed t e p.toNat en 0 ∧ SameBytes u t
        ∧ OnlyBlocks [0x06, 0x07, 0x10, 0x18, 0x1C, 0x1D] [.mem, .pairProt, .tribs, .lanes, .groups] u t))
    ∧ (h / 0x1000 = 2 → dirsOf h = [0, 1] → (u.trib 0 n).ost = .enabled → (u.trib 1 n).ost = .enabled →
      ∃ t, exec row s = .next t ∧ (t.trib 0 n).ost = .draining ∧ ((t.trib 1 n).ost = .draining ∨ (t.trib 1 n).ost = .bound)
        ∧ SameBytes u t
        ∧ OnlyBlocks [0x06, 0x07, 0x10, 0x16, 0x18, 0x1C, 0x1D] [.mem, .pairProt, .tribs, .lanes, .groups, .carA, .carB] u t)
    ∧ (h / 0x1000 = 1 → (u.car c).ost = .enabled → ∃ t, exec row s = .next t
        ∧ (t.car c).ost = .bound ∧ (t.car c).desc = (u.car c).desc ∧ Completed t e p.toNat en 0 ∧ (u.mem.flips = [] → SameBytes u t)
        ∧ OnlyBlocks [0x05, 0x06, 0x07, 0x18, 0x1C, 0x1D, 0x20, 0x24, 0x28, 0x2C, 0x30] [.mem, .clk, .carA, .carB, .pairProt, .tribs,
          .poolA, .poolB, .mgt, .lineA, .lineB, .acqA, .acqB, .cnv, .tim, .freeN] u t)
    ∧ ((h / 0x1000 = 1 ∧ (u.car c).ost = .bound) ∨ (h / 0x1000 = 2 ∧ ∀ d ∈ dirsOf h, (u.trib d n).ost = .bound) →
      ∃ t, exec row s = .next t ∧ Completed t e p.toNat en 0 ∧ OnlyEngineAnd e [] u t)

/-- R54, R56, R57, R61: a refused instruction writes its reason code to w[D] and notes it for QUERY; without NF it faults, and a running
engine is FAULTED. Shown for ENABLE of an UNBOUND carrier, UNBIND of a running one, an undefined PROTECT command, KEYROLL with nothing
staged, REALIGN with no carrier enabled, MRETIRE of a fixed bank and RELANE of an unknown group. -/
def Obligations.RefusalsReported : Prop := ∀ (e : Fin 4) (p : BitVec 18) (s u : State) (en : Entry),
  let h := namedHandle en.word en.a
  let refuses (i : Instr) (op code : Nat) (why : Prop) : Prop := Takes s op e p.toNat en u → why →
    ∃ t, exec i s = .next t ∧ Writes u t e (dOf en.word) code
      ∧ (h ≠ 0 → ∀ o ∈ refusalObjects h, Assoc.get 0 o t.refusals = code)
      ∧ (bitOf en.word 55 = 0 → u.engState e = 2 → t.engState e = 5)
      ∧ (bitOf en.word 55 = 0 → (t.eng e).faults = (u.eng e).faults ++ [⟨p.toNat, 6, code, h⟩])
      ∧ OnlyEngineAnd e [.refusals] u t
  refuses (.enable e p) 0x21 0x0101 (h / 0x1000 = 1 ∧ (u.car (h % 0x1000)).ost = .unbound)
  ∧ refuses (.unbind e p) 0x23 0x0101 (h / 0x1000 = 1 ∧ (u.car (h % 0x1000)).active = true)
  ∧ refuses (.protectClear e p) 0x24 0x0203 (h / 0x1000 = 2 ∧ 6 ≤ argOf en.word)
  ∧ refuses (.keyroll e p) 0x32 0x0316 (∀ d ∈ dirsOf h, (u.trib d (h % 0x400)).stop ≠ 3 ∧ u.on (CIP_T_KEY_STV d (h % 0x400)) = false)
  ∧ refuses (.realign e p) 0x41 0x0412 (u.carA.ost ≠ .enabled ∧ u.carB.ost ≠ .enabled)
  ∧ refuses (.mretire e p) 0x50 0x0511 (187 ≤ h % 0x1000)
  ∧ refuses (.relane e p) 0x27 0x0701 (u.grpDesc (h % 0x1000) = none)

/-- R51, R255, R256, R258: each PROTECT command completes with 0, is in force in the selector of the carrier pair or of a protected receive
tributary and shows in CMD; LOCKOUT and FORCE select their copy at once, MANUAL with both copies clear, and a CLEAR of one of them with
both copies clear selects the working copy of a revertive group. Named by a transmit handle a command changes nothing. R131 to R134, R173:
PIN marks each direction that its handle names, and completes unless a move of the tributary stands by; RELANE moves every tributary of
the group to the new first lane, and one to the lane where the group is has no effect. -/
def Obligations.ProtectPinRelane : Prop :=
  (∀ (e : Fin 4) (p : BitVec 18) (s u : State) (en : Entry),
  let h := namedHandle en.word en.a
  let n := h % 0x400
  let g := if h / 0x1000 = 1 then pairGroup else n
  let clear := u.copyLevel g 0 = 0 ∧ u.copyLevel g 1 = 0 ∧ (u.prot g).enteredA = 0 ∧ (u.prot g).enteredB = 0
  let rows : List (Instr × Nat) := [(.protectClear e p, 0), (.protectLockout e p, 1), (.protectForceA e p, 2), (.protectForceB e p, 3),
    (.protectManualA e p, 4), (.protectManualB e p, 5)]
  ∀ q ∈ rows, Takes s 0x24 e p.toNat en u → argOf en.word = q.2 →
    ((h / 0x1000 = 1 ∧ cdCprot (u.car (h % 0x1000)).desc ≠ 0)
        ∨ (h / 0x1000 = 2 ∧ 1 ∈ dirsOf h ∧ ∀ d ∈ dirsOf h, tdTprot (u.trib d n).desc = 1) →
      ∃ t, exec q.1 s = .next t ∧ t.get (pgCMD g) = q.2 ∧ Completed t e p.toNat en 0
        ∧ (u.pgActive g = true →
          (q.2 = 1 → t.get (pgREQ g) = 7 ∧ (t.prot g).want = u.pgWork g)
          ∧ (q.2 = 2 ∨ q.2 = 3 → t.get (pgREQ g) = 6 ∧ (t.prot g).want = q.2 - 2)
          ∧ (q.2 = 4 ∨ q.2 = 5 → clear → t.get (pgREQ g) = 3 ∧ (t.prot g).want = q.2 - 4)
          ∧ (q.2 = 0 → 2 ≤ u.get (pgCMD g) → clear → u.pgRevert g = true → t.get (pgREQ g) = 0 ∧ (t.prot g).want = u.pgWork g))
        ∧ Keeps [.flds, .engines, .pairProt, .tribs] u t ∧ KeepsFlds (ofBlocks [0x1C, 0x1D]) u t
        ∧ ∀ d m, d < 2 → (d, m) ≠ (1, n) ∨ h / 0x1000 = 1 → t.trib d m = u.trib d m)
    ∧ (h / 0x1000 = 2 → dirsOf h = [0] → tdTprot (u.trib 0 n).desc = 1 →
      ∃ t, exec q.1 s = .next t ∧ Completed t e p.toNat en 0 ∧ OnlyEngineAnd e [] u t))
  ∧ (∀ (e : Fin 4) (p : BitVec 18) (s u : State) (en : Entry),
  let h := namedHandle en.word en.a
  let n := h % 0x400
  let v := bitOf en.word 0 == 1
  let g := h % 0x1000
  let l := argOf en.word % 32
  (Takes s 0x25 e p.toNat en u → ∃ t, exec (.pin e p) s = .next t
      ∧ (∀ d ∈ dirsOf h, t.trib d n = { u.trib d n with pinned := v })
      ∧ (∀ d m, d < 2 → m ≠ n ∨ d ∉ dirsOf h → t.trib d m = u.trib d m)
      ∧ (v = false ∨ 0 ∉ dirsOf h ∨ u.moveStands n = false → Completed t e p.toNat en 0)
      ∧ (v = true → 0 ∈ dirsOf h → u.moveStands n = true → Awaits t e p.toNat [.pinMove n])
      ∧ OnlyEngineAnd e [.tribs] u t)
  ∧ (∀ d, Takes s 0x27 e p.toNat en u → u.grpDesc g = some d → l + tdHlanes d ≤ 28 →
      u.lanesUsed g (lanesOf (withHlane0 d l)) = false →
      (l ≠ tdHlane0 d → ∃ t, exec (.relane e p) s = .next t
        ∧ (∀ q ∈ u.grpTribs g, (t.trib q.1 q.2).desc = withHlane0 (u.trib q.1 q.2).desc l)
        ∧ (u.grpActive g = false → Completed t e p.toNat en 0)
        ∧ SameBytes u t ∧ OnlyBlocks [0x02, 0x10] [.polders, .tribs, .lanes, .groups, .mgt] u t)
      ∧ (l = tdHlane0 d → ∃ t, exec (.relane e p) s = .next t ∧ Completed t e p.toNat en 0 ∧ OnlyEngineAnd e [] u t)))

/-- R106, R191, R196, R225, R226: KEYIMP queues its unwrap and waits for it; KEY_UNWRAP takes the oldest one and fills the key slot with what
the record opens to, or leaves the slot as it was when it opens to nothing; KEYSTAGE shows the key as staged; KEYROLL of a transmit
tributary falls due at its next superframe boundary, and of a receive one completes at once; KEYZERO empties a slot that no tributary
uses. -/
def Obligations.KeyInstructions : Prop := ∀ (e : Fin 4) (p : BitVec 18) (s u : State) (en : Entry),
  let h := namedHandle en.word en.a
  let n := h % 0x400
  let k := h % 0x1000
  (Takes s 0x30 e p.toNat en u → ∃ t, exec (.keyimp e p) s = .next t
      ∧ t.mgt = { u.mgt with unwraps := u.mgt.unwraps ++ [⟨e, en.pc, k, en.a % 8, recordBytes en.desc⟩] }
      ∧ Awaits t e p.toNat [.unwrap] ∧ Keeps [.engines, .mgt] u t)
  ∧ (∀ j rest, s.mgt.unwraps = j :: rest → s.mgtServes = true →
      ∃ t, exec .keyUnwrap s = .next t ∧ t.mgt.unwraps = rest ∧ (∀ k, k ≠ j.slot → t.key k = s.key k)
        ∧ t.key j.slot = (match (s.importKey j).2 with
            | some x => some x
            | none => s.key j.slot)
        ∧ Keeps [.flds, .evq, .polders, .cip, .refusals, .lanes, .engines, .mgt] s t)
  ∧ (Takes s 0x31 e p.toNat en u → (∀ d ∈ dirsOf h, u.stageCheck d n (argOf en.word % 2048) = 0) →
      ∃ t, exec (.keystage e p) s = .next t
        ∧ (∀ d ∈ dirsOf h, t.get (CIP_T_KEY_STAGED d n) = argOf en.word % 2048 ∧ t.on (CIP_T_KEY_STV d n) = true)
        ∧ Completed t e p.toNat en 0 ∧ Keeps [.flds, .engines] u t
        ∧ KeepsFlds (fun k => ofEvents k || among [CIP_T_KEY_STAGED 0 n, CIP_T_KEY_STV 0 n, CIP_T_KEY_STAGED 1 n, CIP_T_KEY_STV 1 n] k) u t)
  ∧ (Takes s 0x32 e p.toNat en u → (∀ d ∈ dirsOf h, (u.trib d n).stop ≠ 3 ∧ u.on (CIP_T_KEY_STV d n) = true) →
      (0 ∈ dirsOf h → ∃ t, exec (.keyroll e p) s = .next t
        ∧ t.trib 0 n = { u.trib 0 n with tx := { (u.trib 0 n).tx with rollDue := true } } ∧ t.on (CIP_T_KEY_PEND 0 n) = true
        ∧ Awaits t e p.toNat [.roll n] ∧ Keeps [.flds, .engines, .tribs] u t ∧ KeepsFlds (among [CIP_T_KEY_PEND 0 n]) u t)
      ∧ (0 ∉ dirsOf h → ∃ t, exec (.keyroll e p) s = .next t ∧ Completed t e p.toNat en 0 ∧ OnlyEngineAnd e [] u t))
  ∧ (Takes s 0x33 e p.toNat en u → u.keyCurrent k = false → u.keyStaged k = false →
      ∃ t, exec (.keyzero e p) s = .next t ∧ t.key k = none ∧ (∀ j, j ≠ k → t.key j = u.key j)
        ∧ Completed t e p.toNat en 0 ∧ OnlyEngineAnd e [.cip] u t)

/-- R72, R73, R403, R437, R439, R458: REFSET puts a consistent reference set in force; REALIGN waits with a carrier enabled, and the next
superframe boundary ends it with the published phase at the phase of the line frames; POWER puts a polder's descriptor in force, and waits
where the polder must take another state for it; MRETIRE retires a FREE bank at once, a bank of the host once it is cleared, and leaves
another bank to be retired when its owner releases it; MTEST starts a test of the bank, or joins the one under way. -/
def Obligations.TimingMemoryPower : Prop := ∀ (e : Fin 4) (p : BitVec 18) (s u : State) (en : Entry),
  let h := namedHandle en.word en.a
  let i := h % 0x1000
  let v := u.applyPolder i en.desc
  let st := (u.pd i).st
  (Takes s 0x40 e p.toNat en u → refFieldsOk en.desc = true → rsSoft en.desc < rsHard en.desc →
      (∀ q, q < 4 → rsRank en.desc q = 15 ∨ freqOk (rsFreq en.desc q) = true) → ∃ t, exec (.refset e p) s = .next t
      ∧ t.refset = some en.desc ∧ Completed t e p.toNat en 0 ∧ OnlyBlocks [0x05] [.refset, .clk, .tim, .freeN] u t)
  ∧ (Takes s 0x41 e p.toNat en u → u.carA.ost = .enabled ∨ u.carB.ost = .enabled → ∃ t, exec (.realign e p) s = .next t
      ∧ Awaits t e p.toNat [.realign] ∧ Keeps [.engines] u t)
  ∧ (∀ x, (s.eng e).entries = [x] → opOf x.word = 0x41 → x.waits = [.realign] → s.frameClk.runs = true → s.frameClk.fnum = 0 →
      s.frameClk.boundaryDone = false → s.carA.enabling = false → s.carB.enabling = false → ∃ t, exec .superframeBoundary s = .next t
      ∧ t.get TIM_PHASE_OFS = 0 ∧ t.get TIM_EVENT_REALIGN = 1 ∧ (t.eng e).entries = [])
  ∧ (Takes s 0x60 e p.toNat en u → u.powerCheck i en.desc = 0 → ∃ t, exec (.power e p) s = .next t
      ∧ Assoc.find i t.powerDescs = some en.desc ∧ t.get (PWR_PD_STATUS_HOLD i) = pdHold en.desc
      ∧ t.get (PWR_PD_STATUS_WAKE i) = pdWake en.desc ∧ t.get (PWR_PD_LTOL_LTOL i) = pdLtol en.desc
      ∧ (u.needed i = true ∨ (st = .on ∧ v.choose i = 0) ∨ (st = .ret ∧ v.choose i = 1) ∨ (st = .off ∧ v.choose i = 2) →
          Completed t e p.toNat en 0 ∧ t.polders = u.polders)
      ∧ (v.needed i = false → (st = .on ∧ v.choose i ≠ 0) ∨ (st = .ret ∧ v.choose i = 2) → Awaits t e p.toNat [.polder i])
      ∧ (v.needed i = false → (st = .ret ∧ v.choose i = 0) ∨ (st = .off ∧ v.choose i ≠ 2) →
          Awaits t e p.toNat [.polderOn i] ∧ (u.barred i = false → (t.pd i).st = .waking (st == .off)))
      ∧ OnlyBlocks [0x02, 0x10] [.polders, .powerDescs, .lanes] u t)
  ∧ (Takes s 0x50 e p.toNat en u → i < 187 → u.on (MEM_BANK_STATUS_RETIRED i) = false →
      u.on (MEM_BANK_STATUS_RETPEND i) = false → u.bankOwned i = false → u.mtp.log.length + u.mem.log.length < 256 →
      ∃ t, exec (.mretire e p) s = .next t ∧ t.on ECC_EVENT_RETIRE = true ∧ (∃ x, t.mem.log = u.mem.log ++ [x] ∧ x.bank = i)
      ∧ (u.owner i = 0 → t.owner i = 10 ∧ t.on (MEM_BANK_STATUS_RETIRED i) = true ∧ Completed t e p.toNat en 0)
      ∧ (u.owner i = 8 → t.owner i = 9 ∧ t.on (MEM_BANK_STATUS_RETPEND i) = true ∧ Awaits t e p.toNat [.retire i])
      ∧ (u.owner i ≠ 0 → u.owner i ≠ 8 → t.owner i = u.owner i ∧ t.on (MEM_BANK_STATUS_RETPEND i) = true
          ∧ Completed t e p.toNat en 0)
      ∧ SameBytes u t ∧ OnlyBlocks [0x06, 0x07] [.mem, .mgt] u t)
  ∧ (Takes s 0x51 e p.toNat en u → u.on (MEM_BANK_STATUS_RETIRED i) = false → ∃ t, exec (.mtest e p) s = .next t
      ∧ Awaits t e p.toNat [.mtest i] ∧ (∃ x ∈ t.mem.tests, x.bank = i ∧ x.hard = false)
      ∧ ((∀ x ∈ u.mem.tests, x.bank ≠ i) → t.on (MEM_BANK_STATUS_TESTING i) = true)
      ∧ SameBytes u t ∧ OnlyBlocks [0x02, 0x06, 0x10] [.mem, .polders, .lanes, .mgt] u t)

/-- R115, R116: the transitions of a host lane, with what each sets and posts; a receiver that is not good enough to lock, or still good
enough to stay locked, only shows its measurements, and a command for another state has no effect. R125, R126, R158: with every lane of an
active group LOCKED, the last marker lock takes the group from ALIGN to UP when the skew allows it and leaves it in ALIGN with SKEWERR
when it does not; a channelised lane locks to a position where a marker stood in 3 periods. A marker lock lost in UP, of a channelised
lane after 4 missed markers, takes the group back to ALIGN with EVENT.FAIL and the group event. A report whose condition does not hold has
no effect. -/
def Obligations.LanesAndGroups : Prop :=
  (∀ (l : Fin 28) (m : LaneMeas) (s : State),
  let coeff := [HLN_LANE_ADAPT0_CTLE l, HLN_LANE_ADAPT0_FFEPRE l, HLN_LANE_ADAPT0_FFEPOST l, HLN_LANE_ADAPT1_DFE l]
  let defaults (t : State) : Prop := t.get (HLN_LANE_ADAPT0_CTLE l) = 0x0C ∧ t.get (HLN_LANE_ADAPT0_FFEPRE l) = 0
    ∧ t.get (HLN_LANE_ADAPT0_FFEPOST l) = 0 ∧ t.get (HLN_LANE_ADAPT1_DFE l) = 0
  (s.laneState l = 1 → ∃ t, exec (.signalPresent l) s = .next t ∧ t.laneState l = 2 ∧ t.get (HLN_LANE_STATUS_SIGDET l) = 1
      ∧ Only [HLN_LANE_STATUS_STATE l, HLN_LANE_STATUS_SIGDET l] s t)
  ∧ (s.laneState l = 2 → ∃ t, exec (.signalLost l) s = .next t ∧ t.laneState l = 1 ∧ t.get (HLN_LANE_STATUS_SIGDET l) = 0
      ∧ t.get (HLN_LANE_EVENT_LOSTSIG l) = 1 ∧ Only [HLN_LANE_STATUS_STATE l, HLN_LANE_STATUS_SIGDET l, HLN_LANE_STATUS_CDRLOCK l,
        HLN_LANE_STATUS_SNR l, HLN_LANE_EVENT_LOSTSIG l] s t)
  ∧ (s.laneState l = 3 → ∃ t, exec (.signalLost l) s = .next t ∧ t.laneState l = 1 ∧ t.get (HLN_LANE_EVENT_LOSTSIG l) = 1
      ∧ t.get (HLN_LANE_EVENT_LOSTLOCK l) = 1 ∧ PostedFirst s t 0x10 0x01 0 [l, 1] ∧ OnlyHost [] s t)
  ∧ (s.laneState l = 2 → m.cdr = true → s.get HLN_THRESH_LOCK_SNR ≤ m.snr.toNat → ∃ t, exec (.laneLock l m) s = .next t
      ∧ t.laneState l = 3 ∧ PostedFirst s t 0x10 0x01 0 [l, 3] ∧ OnlyHost [] s t)
  ∧ (s.laneState l = 2 → ∃ t, exec (.adaptTimeout l) s = .next t ∧ defaults t ∧ t.get (HLN_LANE_EVENT_RESTARTED l) = 1
      ∧ Only (HLN_LANE_EVENT_RESTARTED l :: coeff) s t)
  ∧ (s.laneState l = 3 → m.cdr = false ∨ m.snr.toNat < s.get HLN_THRESH_UNLOCK_SNR → ∃ t, exec (.laneUnlock l m) s = .next t
      ∧ t.laneState l = 2 ∧ t.get (HLN_LANE_EVENT_LOSTLOCK l) = 1 ∧ PostedFirst s t 0x10 0x01 0 [l, 2] ∧ OnlyHost [] s t)
  ∧ (s.laneState l = 2 → m.cdr = false ∨ m.snr.toNat < s.get HLN_THRESH_LOCK_SNR → ∃ t, exec (.laneLock l m) s = .next t
      ∧ t.get (HLN_LANE_STATUS_SNR l) = m.snr.toNat ∧ Only (HLN_LANE_STATUS_SNR l :: HLN_LANE_STATUS_CDRLOCK l :: coeff) s t)
  ∧ (s.laneState l = 3 → m.cdr = true → s.get HLN_THRESH_UNLOCK_SNR ≤ m.snr.toNat → ∃ t, exec (.laneUnlock l m) s = .next t
      ∧ t.get (HLN_LANE_STATUS_SNR l) = m.snr.toNat ∧ Only (HLN_LANE_STATUS_SNR l :: HLN_LANE_STATUS_CDRLOCK l :: coeff) s t)
  ∧ (s.laneState l ≠ 1 → exec (.signalPresent l) s = .next s)
  ∧ (s.laneState l ≠ 2 → exec (.laneLock l m) s = .next s ∧ exec (.adaptTimeout l) s = .next s)
  ∧ (s.laneState l ≠ 3 → exec (.laneUnlock l m) s = .next s ∧ (s.laneState l ≠ 2 → exec (.signalLost l) s = .next s))
  ∧ (Reaches s (0x100000 + 0x40 * l) → ∃ t, exec (.laneRestart l) s = .next t ∧ defaults t ∧ Only coeff s t))
  ∧ (∀ (l : Fin 28) (logical : Fin 8) (skew g : Nat) (s : State),
  let eth := s.get (HLN_GRP_STATUS_FORMAT g) ≠ 0
  (s.laneGrp l = none ∨ s.laneLocked l = false → exec (.markerLock l logical skew) s = .next s)
  ∧ ((s.lane l).markerLock = false → exec (.markerLockLost l) s = .next s)
  ∧ (s.laneGrp l = some g → s.get (HLN_GRP_STATUS_STATE g) ≠ 2 ∨ s.grpActive g = false ∨ (¬eth ∧ ∀ c ∈ (s.lane l).cands, c.hits < 3) →
      exec (.markerLock l logical skew) s = .next s)
  ∧ (s.laneGrp l = some g → ¬eth → (s.lane l).missed < 4 → exec (.markerLockLost l) s = .next s)
  ∧ (s.laneGrp l = some g → s.grpActive g = true → s.jtagHold = false → (∀ x ∈ s.grpLanes g, s.laneLocked x = true) →
  l.val ∈ s.grpLanes g → g < 28 →
  (∀ c, s.get (HLN_GRP_STATUS_STATE g) = 2 →
    (eth ∧ c = ⟨0, 3, logical⟩) ∨ (¬eth ∧ (s.lane l).cands.find? (fun c => decide (3 ≤ c.hits)) = some c) →
    ∃ t, exec (.markerLock l logical skew) s = .next t
      ∧ (t.lane l).markerLock = true ∧ (t.lane l).logical = c.logical ∧ (t.lane l).markAt = c.pos
      ∧ t.get (HLN_GRP_SKEW_SKEW g) = min skew 0xFFFF ∧ t.get (HLN_GRP_SKEW_SKEWERR g) = (if 21250 < skew then 1 else 0)
      ∧ t.get (HLN_GRP_STATUS_STATE g)
        = (if 21250 < skew ∨ ∃ x ∈ s.grpLanes g, x ≠ l.val ∧ (s.lane x).markerLock = false then 2 else 3)
      ∧ OnlyHost [] s t)
  ∧ (s.get (HLN_GRP_STATUS_STATE g) = 3 → (s.lane l).markerLock = true → eth ∨ 4 ≤ (s.lane l).missed →
    (∀ x ∈ s.laneGrps l, x = g ∨ s.grpActive x = false) → ∃ t, exec (.markerLockLost l) s = .next t
      ∧ (t.lane l).markerLock = false ∧ t.get (HLN_GRP_STATUS_STATE g) = 2 ∧ t.get (HLN_GRP_EVENT_FAIL g) = 1
      ∧ PostedFirst s t 0x10 0x02 (0x6000 + g) [2] ∧ OnlyHost [] s t)))

/-- R122, R140, R154, R157, R158, R159: in a group that is UP a codeword of an Ethernet group counts as corrected or uncorrectable, and one of
a channelised group gives its 5,140 information bits to its lane from its first marker on; in ALIGN and UP each codeword of a channelised
lane is searched for a marker. The next cell of a channelised group takes 1,056 bits from the lane whose turn it is; a lane marker ends
there, a DATA cell goes to the transmit tributary of its channel, and a cell that cannot be trusted counts in TRB_BADCELL. R119, R122,
R124, R157: HOST_TRANSMIT on a group that sends passes the turn to the next of its lanes in ascending order, counts the codewords or cells
of its marker period once each lane has had its turn, and changes no other group; nothing but the lane whose turn it was gets a new
codeword, and a lane whose quad is not on stays silent. A group that does not send changes nothing. -/
def Obligations.HostTraffic : Prop :=
  (∀ (l : Fin 28) (g : Fin 28) (data parity : List (Fin 4)) (s : State),
  let levels := data ++ parity
  let dm := s.demodulate l (levels.map (fun v => v.val))
  let dec := rsDecode (symbols10 dm.1)
  let info := (bitsOf10 ((match dec with
    | some r => r.1
    | none => symbols10 dm.1).take 514)).take 5140
  let marker := markerOf (bytesOfBits (info.take 1056))
  let count (t : State) (lo hi : Fld) : Nat := t.get hi * 2 ^ 32 + t.get lo
  let st := s.get (HLN_GRP_STATUS_STATE g)
  let eth := s.get (HLN_GRP_STATUS_FORMAT g) ≠ 0
  let prbs := [HLN_LANE_STATUS_PRBSSYNC l, HLN_LANE_PRBS_SAT l, HLN_LANE_BITLO_COUNT l, HLN_LANE_BITHI_COUNT l, HLN_LANE_ERRLO_COUNT l,
    HLN_LANE_ERRHI_COUNT l, HLN_LANE_EVENT_PRBSLOSS l]
  (data.length = 2570 → parity.length = 150 → s.laneGrp l = some g.val →
    (st = 3 → eth → ∃ t, exec (.rsCodeword l data parity) s = .next t
      ∧ count t (HLN_GRP_CORRLO_COUNT g) (HLN_GRP_CORRHI_COUNT g)
        = (if dec.any (fun r => r.2) then (count s (HLN_GRP_CORRLO_COUNT g) (HLN_GRP_CORRHI_COUNT g) + 1) % 2 ^ 48
            else count s (HLN_GRP_CORRLO_COUNT g) (HLN_GRP_CORRHI_COUNT g))
      ∧ count t (HLN_GRP_UNCLO_COUNT g) (HLN_GRP_UNCHI_COUNT g)
        = (if dec.isNone then (count s (HLN_GRP_UNCLO_COUNT g) (HLN_GRP_UNCHI_COUNT g) + 1) % 2 ^ 48
            else count s (HLN_GRP_UNCLO_COUNT g) (HLN_GRP_UNCHI_COUNT g))
      ∧ (dec.isNone = true → t.get (HLN_GRP_EVENT_UNCORR g) = 1)
      ∧ Keeps [.flds, .lanes, .groups, .tribs, .mgt] s t ∧ KeepsFlds (ofBlocks [0x10, 0x14]) s t)
    ∧ (st = 2 ∨ st = 3 → ¬eth → ∃ t, exec (.rsCodeword l data parity) s = .next t
      ∧ (t.lane l).cwAt = ((s.lane l).cwAt + 1) % 264
      ∧ (marker = none → ∀ c ∈ (t.lane l).cands, c.pos ≠ (s.lane l).cwAt)
      ∧ (∀ lg, marker = some lg → ∃ c ∈ (t.lane l).cands, c.pos = (s.lane l).cwAt ∧ c.logical = lg
          ∧ c.hits = 1 + (((s.lane l).cands.find? (fun c => c.pos == (s.lane l).cwAt)).map (fun c => c.hits)).getD 0)
      ∧ (t.lane l).bits = (s.lane l).bits ++
          (if st = 3 ∧ ((s.lane l).seeCodeword marker).await = 0 then info.map (fun b => (b, dec.isNone)) else [])
      ∧ (∀ x, x ≠ l.val → t.lane x = s.lane x) ∧ Keeps [.flds, .lanes] s t
      ∧ KeepsFlds (fun k => ofPmc k || among (HLN_GRP_EVENT_UNCORR g :: prbs) k) s t)
    ∧ (st < 2 → ∃ t, exec (.rsCodeword l data parity) s = .next t ∧ (t.lane l).bits = (s.lane l).bits
      ∧ Keeps [.flds, .lanes] s t ∧ KeepsFlds (fun k => ofPmc k || among prbs k) s t))
  ∧ (data.length ≠ 2570 ∨ parity.length ≠ 150 → exec (.rsCodeword l data parity) s = .fault .illFormed)
  ∧ (st ≠ 3 ∨ eth ∨ (s.grpLanes g).find? (fun x => (s.lane x).logical == (s.group g).rxTurn) = none → exec (.hostCell g) s = .next s)
  ∧ (∀ x, (s.grpLanes g).find? (fun x => (s.lane x).logical == (s.group g).rxTurn) = some x → (s.lane x).bits.length < 1056 →
      exec (.hostCell g) s = .next s)
  ∧ ∀ x, (s.grpLanes g).find? (fun x => (s.lane x).logical == (s.group g).rxTurn) = some x → st = 3 → ¬eth →
    1056 ≤ (s.lane x).bits.length →
    let cell := (s.lane x).bits.take 1056
    let bytes := bytesOfBits (cell.map (fun b => b.1))
    let head := natBE (bytes.take 4)
    let bad := cell.any (fun b => b.2) = true ∨ fieldOf head 0 8 ≠ Client.hec (bytes.take 3)
    let at_ := (s.lane x).sinceMark
    let taken (t : State) : Prop := t.lane x = { s.lane x with bits := (s.lane x).bits.drop 1056, sinceMark := (at_ + 1) % 1285 }
      ∧ (∀ y, y ≠ x → t.lane y = s.lane y)
      ∧ (t.group g).rxTurn = (if at_ = 0 then (s.group g).rxTurn else ((s.group g).rxTurn + 1) % (s.grpLanes g).length)
      ∧ ∀ h, h ≠ g.val → t.group h = s.group h
    (bad → ∃ t, exec (.hostCell g) s = .next t ∧ taken t
      ∧ t.get TRB_BADCELL_COUNT = min (2 ^ 32 - 1) (s.get TRB_BADCELL_COUNT + 1) % 2 ^ 32
      ∧ Keeps [.flds, .lanes, .groups] s t ∧ KeepsFlds (among [TRB_BADCELL_COUNT]) s t)
    ∧ (¬bad → at_ = 0 ∨ fieldOf head 30 2 ≠ 0 → ∃ t, exec (.hostCell g) s = .next t ∧ taken t ∧ Keeps [.lanes, .groups] s t)
    ∧ ∀ n, ¬bad → at_ ≠ 0 → fieldOf head 30 2 = 0 →
      (s.grpRunning 0 g).find? (fun n => tdChid (s.trib 0 n).desc == fieldOf head 20 10) = some n →
      (s.trib 0 n).tx.fill = .client → s.txCarried n = true → (s.trib 0 n).tx.buf.length < 64 * 129 →
      ∃ t, exec (.hostCell g) s = .next t ∧ taken t ∧ Keeps [.lanes, .groups, .tribs] s t
        ∧ (t.trib 0 n).tx.buf = (s.trib 0 n).tx.buf ++ (Client.lineCell 0 0 (bytes.drop 4)).map (fun b => ⟨b, false, false⟩))
  ∧ (∀ (g : Fin 28) (skip : Fin 1024) (s : State) (d : List Nat),
  let next := ((s.group g).turn + 1) % max 1 (tdHlanes d)
  (s.htxOn g = false → exec (.hostTransmit g skip) s = .next s)
  ∧ (s.htxOn g = true → s.grpDesc g = some d → (∀ n ∈ s.grpRunning 1 g, (s.trib 1 n).ost ≠ .draining) →
    ∃ t, exec (.hostTransmit g skip) s = .next t
      ∧ (t.group g).turn = next
      ∧ (t.group g).cellPos = (if next = 0 then ((s.group g).cellPos + 1) % (if tdEthernet d then 4096 else 1285)
          else (s.group g).cellPos)
      ∧ (∀ x, x ≠ tdHlane0 d + (s.group g).turn → (t.lane x).out = (s.lane x).out)
      ∧ (tdEthernet d = true → s.pdOn (hlnPolder (tdHlane0 d + (s.group g).turn)) = false →
          (t.lane (tdHlane0 d + (s.group g).turn)).out = [])
      ∧ (∀ h, h ≠ g.val → t.group h = s.group h) ∧ SameBytes s t
      ∧ OnlyBlocks [0x06, 0x07, 0x10, 0x14, 0x18, 0x1C, 0x1D] [.mem, .pairProt, .tribs, .lanes, .groups, .mgt] s t))

/-- R135 to R138: the generator starts its pattern on a lane that no active group holds and is denied on one that an active group holds; the
checker of a lane gains sync with the 1,024th level in a row that its pattern predicts and starts over at any other, counts two bits for
each level in sync, loses sync with the 64th error among 1,024 levels, and stops both counters before the bit counter passes 2^48 − 1.
Levels that arrive while the checker does not run only pass the decoder. -/
def Obligations.TestPatterns : Prop := ∀ (l : Fin 28) (pat : Fin 8) (levels : List (Fin 4)) (last : Fin 4) (v : Nat) (s : State),
  let bits (t : State) : Nat := t.get (HLN_LANE_BITHI_COUNT l) * 2 ^ 32 + t.get (HLN_LANE_BITLO_COUNT l)
  let errs (t : State) : Nat := t.get (HLN_LANE_ERRHI_COUNT l) * 2 ^ 32 + t.get (HLN_LANE_ERRLO_COUNT l)
  let counts := [HLN_LANE_ERRLO_COUNT l, HLN_LANE_ERRHI_COUNT l, HLN_LANE_BITLO_COUNT l, HLN_LANE_BITHI_COUNT l,
    HLN_LANE_PRBS_SAT l]
  let setup := [HLN_LANE_PRBS_CHKPAT l, HLN_LANE_PRBS_CHKEN l, HLN_LANE_PRBS_GENPAT l, HLN_LANE_PRBS_GENEN l, HLN_LANE_STATUS_PRBSSYNC l]
  let chk := (s.lane l).chk
  let cp := s.get (HLN_LANE_PRBS_CHKPAT l)
  let expected := (prbsLevel cp chk.reg).1
  let found := levelErrors expected v
  let recent := (if found = 0 then chk.errs else chk.n :: chk.errs).filter (fun i => decide (chk.n < i + 1024))
  let feeds (i : Instr) (levels : List (Fin 4)) : Prop := ∃ t, exec i s = .next t ∧ Keeps [.flds, .lanes] s t
    ∧ KeepsFlds (fun k => ofPmc k || among (HLN_LANE_STATUS_PRBSSYNC l :: HLN_LANE_EVENT_PRBSLOSS l :: counts) k) s t
    ∧ (∀ x, x ≠ l.val → t.lane x = s.lane x)
    ∧ (s.prbsRuns l = false → KeepsFlds ofPmc s t ∧ (t.lane l).chk = chk)
    ∧ (s.prbsRuns l = true → Client.levelsOf (s.demodulate l (levels.map (fun v => v.val))).1 = [v] → errs s < 2 ^ 48 → bits s < 2 ^ 48 →
      (s.on (HLN_LANE_STATUS_PRBSSYNC l) = false → bits t = bits s ∧ errs t = errs s
        ∧ (expected ≠ v → (t.lane l).chk.run = 0 ∧ t.on (HLN_LANE_STATUS_PRBSSYNC l) = false)
        ∧ (expected = v → 16 ≤ chk.seen → cp = 3 ∨ chk.reg ≠ (if cp = 2 then 2 ^ 31 - 1 else 0) →
            (chk.run = 1023 → t.on (HLN_LANE_STATUS_PRBSSYNC l) = true)
            ∧ (chk.run < 1023 → (t.lane l).chk.run = chk.run + 1 ∧ t.on (HLN_LANE_STATUS_PRBSSYNC l) = false)))
      ∧ (s.on (HLN_LANE_STATUS_PRBSSYNC l) = true → t.on (HLN_LANE_STATUS_PRBSSYNC l) = decide (recent.length < 64)
        ∧ (64 ≤ recent.length → t.get (HLN_LANE_EVENT_PRBSLOSS l) = 1)
        ∧ (s.on (HLN_LANE_PRBS_SAT l) = false → bits s + 2 < 2 ^ 48 →
            bits t = bits s + 2 ∧ errs t = min (errs s + found) (2 ^ 48 - 1) ∧ t.on (HLN_LANE_PRBS_SAT l) = false)
        ∧ (s.on (HLN_LANE_PRBS_SAT l) = false → 2 ^ 48 ≤ bits s + 2 →
            bits t = 2 ^ 48 - 2 ∧ errs t = errs s ∧ t.on (HLN_LANE_PRBS_SAT l) = true)
        ∧ (s.on (HLN_LANE_PRBS_SAT l) = true → bits t = bits s ∧ errs t = errs s ∧ t.on (HLN_LANE_PRBS_SAT l) = true)))
  (Reaches s (0x100018 + 0x40 * l) → cp < 8 → s.get (HLN_LANE_PRBS_CHKEN l) < 2 → s.laneTaken l = false → ∃ t, exec (.prbsGenen l pat) s = .next t
      ∧ t.get (HLN_LANE_PRBS_GENEN l) = 1 ∧ t.get (HLN_LANE_PRBS_GENPAT l) = pat
      ∧ (s.get (HLN_LANE_PRBS_GENEN l) ≠ 1 ∨ s.get (HLN_LANE_PRBS_GENPAT l) ≠ pat → (t.lane l).gen = prbsStart l pat ∧ (t.lane l).out = [])
      ∧ OnlyNeeding setup [] s t)
  ∧ (Reaches s (0x100018 + 0x40 * l) → cp < 8 → s.get (HLN_LANE_PRBS_CHKEN l) < 2 → s.laneTaken l = true → ∃ t, exec (.prbsGenen l pat) s = .next t
      ∧ t.get (HLN_LANE_PRBS_GENEN l) = s.get (HLN_LANE_PRBS_GENEN l) ∧ t.get (HLN_LANE_EVENT_PRBSDENY l) = 1
      ∧ OnlyNeeding (HLN_LANE_EVENT_PRBSDENY l :: setup) [] s t)
  ∧ (Reaches s (0x100018 + 0x40 * l) → ∃ t, exec (.prbsClr l) s = .next t ∧ (∀ f ∈ counts, t.get f = 0) ∧ Only counts s t)
  ∧ feeds (.prbsSync ⟨l, levels⟩) levels ∧ feeds (.prbsSyncLoss l levels last) (levels ++ [last]) ∧ feeds (.prbsSaturation l levels) levels

/-- R142: a write to HLN_THRESH that would leave LOCK_SNR at or below UNLOCK_SNR has no effect; any other takes both fields. R139: larger
writes to PRE and POST of HLN_LANEn_TXEQ hold 20 and 30. -/
def Obligations.LaneRegisterWrites : Prop := ∀ (l : Fin 28) (v : W32) (s : State),
  let lock := fieldOf v.toNat 8 8
  let unlock := fieldOf v.toNat 0 8
  (Reaches s 0x102004 → lock ≤ unlock → exec (.hlnThreshWrite v) s = .next s)
  ∧ (Reaches s 0x102004 → unlock < lock → ∃ t, exec (.hlnThreshWrite v) s = .next t ∧ t.get HLN_THRESH_LOCK_SNR = lock
      ∧ t.get HLN_THRESH_UNLOCK_SNR = unlock ∧ Only [HLN_THRESH_LOCK_SNR, HLN_THRESH_UNLOCK_SNR] s t)
  ∧ (Reaches s (0x100014 + 0x40 * l) → ∃ t, exec (.txeqWrite l v) s = .next t
      ∧ t.get (HLN_LANE_TXEQ_PRE l) = min 20 (fieldOf v.toNat 8 8) ∧ t.get (HLN_LANE_TXEQ_POST l) = min 30 (fieldOf v.toNat 0 8)
      ∧ Only [HLN_LANE_TXEQ_PRE l, HLN_LANE_TXEQ_POST l] s t)

/-- R237: the overhead of a line frame is 1,024 bytes: the frame alignment word in bytes 0 to 7, FNUM in byte 8, the EDC in bytes 12 to 15 and
zero from byte 240 on. R144, R168, R240, R401: once the frame clock runs, a line frame moves it on by one, 256 frames to a superframe, and
changes no byte of memory; at a superframe boundary the announced page of each carrier comes into force under the next generation, once.
Before it runs no frame leaves. -/
def Obligations.FramesAndSuperframes : Prop :=
  (∀ (s : State) (c edc : Nat),
  (s.overhead c edc).length = 1024
  ∧ (s.overhead c edc).take 8 = [0xB3, 0xE1, 0x5C, 0x0D, 0x96, 0xA7, 0x2F, 0x48]
  ∧ (s.overhead c edc).getD 8 0 = BitVec.ofNat 8 s.frameClk.fnum
  ∧ natBE (((s.overhead c edc).drop 12).take 4) = edc % 2 ^ 32
  ∧ (s.overhead c edc).drop 240 = List.replicate 784 0)
  ∧ (∀ (s : State),
  let f := s.frameBoundary.frameClk
  let may : List Part := [.flds, .mem, .evq, .clk, .cip, .carA, .carB, .frameClk, .pairProt, .tribs, .lanes, .groups, .poolA, .poolB,
    .engines, .mgt, .lineA, .lineB, .acqA, .acqB, .cnv, .tim, .freeN]
  (s.frameClk.runs = false → exec .transmitFrame s = .next s ∧ exec .superframeBoundary s = .next s)
  ∧ (s.frameClk.runs = true → ∃ t, exec .transmitFrame s = .next t ∧ (s.mem.flips = [] → SameBytes s t) ∧ Keeps may s t
      ∧ t.frameClk = (if f.fnum = 255 then { f with sfn := (f.sfn + 1) % 2 ^ 32, fnum := 0, boundaryDone := false }
          else { f with fnum := f.fnum + 1, boundaryDone := false }))
  ∧ (s.frameClk.fnum ≠ 0 → exec .superframeBoundary s = .next s)
  ∧ (s.frameClk.runs = true → s.frameClk.fnum = 0 → s.carA.enabling = false → s.carB.enabling = false →
      (s.frameClk.boundaryDone = false → ∃ t, exec .superframeBoundary s = .next t ∧ (s.mem.flips = [] → SameBytes s t) ∧ Keeps may s t
        ∧ t.frameClk = { s.frameClk with boundaryDone := true }
        ∧ ∀ c, c < 2 → (t.car c).tx.page = (s.car c).tx.next.getD (s.car c).tx.page
            ∧ t.get (TRB_PG_GEN c) = (if (s.car c).tx.next.isSome then (s.get (TRB_PG_GEN c) + 1) % 65536
                else s.get (TRB_PG_GEN c) % 65536))
      ∧ (s.frameClk.boundaryDone = true → exec .superframeBoundary s = .next s)))

/-- R145, R187, R190, R225: after the last unit of a seal the next one starts under the key in force: it takes the counter, which moves on by
1, and counts under its key slot. A roll that the ended seal announced has made the staged key the one in force, with the other phase, and
is posted. A tributary that drains sends filler from here on, and its slots leave the standby pages; a STOPPED one makes no seal. -/
def Obligations.SealFollowsSeal : Prop := ∀ (n : Fin 1024) (s : State) (sl : TxSeal) (k : Key),
  let x := s.trib 0 n
  let rolls := sl.nkph ≠ sl.kph ∧ s.on (CIP_T_KEY_STV 0 n) = true
  let slot := if rolls then s.get (CIP_T_KEY_STAGED 0 n) else s.get (CIP_T_KEY_CURRENT 0 n)
  x.tx.opened = some sl → sl.b ≤ sl.unit → sl.void = false →
  (x.stop = 0 → x.tx.ctrEnd = false → s.key slot = some k → k.count < 2 ^ 40 → s.ctr 0 n < 2 ^ 56 - 1 → slot < 2048 →
    s.get (CIP_T_KEY_KPH 0 n) < 2 →
    ∃ t q, exec (.sealBoundary n) s = .next t ∧ (t.trib 0 n).tx.opened = some q
      ∧ q.ctr = s.ctr 0 n ∧ q.unit = 0 ∧ q.key = k.key ∧ q.epoch = s.get CIP_EPOCH_EPOCH
      ∧ q.kph = (if rolls then 1 - s.get (CIP_T_KEY_KPH 0 n) else s.get (CIP_T_KEY_KPH 0 n))
      ∧ t.ctr 0 n = s.ctr 0 n + 1 ∧ t.key slot = some { k with count := k.count + 1 }
      ∧ t.get (CIP_T_KEY_CURRENT 0 n) = slot ∧ t.get (CIP_T_KEY_KPH 0 n) = q.kph
      ∧ (rolls → t.on (CIP_T_KEY_STV 0 n) = false ∧ t.get (CIP_T_EVENT_ROLLED 0 n) = 1 ∧ Posted s t 0x18 0x05 (0x2400 + n) [slot])
      ∧ (x.tx.drain = true → (t.trib 0 n).tx.removing = true ∧ (t.trib 0 n).tx.fill = .filler
          ∧ pageHas t.carA.tx.standby n = false ∧ pageHas t.carB.tx.standby n = false)
      ∧ t.get (CIP_T_OK_COUNT 0 n) = satAdd 32 (s.get (CIP_T_OK_COUNT 0 n)) 1
      ∧ (∀ j, j ≠ slot → t.key j = s.key j) ∧ SameBytes s t
      ∧ OnlyBlocks [0x16, 0x18] [.mem, .cip, .carA, .carB, .tribs, .mgt] s t)
  ∧ (x.stop ≠ 0 → ∃ t, exec (.sealBoundary n) s = .next t ∧ (t.trib 0 n).tx.opened = none ∧ t.cip = s.cip
      ∧ t.get (CIP_T_OK_COUNT 0 n) = satAdd 32 (s.get (CIP_T_OK_COUNT 0 n)) 1 ∧ SameBytes s t
      ∧ OnlyBlocks [0x16, 0x18] [.mem, .carA, .carB, .tribs, .mgt] s t)

/-- R171, R172: a carrier that is not due for defragmentation keeps its pages; a move is written into the standby page, counted in
TRB_DEFRAG.MOVES and posted, and the page in force stays. R179: TRB_CMSEL takes its fields and captures the entry that they name in the
page in force or standing by. R232: CIP_KSSEL captures what its slot holds, except the key. -/
def Obligations.MovesAndViews : Prop :=
  (∀ (c : Fin 2) (s : State) (m : Move),
  (s.defragDue c = false → exec (.defragMove c) s = .next s)
  ∧ (s.defragDue c = true →
      chooseMove (((pageTribs (s.car c).tx.page).mergeSort (fun a b => decide (a ≤ b))).filterMap (fun n => s.moveOf c n)) = some m →
      m.trib < 1024 → ∃ t, exec (.defragMove c) s = .next t ∧ (t.car c).tx.page = (s.car c).tx.page
      ∧ (t.car c).tx.sinceMove = 0 ∧ t.get (TRB_T_EVENT_MOVED 0 m.trib) = 1
      ∧ t.get TRB_DEFRAG_MOVES = satAdd TRB_DEFRAG_MOVES.width (s.get TRB_DEFRAG_MOVES) 1
      ∧ Posted s t 0x14 0x01 (0x2400 + m.trib) [m.first, 1] ∧ SameBytes s t ∧ OnlyBlocks [0x14, 0x16] [.mem, .carA, .carB] s t))
  ∧ (∀ (v : W32) (s : State), Reaches s adr_TRB_CMSEL →
  let x := s.car (fieldOf v.toNat 29 1)
  let slot := fieldOf v.toNat 0 15
  let standby := bitOf v.toNat 31 = 1
  let rx := bitOf v.toNat 30 = 1
  ∃ t, exec (.cmselWrite v) s = .next t
    ∧ t.get TRB_CMDATA_ENTRY = pageEntry (if rx then (if standby then (match x.rx.nextMap with
        | some m => m.2
        | none => x.rx.page) else x.rx.page) else if standby then x.tx.standby else x.tx.page) slot % 2 ^ 32
    ∧ Only [TRB_CMSEL_PAGE, TRB_CMSEL_DIR, TRB_CMSEL_CARR, TRB_CMSEL_SLOT, TRB_CMDATA_ENTRY] s t)
  ∧ (∀ (v : W32) (s : State), Reaches s adr_CIP_KSSEL →
  let k := fieldOf v.toNat 0 11
  let l : List Fld := [CIP_KSSEL_SLOT, CIP_KSINFO_STATE, CIP_KSINFO_ROLE, CIP_KSINFO_KEK, CIP_KSINFO_WARN, CIP_KSINFO_SPENT,
    CIP_KSID_KEYID, CIP_KSCNTLO_COUNT, CIP_KSCNTHI_COUNT]
  ∃ t, exec (.ksselWrite v) s = .next t ∧ Only l s t ∧ t.get CIP_KSSEL_SLOT = k
    ∧ (s.key k = none → ∀ f ∈ l, f ≠ CIP_KSSEL_SLOT → t.get f = 0)
    ∧ ∀ x, s.key k = some x → t.get CIP_KSINFO_STATE = s.keyState k ∧ t.get CIP_KSID_KEYID = x.keyid % 2 ^ 32
        ∧ t.get CIP_KSINFO_KEK = (if x.use = 2 then 1 else 0) ∧ t.get CIP_KSINFO_WARN = x.warn.toNat
        ∧ t.get CIP_KSCNTLO_COUNT = x.count % 2 ^ 32
        ∧ t.get CIP_KSINFO_SPENT = (x.spent || decide (2 ^ 40 ≤ x.count)).toNat)

/-- R181, R184, R209, R213: a unit of a tributary in HUNT is dropped; in TRACK, with no seal open and its half of the area free, it opens one
under the predicted epoch and counter and the current key, and its first ciphertext block is decrypted with keystream block 1. Shown with
no word of memory flipped or poisoned. R209, R210, R211, R212, R215, R219, R224: a seal whose tag matches and is fresh verifies, counts,
its epoch and counter are the last verified ones, and its first block leaves; one whose tag does not match fails with cause MISMATCH,
counts and posts SEALFAIL, nothing of it is released, replacement goes in its place, and its area goes to zeroing; at the second in a row
the prediction is taken from its header. With memory poison in it the cause is the memory. AREA_ZEROED clears the POISON of the area and
ends a drain that waited for it. Shown with no word of memory flipped or poisoned. -/
def Obligations.SealsReceived : Prop :=
  (∀ (n : Fin 1024) (s : State) (u : List RxByte) (rest : List (List RxByte)) (k : Key),
  let r := (s.trib 1 n).rx
  r.toCip = u :: rest → (s.trib 1 n).ost = .enabled →
  (s.rxState n < 2 → ∃ t, exec (.receiveUnit n) s = .next t ∧ (t.trib 1 n).rx.toCip = rest
      ∧ (r.seals = [] → (t.trib 1 n).rx = { r with toCip := rest } ∧ Keeps [.tribs] s t)
      ∧ (s.mem.flips = [] → SameBytes s t) ∧ OnlyBlocks [0x06, 0x07, 0x18] [.mem, .tribs, .mgt] s t)
  ∧ (2 ≤ s.rxState n → (s.trib 1 n).stop = 0 → r.seals = [] → r.last = false → s.on (CIP_T_SEAL_EARLY 1 n) = false →
      r.areaAt ∉ r.zeroing → s.mem.flips = [] → s.mem.poison = [] →
      u ≠ [] → (∀ b ∈ u, b.bad = false ∧ b.mem = false) → 3 ≤ s.get (CIP_T_SEAL_UNITS 1 n) →
      s.key (s.get (CIP_T_KEY_CURRENT 1 n)) = some k →
      ∃ t q, exec (.receiveUnit n) s = .next t ∧ (t.trib 1 n).rx.seals = [q] ∧ (t.trib 1 n).rx.toCip = rest
        ∧ q.epoch = r.predEpoch ∧ q.ctr = r.predCtr ∧ q.units = 1 ∧ q.b = s.get (CIP_T_SEAL_UNITS 1 n) ∧ q.verdict = .waiting
        ∧ q.areaAt = r.areaAt ∧ q.area = [⟨Nat.xor (natBE (u.map (fun b => b.byte)))
            (Aes.keystream k.key (nonce r.predEpoch (1 - k.role % 2) n r.predCtr) 1), false⟩]
        ∧ Keeps [.mem, .tribs] s t ∧ SameBytes s t))
  ∧ (∀ (n : Fin 1024) (s : State) (sl : RxSeal),
  let r := (s.trib 1 n).rx
  let tag := sealTag sl.key (nonce sl.epoch sl.role n sl.ctr) sl.b (natBE sl.hdr) sl.ghash
  let block := (sl.area.map (fun a => a.data)).headD 0
  (r.seals = [sl] → sl.complete = true → sl.verdict = .waiting → sl.skip = false → (s.trib 1 n).ost = .enabled →
    s.on (CIP_T_SEAL_EARLY 1 n) = false → sl.released = 0 → 3 ≤ sl.b → (∀ a ∈ sl.area, a.bad = false) → s.mem.flips = [] →
    s.mem.poison = [] →
    (sl.poison = 0 → tag = sl.tag → r.hasLast = false → hdrNkph sl.hdr = s.get (CIP_T_KEY_KPH 1 n) → sl.ctr < 2 ^ 56 → sl.epoch < 2 ^ 24 →
      ∃ t, exec (.tagVerdict n) s = .next t ∧ (t.trib 1 n).rx.seals = [{ sl with verdict := .verified, released := 16 }]
        ∧ (t.trib 1 n).rx.out = r.out ++ [if s.srcFailed n then .replace 16 2 else .plain (bytesBE 16 block)]
        ∧ (t.trib 1 n).rx.predCtr = sl.ctr + 1 ∧ t.get (CIP_T_LAST_EPOCH 1 n) = sl.epoch ∧ t.ctr 1 n = sl.ctr
        ∧ t.get (CIP_T_OK_COUNT 1 n) = satAdd 32 (s.get (CIP_T_OK_COUNT 1 n)) 1
        ∧ OnlyBlocks [0x18] [.tribs, .mgt] s t)
    ∧ (sl.poison = 0 → tag ≠ sl.tag → ∃ t, exec (.tagVerdict n) s = .next t
        ∧ (t.trib 1 n).rx.seals = [] ∧ (t.trib 1 n).rx.out = r.out ++ [.replace (plainBytes sl.b) (if s.srcFailed n then 2 else 1)]
        ∧ (t.trib 1 n).rx.zeroing = insertNat sl.areaAt r.zeroing ∧ t.get (CIP_T_LAST_CAUSE 1 n) = 3
        ∧ t.get (CIP_T_FAIL_COUNT 1 n) = satAdd 32 (s.get (CIP_T_FAIL_COUNT 1 n)) 1 ∧ t.get (CIP_T_EVENT_FAIL 1 n) = 1
        ∧ PostedFirst s t 0x18 0x01 (0x2800 + n) [3, 0, 0]
        ∧ (r.fails = 0 → (t.trib 1 n).rx.predCtr = r.predCtr + 1 ∧ Posted s t 0x18 0x01 (0x2800 + n) [3, 0, 0])
        ∧ (1 ≤ r.fails → r.phaseKnown = true → hdrKph sl.hdr = s.get (CIP_T_KEY_KPH 1 n) → hdrNkph sl.hdr = s.get (CIP_T_KEY_KPH 1 n) →
            t.get (CIP_T_EVENT_RESYNC 1 n) = 1 ∧ (t.trib 1 n).rx.predEpoch = hdrEpoch sl.hdr
            ∧ (t.trib 1 n).rx.predCtr = 1 + resyncCtr r.hasLast (s.get (CIP_T_LAST_EPOCH 1 n)) (s.ctr 1 n) (hdrEpoch sl.hdr) (hdrSeq sl.hdr))
        ∧ OnlyBlocks [0x18] [.tribs, .mgt] s t)
    ∧ (sl.poison = 2 → ∃ t, exec (.tagVerdict n) s = .next t
        ∧ (t.trib 1 n).rx.seals = [] ∧ (t.trib 1 n).rx.out = r.out ++ [.replace (plainBytes sl.b) (if s.srcFailed n then 2 else 1)]
        ∧ t.get (CIP_T_LAST_CAUSE 1 n) = 2 ∧ Posted s t 0x18 0x01 (0x2800 + n) [2, 0, 0] ∧ OnlyBlocks [0x18] [.tribs, .mgt] s t))
  ∧ (∀ h rest, r.zeroing = h :: rest →
      ((s.trib 1 n).ost = .enabled → ∃ t, exec (.areaZeroed n) s = .next t
        ∧ (t.trib 1 n).rx = { r with zeroing := rest, dirty := r.dirty.filter (fun x => x != h) }
        ∧ (∀ i, i < s.ownUnits (s.trib 1 n).desc → ∀ w ∈ s.areaBlock n (h + i), w ∉ t.mem.poison)
        ∧ SameBytes s t ∧ Keeps [.mem, .tribs] s t)
      ∧ ((s.trib 1 n).ost = .draining → r.seals = [] → rest = [] → ∃ t, exec (.areaZeroed n) s = .next t ∧ (t.trib 1 n).ost = .bound
        ∧ SameBytes s t ∧ OnlyBlocks [0x06, 0x07, 0x10, 0x18, 0x1C, 0x1D] [.mem, .pairProt, .tribs, .lanes, .groups] s t))
  ∧ (r.zeroing = [] → ∃ t, exec (.areaZeroed n) s = .next t ∧ SameBytes s t
      ∧ (∀ a ∈ t.mem.allocs, ¬(a.role = 3 ∧ a.obj = hReturning n)) ∧ OnlyBlocks [0x06, 0x07] [.mem] s t))

/-- R188, R190, R191: at its warning count a key slot is flagged and posted once; at 2^40 it is spent, and a tributary under it with no seal
open rolls to its staged key or is STOPPED with cause 1; a transmit tributary whose counter has ended is STOPPED with cause 2. R106, R197,
R198: GO sets BUSY and takes the operands; a root injection outside the write window ends at once with RESULT 5; the end of an operation
zeroes CIP_KEKBUF, clears BUSY and shows RESULT, a root injection of a good key in MANUFACTURE fills slot 0 on its turn in class 3, and a
load of a record that opens to a key fills its target. -/
def Obligations.KeysAndLimits : Prop :=
  (∀ (k : Fin 2048) (n : Fin 1024) (s : State) (x : Key),
  (s.key k = some x → x.warn = false → 2 ^ 40 - 2 ^ 32 ≤ x.count → (∀ m ∈ s.sealsUnder k, m < 1024) → ∃ t, exec (.keywarn k) s = .next t
      ∧ t.key k = some { x with warn := true } ∧ Posted s t 0x18 0x04 (0x7000 + k) []
      ∧ (∀ m ∈ s.sealsUnder k, t.get (CIP_T_EVENT_WARN 0 m) = 1
          ∧ (s.on (CIP_T_KEY_STV 0 m) = true → t.get (CIP_T_KEY_PEND 0 m) = 1))
      ∧ OnlyBlocks [0x18] [.cip, .tribs] s t)
  ∧ (s.key k = some x → x.warn = true → exec (.keywarn k) s = .next s)
  ∧ (s.key k = some x → 2 ^ 40 ≤ x.count → s.sealsUnder k = [] → ∃ t, exec (.keySpent k) s = .next t
      ∧ t.key k = some { x with spent := true } ∧ Keeps [.cip] s t)
  ∧ (s.key k = some x → 2 ^ 40 ≤ x.count → s.sealsUnder k = [n.val] → (s.trib 0 n).stop = 0 → (s.trib 0 n).tx.starting = false →
      (s.trib 0 n).tx.opened = none → (s.trib 0 n).tx.ctrEnd = false →
      (s.on (CIP_T_KEY_STV 0 n) = false → ∃ t, exec (.keySpent k) s = .next t ∧ (t.trib 0 n).stop = 1
        ∧ t.key k = some { x with spent := true } ∧ t.get (CIP_T_EVENT_STOPPED 0 n) = 1 ∧ Posted s t 0x18 0x06 (0x2400 + n) [1]
        ∧ OnlyBlocks [0x18] [.cip, .tribs] s t)
      ∧ (∀ y, s.on (CIP_T_KEY_STV 0 n) = true → s.get (CIP_T_KEY_STAGED 0 n) < 2048 → s.key (s.get (CIP_T_KEY_STAGED 0 n)) = some y →
        y.count < 2 ^ 40 → ∃ t, exec (.keySpent k) s = .next t ∧ t.get (CIP_T_KEY_CURRENT 0 n) = s.get (CIP_T_KEY_STAGED 0 n)
        ∧ (∃ q, (t.trib 0 n).tx.opened = some q ∧ q.key = y.key) ∧ (t.trib 0 n).stop = 0
        ∧ Posted s t 0x18 0x05 (0x2400 + n) [s.get (CIP_T_KEY_STAGED 0 n)] ∧ OnlyBlocks [0x18] [.cip, .tribs] s t))
  ∧ (s.key k = some x → x.count < 2 ^ 40 → exec (.keySpent k) s = .next s)
  ∧ ((s.trib 0 n).ost = .enabled → (s.trib 0 n).stop = 0 → (s.trib 0 n).tx.ctrEnd = true → (s.trib 0 n).tx.starting = false →
      (s.trib 0 n).tx.opened = none → ∃ t, exec (.counterLimit n) s = .next t ∧ (t.trib 0 n).stop = 2
      ∧ t.get (CIP_T_EVENT_STOPPED 0 n) = 1 ∧ Posted s t 0x18 0x06 (0x2400 + n) [2] ∧ OnlyBlocks [0x18] [.tribs] s t))
  ∧ (∀ (wrap target : Fin 8) (verified : Bool) (s : State) (o : KekOp) (w : Nat),
  let ended (t : State) (code : Nat) : Prop := t.get CIP_KEKSTAT_BUSY = 0 ∧ t.get CIP_KEKSTAT_RESULT = code
    ∧ (∀ i, i < 16 → t.get (CIP_KEKBUF_DATA i) = 0) ∧ t.cip.kek = none
  let started (t : State) (plain : Nat) : Prop := t.get CIP_KEKSTAT_BUSY = 1 ∧ t.get CIP_KEKCTL_PLAIN = plain
    ∧ t.get CIP_KEKCTL_WRAP = wrap ∧ t.get CIP_KEKCTL_TARGET = target ∧ t.cip.kek = some ⟨plain = 1, target, wrap, s.kekBytes, s.mtpWindow⟩
  let ctl := [CIP_KEKSTAT_BUSY, CIP_KEKCTL_PLAIN, CIP_KEKCTL_WRAP, CIP_KEKCTL_TARGET]
  let only (t : State) : Prop := OnlyBlocks [0x02, 0x10, 0x19] [.polders, .mtp, .cip, .lanes, .mgt] s t
  (Reaches s 0x190080 → s.on CIP_KEKSTAT_BUSY = false → ∃ t, exec (.kekLoad wrap target) s = .next t ∧ started t 0
      ∧ Keeps [.flds, .cip] s t ∧ KeepsFlds (among ctl) s t)
  ∧ (Reaches s 0x190080 → s.on CIP_KEKSTAT_BUSY = false → s.mtpWindow = true → ∃ t, exec (.rootInjection wrap target) s = .next t
      ∧ started t 1 ∧ OnlyNeeding ctl [.cip] s t)
  ∧ (Reaches s 0x190080 → s.on CIP_KEKSTAT_BUSY = true → exec (.kekLoad wrap target) s = .next s
      ∧ exec (.rootInjection wrap target) s = .next s)
  ∧ (Reaches s 0x190080 → s.on CIP_KEKSTAT_BUSY = false → s.mtpWindow = false → s.mtp.lcs = 0 → target.val = 0 →
      s.kekInUse 0 = false → ∃ t, exec (.rootInjection wrap target) s = .next t ∧ ended t 5 ∧ t.mtp = s.mtp ∧ t.cip.keys = s.cip.keys
      ∧ only t)
  ∧ (s.cip.kek = some o → o.plain = true → s.class3Turn .root = false → exec (.kekOperationEnd verified) s = .next s)
  ∧ (s.cip.kek = some o → o.plain = true → s.class3Turn .root = true → s.mtp.lcs = 0 → o.inWindow = true → s.mtpWindow = true →
      verified = true → o.target = 0 → s.kekInUse 0 = false → s.on CIP_TAMPER_WIPED = false → s.cip.wiping = false →
      ∃ t, exec (.kekOperationEnd verified) s = .next t ∧ ended t 0 ∧ t.mtp = { s.mtp with root := some (bytesAt o.buf 0 32) }
      ∧ (∃ x, t.key 0 = some x ∧ x.key = bytesAt o.buf 0 32 ∧ x.use = 2) ∧ (∀ j, j ≠ 0 → t.key j = s.key j) ∧ only t)
  ∧ (s.cip.kek = some o → o.plain = false → s.mtp.lcs = 1 ∨ s.mtp.lcs = 2 → o.target ≠ 0 → s.kekInUse o.target = false →
      s.on CIP_EPOCH_EXHAUSTED = false → s.kekIn o.wrap = some w →
      ∃ t, exec (.kekOperationEnd verified) s = .next t ∧ t.mtp = s.mtp
      ∧ ended t (match openRecord w 2 o.buf with
          | .key _ => 0
          | .unwrapFails => 3
          | .malformed => 4)
      ∧ t.key o.target = (match openRecord w 2 o.buf with
          | .key x => some x
          | _ => s.key o.target)
      ∧ (∀ j, j ≠ o.target → t.key j = s.key j) ∧ only t)
  ∧ (s.cip.kek = some o → o.plain = false → s.kekIn o.wrap = none → s.mtp.lcs = 1 ∨ s.mtp.lcs = 2 →
      ∃ t, exec (.kekOperationEnd verified) s = .next t ∧ ended t 2 ∧ t.mtp = s.mtp ∧ t.cip.keys = s.cip.keys ∧ only t))

/-- R106, R200, R201, R379, R613: a transition asked for without CONFIRM leaves RESULT 1 and from another state RESULT 2; one that starts
empties every key slot and sets BUSY; on its turn in class 3, with the write window met throughout, the life-cycle state is the one asked
for, RETIRE and RENEW have erased the root, RENEW the epoch, RESULT is 0 and the change is posted; otherwise the state stays and RESULT is
3. -/
def Obligations.LifeCycle : Prop := ∀ (confirm : BitVec 16) (ok : Bool) (s : State) (o : LcsOp),
  let asks (i : Instr) (from_ : Prop) : Prop := Reaches s 0x190000 → s.on CIP_LCS_BUSY = false →
    (confirm.toNat ≠ 0x4C43 → ∃ t, exec i s = .next t ∧ t.get CIP_LCS_RESULT = 1 ∧ Only [CIP_LCS_RESULT] s t)
    ∧ (confirm.toNat = 0x4C43 → ¬from_ → ∃ t, exec i s = .next t ∧ t.get CIP_LCS_RESULT = 2 ∧ Only [CIP_LCS_RESULT] s t)
  let starts (i : Instr) (req : Nat) (from_ : Prop) : Prop := Reaches s 0x190000 → s.on CIP_LCS_BUSY = false →
    confirm.toNat = 0x4C43 → from_ → ∃ t, exec i s = .next t ∧ t.get CIP_LCS_BUSY = 1 ∧ t.cip.keys = []
      ∧ t.cip.lcs = some { req := req, old := s.mtp.lcs, missed := !s.mtpWindow } ∧ t.mgt.unwraps = []
      ∧ Keeps [.flds, .mem, .evq, .polders, .cip, .carA, .carB, .pairProt, .tribs, .refusals, .lanes, .groups, .engines, .mgt] s t
  let lcs := s.mtp.lcs
  let spent := s.on CIP_EPOCH_EXHAUSTED = true
  asks (.provision confirm) (lcs = 0) ∧ asks (.deploy confirm) (lcs = 1) ∧ asks (.retire confirm) True
  ∧ asks (.renew confirm) ((lcs = 1 ∨ lcs = 2) ∧ spent)
  ∧ starts (.provision confirm) 1 (lcs = 0 ∧ s.mtp.root ≠ none) ∧ starts (.deploy confirm) 2 (lcs = 1)
  ∧ starts (.retire confirm) 3 True ∧ starts (.renew confirm) 4 ((lcs = 1 ∨ lcs = 2) ∧ spent)
  ∧ (Reaches s 0x190000 → s.on CIP_LCS_BUSY = false → confirm.toNat = 0x4C43 → lcs = 0 → s.mtp.root = none →
      ∃ t, exec (.provision confirm) s = .next t ∧ t.get CIP_LCS_RESULT = 4 ∧ Only [CIP_LCS_RESULT] s t)
  ∧ (s.class3Turn .lcs = true → s.cip.lcs = some o → o.committed = false → o.missed = false → s.mtpWindow = true → 1 ≤ o.req → o.req ≤ 4 →
      ∃ t, exec (.lcsTransitionEnd true) s = .next t ∧ t.mtp.lcs = o.req % 4 ∧ (3 ≤ o.req → t.mtp.root = none)
      ∧ (o.req = 4 → t.mtp.epochA = 0 ∧ t.mtp.epochB = 0 ∧ t.get CIP_EPOCH_EPOCH = 0)
      ∧ t.get CIP_LCS_BUSY = 0 ∧ t.get CIP_LCS_RESULT = 0 ∧ t.cip.lcs = none ∧ PostedFirst s t 0x18 0x08 0 [o.old, o.req % 4]
      ∧ OnlyBlocks [0x02, 0x10, 0x19] [.polders, .mtp, .cip, .lanes, .mgt] s t)
  ∧ (s.class3Turn .lcs = true → s.cip.lcs = some o → o.committed = false → s.mtpWindow = false ∨ ok = false ∨ o.missed = true →
      ∃ t, exec (.lcsTransitionEnd ok) s = .next t ∧ t.mtp = s.mtp ∧ t.get CIP_LCS_BUSY = 0 ∧ t.get CIP_LCS_RESULT = 3
      ∧ OnlyBlocks [0x02, 0x10, 0x19] [.polders, .cip, .lanes, .mgt] s t)
  ∧ (s.class3Turn .lcs = false → exec (.lcsTransitionEnd ok) s = .next s)

/-- R106, R203, R204: a tamper trigger empties every key slot and stops every enabled tributary with cause 3; at the end of its response every
word of the lock chamber's banks is zero, WIPED and the causes show and the event is posted; the count goes to MTP on its turn in class 3,
inside the write window. -/
def Obligations.TamperResponse : Prop := ∀ (c : Fin 4) (s : State),
  (∃ t, exec (.tamperTrigger c) s = .next t ∧ t.cip.keys = [] ∧ t.cip.wiping = true
      ∧ t.cip.pendingCount = s.cip.pendingCount + 1 ∧ bitOf t.cip.tamperCauses c = 1 ∧ t.cip.tamperN = (s.cip.tamperN && c.val != 0)
      ∧ (∀ d n, d < 2 → (s.trib d n).ost = .enabled → (Assoc.find (2 * n + d) s.tribs).isSome = true → (t.trib d n).stop = 3)
      ∧ SameBytes s t ∧ OnlyBlocks [0x02, 0x10, 0x16, 0x18] [.mem, .polders, .cip, .carA, .carB, .tribs, .lanes, .mgt] s t)
  ∧ (s.cip.wiping = true → ∃ t, exec .tamperZeroed s = .next t ∧ t.get CIP_TAMPER_WIPED = 1 ∧ t.cip.wiping = false
      ∧ (∀ x, x < 4 → bitOf s.cip.tamperCauses x = 1 →
          t.get ([CIP_TAMPER_PIN, CIP_TAMPER_VGLITCH, CIP_TAMPER_CGLITCH, CIP_TAMPER_TGLITCH].getD x CIP_TAMPER_PIN) = 1)
      ∧ (∀ b a, b < 187 → s.owner b = 3 → a / 524288 = b → Memory.read t.mem.bytes a = 0)
      ∧ (∀ a, s.owner (a / 524288) ≠ 3 ∨ 187 ≤ a / 524288 → Memory.read t.mem.bytes a = Memory.read s.mem.bytes a)
      ∧ (s.tribs = [] → Posted s t 0x18 0x07 0 [s.cip.tamperCauses])
      ∧ OnlyBlocks [0x06, 0x07, 0x10, 0x18, 0x19, 0x1C, 0x1D] [.mem, .cip, .pairProt, .tribs, .lanes, .groups] s t)
  ∧ (s.cip.wiping = false → exec .tamperZeroed s = .next s)
  ∧ (s.class3Turn .tamper = true → s.mtpWindow = true → ∃ t, exec .tamperCountWrite s = .next t ∧ t.cip.pendingCount = 0
      ∧ t.mtp = { s.mtp with tamper := min 0xFFFF (s.mtp.tamper + s.cip.pendingCount) } ∧ Keeps [.mtp, .cip, .mgt] s t)
  ∧ (s.class3Turn .tamper = false ∨ s.mtpWindow = false → exec .tamperCountWrite s = .next s)

/-- R242, R243: with acquisition locked and a whole frame in the stream, a frame in SYNC whose alignment word matches leaves MISS 0, takes the
frame's bytes and counts the outer decoder's corrections; one that does not match counts in MISS, and with MISS at 4 leaves SYNC, which is
posted. Out of SYNC a candidate that matches for the third time at the head of the stream enters SYNC. A carrier that is not enabled, or
not locked, takes no frame. -/
def Obligations.FrameReception : Prop := ∀ (c : Fin 2) (at_ : Nat) (s : State),
  let rx := (s.car c).rx
  let len := frameLen (s.rxRun c).net
  let only (t : State) : Prop := (s.mem.flips = [] → SameBytes s t)
    ∧ OnlyBlocks [0x06, 0x07, 0x14, 0x16, 0x18, 0x1C, 0x1D] [.mem, .carA, .carB, .pairProt, .tribs, .mgt] s t
  ((s.car c).ost ≠ .enabled ∨ s.carLocked c = false → exec (.receiveFrame c at_) s = .next s)
  ∧ ((∀ p ∈ s.tribList, p.2 < 1024) → (s.car c).ost = .enabled → s.carLocked c = true → len + 7 ≤ rx.buf.length →
    (s.get (FRM_C_ALIGN_SYNC c) = 1 → fawHead rx.buf = true → ∃ t, exec (.receiveFrame c at_) s = .next t
      ∧ t.get (FRM_C_ALIGN_SYNC c) = 1 ∧ t.get (FRM_C_ALIGN_MISS c) = 0 ∧ (t.car c).rx.buf = rx.buf.drop len
      ∧ t.get (FRM_C_OCORR_COUNT c) = satAdd (FRM_C_OCORR_COUNT c).width (s.get (FRM_C_OCORR_COUNT c))
          (decodeFrame (s.rxRun c).net (rx.buf.take len)).corrected ∧ only t)
    ∧ (s.get (FRM_C_ALIGN_SYNC c) = 1 → fawHead rx.buf = false → s.get (FRM_C_ALIGN_MISS c) < 4 →
      ∃ t, exec (.receiveFrame c at_) s = .next t ∧ t.get (FRM_C_ALIGN_SYNC c) = 1
      ∧ t.get (FRM_C_ALIGN_MISS c) = s.get (FRM_C_ALIGN_MISS c) + 1 ∧ (t.car c).rx.buf = rx.buf.drop len ∧ only t)
    ∧ (s.get (FRM_C_ALIGN_SYNC c) = 1 → fawHead rx.buf = false → s.get (FRM_C_ALIGN_MISS c) = 4 → rx.cands = [] →
      ∃ t, exec (.receiveFrame c at_) s = .next t
      ∧ t.get (FRM_C_ALIGN_SYNC c) = 0 ∧ t.get (FRM_C_ALIGN_MISS c) = 0 ∧ (t.car c).rx.buf = rx.buf.drop len
      ∧ ((∀ n ∈ s.rxTribs, (s.trib 1 n).rx.seals = []) → s.mem.flips = [] → s.mem.poison = [] →
          PostedFirst s t 0x1C 0x02 (hCarrier c) [0]) ∧ only t)
    ∧ (s.get (FRM_C_ALIGN_SYNC c) = 0 → rx.cands = [⟨0, 2⟩] → fawHead rx.buf = true → ∃ t, exec (.receiveFrame c at_) s = .next t
      ∧ t.get (FRM_C_ALIGN_SYNC c) = 1 ∧ t.get (FRM_C_ALIGN_MISS c) = 0 ∧ t.get (FRM_C_ALIGN_HELD c) = 1 ∧ (t.car c).rx.buf = rx.buf
      ∧ PostedFirst s t 0x1C 0x02 (hCarrier c) [1] ∧ only t))

/-- R257, R258, R259, R261, R264: at the end of its hold-off a copy's level enters the selection; at the end of wait-to-restore a revertive
group with clear copies selects its working copy; at a commit point the selector moves, counted and posted, and under DDX an unnumbered
tributary takes the selected copy's first whole seal, and a seal that was taken before is not taken again; DD unknown shows 0x8000_0000
and raises DDX for every group. -/
def Obligations.ProtectionTimers : Prop := ∀ (g : Fin 1025) (n : Fin 1024) (s : State),
  let p := s.prot g
  (s.pgActive g = true →
    (p.holdA = true → s.copyLevel g 0 = p.levelA → ∃ t, exec (.holdoffExpiry g 0) s = .next t
      ∧ (t.prot g).holdA = false ∧ (t.prot g).enteredA = p.levelA
      ∧ Keeps [.flds, .pairProt, .tribs] s t ∧ KeepsFlds (ofBlocks [0x1C, 0x1D]) s t)
    ∧ (p.holdB = true → s.copyLevel g 1 = p.levelB → ∃ t, exec (.holdoffExpiry g 1) s = .next t
      ∧ (t.prot g).holdB = false ∧ (t.prot g).enteredB = p.levelB
      ∧ Keeps [.flds, .pairProt, .tribs] s t ∧ KeepsFlds (ofBlocks [0x1C, 0x1D]) s t)
    ∧ (s.on (pgWTR g) = true → s.get (pgCMD g) = 0 → s.pgRevert g = true → s.copyLevel g 0 = 0 → s.copyLevel g 1 = 0 →
      p.enteredA = 0 → p.enteredB = 0 → ∃ t, exec (.wtrExpiry g) s = .next t
      ∧ (t.prot g).want = s.pgWork g ∧ t.get (pgREQ g) = 0 ∧ t.get (pgWTR g) = 0 ∧ t.get (pgLEFT g) = 0
      ∧ Keeps [.flds, .pairProt, .tribs] s t ∧ KeepsFlds (ofBlocks [0x1C, 0x1D]) s t))
  ∧ (∀ q, s.tribGroup n = some q → s.pgActive q = true →
    (s.get (pgSEL q) ≠ (s.prot q).want → (s.prot q).want < 2 → ∃ t, exec (.commitPoint n) s = .next t
      ∧ t.get (pgSEL q) = (s.prot q).want ∧ t.get (pgSW q) = satAdd (pgSW q).width (s.get (pgSW q)) 1
      ∧ t.get (pgEvSWITCH q) = 1
      ∧ Posted s t 0x1C 0x04 (s.pgHandle q) [s.get (pgSEL q), (s.prot q).want, s.get (pgREQ q), if s.shutter = 0 then 0 else 1]
      ∧ OnlyBlocks [0x1C, 0x1D] [.tribs] s t)
    ∧ ∀ id u rest, s.get (pgSEL q) = (s.prot q).want → s.get (pgDDX q) = 1 → (s.trib 1 n).active = true →
      (s.trib 1 n).rx.lastId = none → ((s.trib 1 n).rx.copy (s.get (pgSEL q))).seals = (id, u) :: rest →
      ∃ t, exec (.commitPoint n) s = .next t ∧ (t.trib 1 n).rx.toCip = (s.trib 1 n).rx.toCip ++ u
        ∧ (t.trib 1 n).rx.lastId = some id ∧ Keeps [.tribs] s t ∧ ∀ d m, (d, m) ≠ (1, n.val) → d < 2 → t.trib d m = s.trib d m)
  ∧ (∀ q id l u rest, s.tribGroup n = some q → s.pgActive q = true → s.get (pgSEL q) = (s.prot q).want → s.get (pgDDX q) = 1 →
      (s.trib 1 n).active = true → (s.trib 1 n).rx.lastId = some l →
      ((s.trib 1 n).rx.copy (s.get (pgSEL q))).seals = (id, u) :: rest →
      idAfter (idCircle (max 1 ((s.trib 1 n).rx.copy (s.get (pgSEL q))).slots)) id l = false →
      ∃ t, exec (.commitPoint n) s = .next t ∧ (t.trib 1 n).rx.toCip = (s.trib 1 n).rx.toCip ∧ (t.trib 1 n).rx.lastId = some l
        ∧ Keeps [.tribs] s t)
  ∧ ((∀ q ∈ s.tribList, q.2 < 1024) → ∃ t, exec .ddUnknown s = .next t
      ∧ (∀ q ∈ s.groupsOn, t.get (pgDD q) = 0x80000000 ∧ t.get (pgDDX q) = 1) ∧ OnlyBlocks [0x1C, 0x1D] [] s t)

/-- R275, R276, R279, R287, R295: the LLRs of a block that have left the demapper of a locked carrier arrive as a block whose hard decisions
are their signs, with any for an LLR of zero (log entry 88); it joins its window and the block 192 before it leaves, erased if it has not
converged. A pass counts on a target that has neither converged nor reached its cap, while the carrier's share lets it take one, and
changes no more than the hard decisions of the thread's other blocks. A delivery gives the oldest block that left to the framer and counts
it, and counts it uncorrectable where it did not converge. -/
def Obligations.DecoderBlocks : Prop := ∀ (c : Fin 2) (zeros : BitVec 30720) (th : Fin 16) (window : List (BitVec 30720)) (e16 e32 : BitVec 30720) (s : State),
  let p := s.pool c
  let llrs := (s.line c).llrs
  let count (t : State) (lo hi : Fld) : Nat := t.get hi * 2 ^ 32 + t.get lo
  (s.get (FEC_C_STATUS_LOCKED c) = 1 → 30720 ≤ llrs.length → (∀ b ∈ p.window, b.t < p.next) → ∃ t, exec (.blockArrival c zeros) s = .next t
    ∧ (t.line c).llrs = llrs.drop 30720 ∧ (t.pool c).next = p.next + 1
    ∧ (∃ b ∈ (t.pool c).window, b.t = p.next ∧ b.chan = natOfBits (hardBits zeros.toNat (llrs.take 30720)) ∧ b.bits = b.chan ∧ b.passes = 0)
    ∧ (t.pool c).left = p.left ++ ((p.window.find? (fun b => b.t + 192 == p.next)).map (fun b =>
        { b with erased := !b.converged, cut := !b.converged && decide (b.passes < b.cap) })).toList
    ∧ Keeps [Part.ofPool c, Part.ofLine c] s t)
  ∧ (s.get (FEC_C_STATUS_LOCKED c) ≠ 1 ∨ llrs.length < 30720 → exec (.blockArrival c zeros) s = .next s)
  ∧ (∀ b, s.get (FEC_C_STATUS_LOCKED c) = 1 → p.targetOf th = some b → b.converged = false → b.passes < b.cap → s.mayPass c = true →
    ∃ t, exec (.decodingPass c th window e16 e32) s = .next t
    ∧ (∀ x ∈ (t.pool c).window, x.t = b.t → x.passes = b.passes + 1 ∧ x.bits = (window.map BitVec.toNat).headD b.bits)
    ∧ (∀ x ∈ p.window, x.t % 16 ≠ th → x ∈ (t.pool c).window)
    ∧ (∀ x ∈ (t.pool c).window, x.t ≠ b.t → ∃ y ∈ p.window, x = { y with bits := x.bits })
    ∧ (t.pool c).spent = p.spent + 1 ∧ Keeps [.flds, Part.ofPool c] s t ∧ KeepsFlds ofPmc s t)
  ∧ (s.mayPass c = false → exec (.decodingPass c th window e16 e32) s = .next s)
  ∧ ∀ b rest, p.left = b :: rest → ∃ t, exec (.blockDelivery c) s = .next t
    ∧ (t.pool c).left = rest ∧ (t.car c).rx.buf = (s.car c).rx.buf ++ infoBytes (s.rxRun c).fec b
    ∧ count t (FEC_C_BLKLO_COUNT c) (FEC_C_BLKHI_COUNT c) = (count s (FEC_C_BLKLO_COUNT c) (FEC_C_BLKHI_COUNT c) + 1) % 2 ^ 48
    ∧ (b.converged = false → count t (FEC_C_UNCLO_COUNT c) (FEC_C_UNCHI_COUNT c)
        = (count s (FEC_C_UNCLO_COUNT c) (FEC_C_UNCHI_COUNT c) + 1) % 2 ^ 48 ∧ t.get (FEC_C_EVENT_UNC c) = 1)
    ∧ OnlyBlocks [0x20] [Part.ofCar c, Part.ofPool c, .mgt] s t

/-- R301: a write to FEC_Cc_SD that would leave a field outside its range, or SDCLR at or above SDTHR, has no effect, and any other takes its
four fields. R300: CLR zeroes the counters and bins; a write of BIN captures its count. R292: an SF interval with SFUNC uncorrectable
blocks or more raises FECSF. R298: IMIN and HEAD come into force as an allocation interval ends. -/
def Obligations.DecoderRegisters : Prop := ∀ (c : Fin 2) (v : W32) (s : State),
  let thr := fieldOf v.toNat 24 8
  let clr := fieldOf v.toNat 16 8
  let win := fieldOf v.toNat 0 4
  let ok := 10 ≤ thr ∧ thr ≤ 100 ∧ 1 ≤ clr ∧ clr < thr ∧ 1 ≤ win
  let bin := fieldOf v.toNat 0 5
  let counts := [FEC_C_C1LO_COUNT c, FEC_C_C1HI_COUNT c, FEC_C_C0LO_COUNT c, FEC_C_C0HI_COUNT c, FEC_C_BLKLO_COUNT c,
    FEC_C_BLKHI_COUNT c, FEC_C_UNCLO_COUNT c, FEC_C_UNCHI_COUNT c, FEC_C_CUTLO_COUNT c, FEC_C_CUTHI_COUNT c]
  (Reaches s (0x200048 + 0x100 * c) →
    (¬ ok → exec (.fecSdWrite c v) s = .next s)
    ∧ (ok → ∃ t, exec (.fecSdWrite c v) s = .next t ∧ t.get (FEC_C_SD_SDTHR c) = thr ∧ t.get (FEC_C_SD_SDCLR c) = clr
        ∧ t.get (FEC_C_SD_SDUNC c) = fieldOf v.toNat 8 8 ∧ t.get (FEC_C_SD_SDWIN c) = win
        ∧ Only [FEC_C_SD_SDTHR c, FEC_C_SD_SDCLR c, FEC_C_SD_SDUNC c, FEC_C_SD_SDWIN c] s t))
  ∧ (Reaches s (0x20004C + 0x100 * c) → ∃ t, exec (.fecCtlClr c) s = .next t ∧ (∀ f ∈ counts, t.get f = 0)
      ∧ (t.pool c).hist = [] ∧ Keeps [.flds, Part.ofPool c] s t ∧ KeepsFlds (among counts) s t)
  ∧ (Reaches s (0x200038 + 0x100 * c) → 25 < bin → exec (.histselWrite c v) s = .next s)
  ∧ (Reaches s (0x200038 + 0x100 * c) → bin ≤ 25 → ∃ t, exec (.histselWrite c v) s = .next t ∧ t.get (FEC_C_HISTSEL_BIN c) = bin
      ∧ t.get (FEC_C_HISTLO_COUNT c) = Assoc.get 0 bin (s.pool c).hist % 2 ^ 32
      ∧ t.get (FEC_C_HISTHI_COUNT c) = Assoc.get 0 bin (s.pool c).hist / 2 ^ 32 % 2 ^ 16
      ∧ Only [FEC_C_HISTSEL_BIN c, FEC_C_HISTLO_COUNT c, FEC_C_HISTHI_COUNT c] s t)
  ∧ ((∀ q ∈ s.tribList, q.2 < 1024) →
    (s.get (FEC_C_STATUS_LOCKED c) = 1 → (s.pool c).sfWhole = true → s.get (FEC_C_SF_SFUNC c) ≤ (s.pool c).sfUnc →
      ∃ t, exec .sfInterval s = .next t ∧ t.get (FEC_C_STATUS_FECSF c) = 1 ∧ (t.pool c).sfUnc = 0
      ∧ OnlyBlocks [0x1C, 0x1D, 0x20] [.carA, .carB, .pairProt, .tribs, .poolA, .poolB] s t)
    ∧ ∃ t, exec .allocationInterval s = .next t ∧ (∀ d, d < 2 → (t.pool d).imin = s.get FEC_ALLOC_IMIN
      ∧ (t.pool d).head = s.get FEC_ALLOC_HEAD ∧ (t.pool d).blocks = 0 ∧ (t.pool d).spent = 0)
      ∧ t.get FEC_ALLOC_IMIN = s.get FEC_ALLOC_IMIN ∧ t.get FEC_ALLOC_HEAD = s.get FEC_ALLOC_HEAD
      ∧ OnlyBlocks [0x1C, 0x1D, 0x20] [.carA, .carB, .pairProt, .tribs, .poolA, .poolB, .freeN] s t)

/-- R319: RESTART brings the taps to identity and the state to CMA while the carrier is locked; FREEZE moves CMA and DD to FROZEN, and its end
moves FROZEN to DD; CMA moves to DD after 16 pilot blocks with their own sequences; four with one sequence on both outputs return it to
CMA, counted and posted. R334: RESTART while FREEZE is 1 leaves identity taps, FROZEN. R336: TAPSEL captures a tap, element 63 has no
effect. The values of a tap that adaptation has moved are free (entry 23). -/
def Obligations.EqualiserStates : Prop := ∀ (c : Fin 2) (v : W32) (s : State),
  let l := s.line c
  let st := s.get (DS_EQSTAT_STATE c)
  let k := 64 * fieldOf v.toNat 6 2 + fieldOf v.toNat 0 6
  let ident : Line := { l with taps := [], identity := true, ownRun := 0, sameRun := 0 }
  let cal := [CNV_C_STATUS_TXRUN 0, CNV_C_STATUS_TXRUN 1, CNV_C_STATUS_RXRUN 0, CNV_C_STATUS_RXRUN 1, CNV_C_EVENT_CLIP 0, CNV_C_EVENT_CLIP 1]
  let ctl := [DS_EQCTL_FREEZE c, DS_EQCTL_MU c, DS_EQCTL_UPD c, DS_EQSTAT_STATE c] ++ cal
  let same (t : State) : Prop := t.get (DS_EQCTL_MU c) = s.get (DS_EQCTL_MU c) ∧ t.get (DS_EQCTL_UPD c) = s.get (DS_EQCTL_UPD c)
    ∧ Keeps [.flds, .cnv, Part.ofLine c] s t ∧ KeepsFlds (among ctl) s t
  (Reaches s (0x240028 + 0x40000 * c) → s.get (DS_EQCTL_UPD c) ≤ 8 → s.get (DS_EQCTL_MU c) < 8 → s.get (DS_EQCTL_FREEZE c) ≤ 1 →
    (∃ t, exec (.eqRestart c) s = .next t ∧ t.get (DS_EQCTL_FREEZE c) = s.get (DS_EQCTL_FREEZE c) ∧ same t
      ∧ (s.carLocked c = true → t.line c = ident
        ∧ t.get (DS_EQSTAT_STATE c) = if s.get (DS_EQCTL_FREEZE c) = 0 then 1 else 3))
    ∧ (∃ t, exec (.eqFreeze c) s = .next t ∧ t.get (DS_EQCTL_FREEZE c) = 1 ∧ same t
      ∧ (st = 1 ∨ st = 2 → t.get (DS_EQSTAT_STATE c) = 3 ∧ t.line c = { l with taps := [], identity := false })
      ∧ (st = 0 ∨ st = 3 → t.get (DS_EQSTAT_STATE c) = st ∧ t.line c = l))
    ∧ ∃ t, exec (.eqUnfreeze c) s = .next t ∧ t.get (DS_EQCTL_FREEZE c) = 0 ∧ same t
      ∧ (st = 3 → t.get (DS_EQSTAT_STATE c) = 2 ∧ t.line c = { l with reachedDD := true })
      ∧ (st ≠ 3 → t.get (DS_EQSTAT_STATE c) = st ∧ t.line c = l))
  ∧ (if st = 1 ∧ 16 ≤ l.ownRun then
      ∃ t, exec (.eqDdEntry c) s = .next t ∧ t.get (DS_EQSTAT_STATE c) = 2 ∧ t.line c = { l with reachedDD := true }
        ∧ Keeps [.flds, Part.ofLine c] s t ∧ KeepsFlds (among [DS_EQSTAT_STATE c]) s t
    else exec (.eqDdEntry c) s = .next s)
  ∧ (if (st = 1 ∨ st = 2) ∧ 4 ≤ l.sameRun then
      ∃ t, exec (.eqreinit c) s = .next t ∧ t.get (DS_EQSTAT_STATE c) = 1
        ∧ t.get (DS_EQSTAT_REINIT c) = satAdd 8 (s.get (DS_EQSTAT_REINIT c)) 1 ∧ t.get (DS_EVENT_EQREINIT c) = 1
        ∧ t.line c = { l with taps := [], identity := false, ownRun := 0, sameRun := 0 }
        ∧ Posted s t (0x24 + 4 * c) 0x01 (hCarrier c) []
        ∧ OnlyPosting ([DS_EQSTAT_STATE c, DS_EQSTAT_REINIT c, DS_EVENT_EQREINIT c] ++ cal) [.cnv, Part.ofLine c] s t
    else exec (.eqreinit c) s = .next s)
  ∧ (Reaches s (0x240030 + 0x40000 * c) → if fieldOf v.toNat 0 6 = 63 then exec (.tapselWrite c v) s = .next s else
      ∃ t, exec (.tapselWrite c v) s = .next t
        ∧ t.get (DS_TAPSEL_ELEM c) = fieldOf v.toNat 6 2 ∧ t.get (DS_TAPSEL_TAP c) = fieldOf v.toNat 0 6
        ∧ (st = 0 ∨ st = 3 → l.identity = true → l.taps = [] →
          t.getI (DS_TAPDATA_RE c) = (if k % 64 = 31 ∧ (k / 64 = 0 ∨ k / 64 = 3) then 16384 else 0) ∧ t.get (DS_TAPDATA_IM c) = 0
            ∧ t.line c = l ∧ t.freeN = s.freeN)
        ∧ Keeps [.flds, .freeN, Part.ofLine c] s t
        ∧ KeepsFlds (among [DS_TAPSEL_ELEM c, DS_TAPSEL_TAP c, DS_TAPDATA_RE c, DS_TAPDATA_IM c]) s t)

/-- R316, R317: on a locked carrier the dispersion stage moves by at most 20 ps/nm and posts CDSTEP when it has moved more than 2,000 from its
value at lock, and the bulk stage moves by at most 2 ps within ±400 ps. R322, R323: the search for XI starts upwards and turns when the
SNR fell; a change of steps discards its period. R330: FILLSYNC is shown once the schedule is held. R332: the monitors take what was
measured, the dispersion and the delay with the stages' own. On a carrier that is not locked none of them acts. R325, R326: a steering
period wholly within the lock of an enabled carrier sends the clipped, rounded correction when the mean offset passes the dead band and
LSTSUM stays within 50 × LIMIT; past that it sets LSTLIM, posted once for each enable; every other period sends nothing. R337: a write of
DSx_LSTCTL, DSx_TXCTL or DSx_EQCTL that would leave a field outside its range has no effect; a good write of DSx_LSTCTL or DSx_TXCTL takes
every field, and one of DSx_EQCTL without RESTART its three. -/
def Obligations.LineTracking : Prop :=
  (∀ (c : Fin 2) (x : Int) (snr : Nat) (m : MonitorMeas) (s : State),
  let l := s.line c
  let cd := max (-160000) (min 160000 (l.cd + max (-20) (min 20 x)))
  let xi := s.get (DS_NLC_XI c)
  let up : Bool := match l.snrLast with
    | none => true
    | some b => if b ≤ snr then l.xiUp else !l.xiUp
  let base := if l.snrLast = none then snr else l.snrZero
  let short (w : Nat) (x : Int) : Prop := -(2 : Int) ^ (w - 1) ≤ x ∧ x < (2 : Int) ^ (w - 1)
  if s.carLocked c = true then
    (∃ t, exec (.dispersionTracking c x) s = .next t ∧ (t.line c).cd = cd ∧ t.get (DS_CDEST_SRC c) = 2
      ∧ (short 20 (l.cd + x) → t.getI (DS_CDEST_CD c) = l.cd + x)
      ∧ (2000 < (cd - l.cdLock).natAbs → l.cdPosted = false → t.get (DS_EVENT_CDSTEP c) = 1
        ∧ Posted s t (0x24 + 4 * c) 0x06 (hCarrier c) [iw l.cdLock, iw cd])
      ∧ (¬ (2000 < (cd - l.cdLock).natAbs ∧ l.cdPosted = false) → t.evq = s.evq ∧ t.line c = { l with cd := cd })
      ∧ OnlyPosting [DS_CDEST_CD c, DS_CDEST_SRC c, DS_EVENT_CDSTEP c] [Part.ofLine c] s t)
    ∧ (∃ t, exec (.bulkDgdUpdate c x) s = .next t
      ∧ t.line c = { l with dgd := max (-4000) (min 4000 (l.dgd + max (-20) (min 20 (x - l.dgd)))) } ∧ Keeps [Part.ofLine c] s t)
    ∧ (s.get (DS_NLC_XIAUTO c) = 1 → xi < 256 →
      if l.nlcChanged = true then
        ∃ t, exec (.xiSearch c snr) s = .next t ∧ t.line c = { l with nlcChanged := false } ∧ Keeps [Part.ofLine c] s t
      else ∃ t, exec (.xiSearch c snr) s = .next t ∧ t.get (DS_NLC_XI c) = (if up = true then min 255 (xi + 1) else xi - 1)
        ∧ t.line c = { l with snrLast := some snr, snrZero := base, xiUp := up }
        ∧ t.getI (DS_NLC_GAIN c) = max (-128) (min 127 ((snr : Int) - base))
        ∧ Keeps [.flds, Part.ofLine c] s t ∧ KeepsFlds (among [DS_NLC_GAIN c, DS_NLC_XI c]) s t)
    ∧ (s.get (DS_NLC_XIAUTO c) = 0 → exec (.xiSearch c snr) s = .next s)
    ∧ (if l.schedule.held = true then
        ∃ t, exec (.fillsync c) s = .next t ∧ t.get (DS_RXFMT_FILLSYNC c) = 1 ∧ Only [DS_RXFMT_FILLSYNC c] s t
      else exec (.fillsync c) s = .next s)
    ∧ ∃ t, exec (.monitorUpdate c m) s = .next t ∧ t.get (DS_PMD_DGD c) = min 4095 (l.dgd + m.dgd).natAbs
      ∧ t.get (DS_PMD_PDL c) = min 255 m.pdl ∧ t.get (DS_PMD_SOP c) = min 4095 m.sop
      ∧ (short 20 (l.cd + m.residual) → t.getI (DS_CDEST_CD c) = l.cd + m.residual)
      ∧ (short 16 m.fofs → t.getI (DS_FOFS_FOFS c) = m.fofs) ∧ (short 16 m.ppm → t.getI (DS_TIM_RXPPM c) = m.ppm)
      ∧ (∀ a b, m.snr = some (a, b) → t.get (DS_SNR_SNRX c) = min 1023 a ∧ t.get (DS_SNR_SNRY c) = min 1023 b
        ∧ (Fix.pow10 (s.get (DS_OSNRCAL_SNRTRX c)) 200 ≤ (Fix.pow10 (min 1023 a) 200 + Fix.pow10 (min 1023 b) 200) / 2 →
          t.get (DS_SNR_OSNR c) = 0x3FF))
      ∧ (m.snr = none → Only [DS_CDEST_CD c, DS_PMD_DGD c, DS_PMD_PDL c, DS_PMD_SOP c, DS_FOFS_FOFS c, DS_TIM_RXPPM c] s t)
      ∧ Only [DS_CDEST_CD c, DS_PMD_DGD c, DS_PMD_PDL c, DS_PMD_SOP c, DS_FOFS_FOFS c, DS_TIM_RXPPM c, DS_SNR_SNRX c, DS_SNR_SNRY c,
        DS_SNR_OSNR c] s t
  else exec (.dispersionTracking c x) s = .next s ∧ exec (.bulkDgdUpdate c x) s = .next s ∧ exec (.xiSearch c snr) s = .next s
    ∧ exec (.fillsync c) s = .next s ∧ exec (.monitorUpdate c m) s = .next s)
  ∧ (∀ (c : Fin 2) (f : Int) (v : W32) (s : State),
  let l := s.line c
  let big : Int := s.get (DS_LSTCTL_MAXSTEP c)
  let w := max (-big) (min big (roundAway (s.get (DS_LSTCTL_GAIN c) * f) 80))
  let sum := s.getI (DS_FOFS_LSTSUM c) + w
  let part (lo n : Nat) : Nat := fieldOf v.toNat lo n
  let good := 1 ≤ part 27 4 ∧ part 27 4 ≤ 8 ∧ 1 ≤ part 12 7 ∧ part 12 7 ≤ 100 ∧ 1 ≤ part 4 8 ∧ 1 ≤ part 0 4
  let lst := [DS_LSTCTL_LSTEN c, DS_LSTCTL_GAIN c, DS_LSTCTL_DEADBAND c, DS_LSTCTL_MAXSTEP c, DS_LSTCTL_PERIOD c, DS_LSTCTL_LIMIT c]
  let whole := s.carLocked c = true ∧ l.lstAt + 1000000 * s.get (DS_LSTCTL_PERIOD c) ≤ s.clk.dev
  let due := whole ∧ (s.car c).ost = .enabled ∧ s.get (DS_LSTCTL_LSTEN c) = 1 ∧ 10 * s.get (DS_LSTCTL_DEADBAND c) < f.natAbs
  (s.get (DS_LSTCTL_LIMIT c) ≤ 15 → due → sum.natAbs ≤ 50 * s.get (DS_LSTCTL_LIMIT c) →
    ∃ t, exec (.lsteerPeriod c f) s = .next t ∧ t.getI (DS_FOFS_LSTSUM c) = sum
      ∧ t.line c = { l with lstSeq := (l.lstSeq + 1) % 64, word := some (lsteerWord l.lstSeq w) }
      ∧ t.get (DS_EVENT_LSTSENT c) = 1 ∧ Posted s t (0x24 + 4 * c) 0x03 (hCarrier c) [iw w, iw sum]
      ∧ OnlyPosting [DS_FOFS_LSTSUM c, DS_EVENT_LSTSENT c] [Part.ofLine c] s t)
  ∧ (due → 50 * s.get (DS_LSTCTL_LIMIT c) < sum.natAbs →
    ∃ t, exec (.lsteerPeriod c f) s = .next t ∧ t.get (DS_EVENT_LSTLIM c) = 1 ∧ t.line c = { l with limPosted := true }
      ∧ (l.limPosted = false → Posted s t (0x24 + 4 * c) 0x04 (hCarrier c) [iw (s.getI (DS_FOFS_LSTSUM c)), iw w])
      ∧ (l.limPosted = true → t.evq = s.evq)
      ∧ OnlyPosting [DS_EVENT_LSTLIM c] [Part.ofLine c] s t)
  ∧ (s.get (DS_LSTCTL_LSTEN c) ≤ 1 → ¬ due → exec (.lsteerPeriod c f) s = .next s)
  ∧ (Reaches s (0x240024 + 0x40000 * c) →
    (¬ good → exec (.dspControlWrite c 0 v) s = .next s)
    ∧ (good → ∃ t, exec (.dspControlWrite c 0 v) s = .next t ∧ (∀ x ∈ lst, t.get x = fieldOf v.toNat x.lo x.width) ∧ Only lst s t))
  ∧ (Reaches s (0x24000C + 0x40000 * c) →
    (part 24 8 = 0 → exec (.dspControlWrite c 1 v) s = .next s)
    ∧ (part 24 8 ≠ 0 → ∃ t, exec (.dspControlWrite c 1 v) s = .next t
      ∧ t.get (DS_TXCTL_SWING c) = part 24 8 ∧ t.get (DS_TXCTL_PDOFF c) = part 1 1 ∧ t.get (DS_TXCTL_PEOFF c) = part 0 1
      ∧ Only [DS_TXCTL_SWING c, DS_TXCTL_PDOFF c, DS_TXCTL_PEOFF c] s t))
  ∧ (Reaches s (0x240028 + 0x40000 * c) →
    (8 < part 0 4 → exec (.dspControlWrite c 2 v) s = .next s)
    ∧ (part 0 4 ≤ 8 → part 8 1 = 0 → ∃ t, exec (.dspControlWrite c 2 v) s = .next t
      ∧ t.get (DS_EQCTL_FREEZE c) = part 7 1 ∧ t.get (DS_EQCTL_MU c) = part 4 3 ∧ t.get (DS_EQCTL_UPD c) = part 0 4
      ∧ Keeps [.flds, .cnv, Part.ofLine c] s t
      ∧ KeepsFlds (among [DS_EQCTL_FREEZE c, DS_EQCTL_MU c, DS_EQCTL_UPD c, DS_EQSTAT_STATE c, CNV_C_STATUS_TXRUN 0, CNV_C_STATUS_TXRUN 1,
        CNV_C_STATUS_RXRUN 0, CNV_C_STATUS_RXRUN 1, CNV_C_EVENT_CLIP 0, CNV_C_EVENT_CLIP 1]) s t)))

/-- R341, R343, R344: the best point of a lane's sweep counts as a detection when the lane sweeps, the point lies in the window (dispersion
around CDHINT or zero, ±7.5 GHz, ±150 ppm), its M reaches DETTHR and no reject zone younger than 10 ms holds it; with no lock it joins the
queue, ordered by M, at most three. R353: under a lock it is a rival unless it lies at the locked point on the locked symbol rate, and the
strongest rival is kept. Every other point has no effect. R344: the oldest reject zone ends. R346: the head of the queue enters SETTLE
when the confirmation path is free; SETTLE gives way to PILOT after 2,048 pilot blocks, 16 good pilot blocks to FILL (BLOCK where ρ is 1),
a held schedule to BLOCK. R347: an offset whose mean syndrome weight is the lowest of its window of 1,024 and at or below SWTHR leads to
CHECK; while none is found the next window is tested. R344, R346: a candidate whose fill search takes 8,192 pilot blocks, whose 30 windows
all fail, or whose CHECK fails is rejected: held on the reject list, counted by its stage and posted, and the carrier is in SEARCH. R349:
a candidate that passes CHECK locks, and the receive chain starts from R331. A command whose condition does not hold has no effect. -/
def Obligations.CandidatesAndLock : Prop :=
  (∀ (c : Fin 2) (lane : Fin 5) (x : SweepMeas) (s : State),
  let a := s.acq c
  let desc := (s.car c).desc
  let mid := if cdHintV desc then cdCdHint desc else 0
  let inWindow := -160000 ≤ x.cd ∧ x.cd ≤ 160000 ∧ (x.cd - mid).natAbs ≤ 80000 ∧ x.fofs.natAbs ≤ 7500 ∧ x.ppm.natAbs ≤ 15000
  (∀ p, a.profiles.find? (fun p => p.code == lane.val) = some p →
    let d : Detection := ⟨p, x.cd, x.fofs, x.ppm, x.m⟩
    let q := joinQueue d a.queue
    if s.bit (ACQ_C_STATUS_LANES c) lane = true ∧ inWindow ∧ a.detThr ≤ x.m ∧ (∀ r ∈ a.rejects, rejectedBy s.clk.dev d r = false) then
      (a.lock = none → ∃ t, exec (.sweepEnd c lane x) s = .next t ∧ t.acq c = { a with queue := q.1 } ∧ q.1.length ≤ max 3 a.queue.length
        ∧ t.get (ACQ_C_STATUS_QUEUED c) = q.1.length % 4
        ∧ t.get (ACQ_C_EVENT_DETECT c) = (if q.2 = true then 1 else s.get (ACQ_C_EVENT_DETECT c))
        ∧ Keeps [.flds, Part.ofAcq c] s t ∧ KeepsFlds (among [ACQ_C_STATUS_QUEUED c, ACQ_C_EVENT_DETECT c]) s t)
      ∧ (∀ l, a.lock = some l →
        let atLock := p.baud = l.prof.baud ∧ (x.fofs - l.fofs).natAbs ≤ 500 ∧ (x.cd - l.cd).natAbs ≤ 2000
        let weaker := atLock ∨ ∃ r, a.rival = some r ∧ x.m ≤ r.m
        (weaker → exec (.sweepEnd c lane x) s = .next s)
        ∧ (¬ weaker → ∃ t, exec (.sweepEnd c lane x) s = .next t ∧ (t.acq c).rival = some d ∧ (t.acq c).lock = some l
          ∧ (t.acq c).queue = a.queue ∧ (a.rival = none → (t.acq c).rivalRun = 0)
          ∧ (-32768 ≤ x.m → x.m < 32768 → t.getI (ACQ_C_METRIC_RIVAL c) = x.m)
          ∧ Keeps [.flds, Part.ofAcq c] s t ∧ KeepsFlds (among [ACQ_C_METRIC_RIVAL c]) s t))
    else exec (.sweepEnd c lane x) s = .next s)
  ∧ (a.profiles.find? (fun p => p.code == lane.val) = none → exec (.sweepEnd c lane x) s = .next s)
  ∧ ∃ t, exec (.rejectExpiry c) s = .next t ∧ t.acq c = { a with rejects := a.rejects.drop 1 } ∧ Keeps [Part.ofAcq c] s t)
  ∧ (∀ (c : Fin 2) (zeros : Nat) (pick : Fin 1024) (s : State),
  let a := s.acq c
  let st := s.get (ACQ_C_STATUS_STAGE c)
  let off := s.get (ACQ_C_BLOCK_OFFSET c)
  let moves (stage : Nat) (t : State) : Prop := t.get (ACQ_C_STATUS_STAGE c) = stage ∧ t.acq c = { a with blocks := 0 }
    ∧ Keeps [.flds, Part.ofAcq c] s t ∧ KeepsFlds (among [ACQ_C_STATUS_STAGE c]) s t
  let rejected (d : Detection) (count : Fld) (t : State) : Prop :=
    t.get count = satAdd 8 (s.get count) 1 ∧ t.get (ACQ_C_EVENT_REJECT c) = 1 ∧ (t.acq c).rejects = a.rejects ++ [(d, s.clk.dev)]
    ∧ (t.acq c).cand = none ∧ t.get (ACQ_C_STATUS_STATE c) = 1 ∧ t.get (ACQ_C_STATUS_STAGE c) = 0
    ∧ PostedFirst s t 0x2C 0x03 (hCarrier c) [d.prof.code, st, iw d.m] ∧ OnlyBlocks [0x2C] [Part.ofAcq c] s t
  (∀ d q, a.queue = d :: q → a.cand = none → s.get (ACQ_C_STATUS_STATE c) = 1 → ∃ t, exec (.confirmStart c) s = .next t
      ∧ t.acq c = { a with queue := q, cand := some d, blocks := 0, pass := 0, schedule := d.prof.schedule, coded := [], windows := 0 }
      ∧ t.get (ACQ_C_STATUS_STATE c) = 2 ∧ t.get (ACQ_C_STATUS_STAGE c) = 1 ∧ t.get (ACQ_C_STATUS_PROF c) = d.prof.code % 8
      ∧ Keeps [.flds, Part.ofAcq c] s t
      ∧ KeepsFlds (among [ACQ_C_STATUS_QUEUED c, ACQ_C_STATUS_STATE c, ACQ_C_STATUS_STAGE c, ACQ_C_STATUS_PROF c, ACQ_C_FOFS_FOFS c,
          ACQ_C_FOFS_PPM c, ACQ_C_CDSCAN_CD c, ACQ_C_METRIC_CUR c, ACQ_C_STATUS_LANES c]) s t)
  ∧ (¬ (a.queue ≠ [] ∧ a.cand = none ∧ s.get (ACQ_C_STATUS_STATE c) = 1) → exec (.confirmStart c) s = .next s)
  ∧ (if st = 1 ∧ 2048 ≤ a.blocks then ∃ t, exec (.settleEnd c) s = .next t ∧ moves 2 t else exec (.settleEnd c) s = .next s)
  ∧ (∀ d, a.cand = some d → if st = 2 ∧ 16 ≤ a.pass then
      ∃ t, exec (.pilotPass c) s = .next t ∧ moves (if d.prof.noFill then 4 else 3) t else exec (.pilotPass c) s = .next s)
  ∧ (if st = 3 ∧ a.schedule.held = true then ∃ t, exec (.fillHold c) s = .next t ∧ moves 4 t else exec (.fillHold c) s = .next s)
  ∧ (∀ d, a.cand = some d →
    (if st = 3 ∧ 8192 ≤ a.blocks ∧ a.schedule.held = false then
      ∃ t, exec (.fillTimeout c) s = .next t ∧ rejected d (ACQ_C_REJECT_FILL c) t else exec (.fillTimeout c) s = .next s)
    ∧ (let r := bestOffset d.prof.fec (hardBits zeros a.coded) a.windows pick
      let good := weightOk d.prof.fec 32 r.1 a.swThr = true
      if st = 4 ∧ 30720 * 64 * (a.windows + 1) + 1024 * (a.windows + 1) - 1 ≤ a.coded.length then
        (good → 1024 * a.windows + r.2 < 32768 → ∃ t, exec (.blockWindow c zeros pick) s = .next t ∧ t.get (ACQ_C_STATUS_STAGE c) = 5
          ∧ t.get (ACQ_C_BLOCK_OFFSET c) = 1024 * a.windows + r.2 ∧ t.acq c = { a with windows := a.windows + 1, blocks := 0 }
          ∧ Keeps [.flds, Part.ofAcq c] s t ∧ KeepsFlds (among [ACQ_C_STATUS_STAGE c, ACQ_C_BLOCK_OFFSET c, ACQ_C_BLOCK_SW c]) s t)
        ∧ (¬ good → a.windows + 1 < 30 → ∃ t, exec (.blockWindow c zeros pick) s = .next t ∧ t.acq c = { a with windows := a.windows + 1 }
          ∧ Keeps [.flds, Part.ofAcq c] s t ∧ KeepsFlds (among [ACQ_C_BLOCK_SW c]) s t)
        ∧ (¬ good → 30 ≤ a.windows + 1 → ∃ t, exec (.blockWindow c zeros pick) s = .next t ∧ rejected d (ACQ_C_REJECT_BLOCK c) t)
      else exec (.blockWindow c zeros pick) s = .next s)
    ∧ (let sum := unsatisfiedFrom d.prof.fec (hardBits zeros a.coded) (30720 * 64 * a.windows + off) 64
      let good := weightOk d.prof.fec 64 sum a.swThr = true
      let time := min 0xFFFFFFFF ((s.clk.dev - a.searchAt) / 1000)
      if st = 5 ∧ 30720 * 64 * (a.windows + 1) + off ≤ a.coded.length then
        (¬ good → ∃ t, exec (.checkEnd c zeros) s = .next t ∧ rejected d (ACQ_C_REJECT_CHECK c) t)
        ∧ (good → (∀ q ∈ s.tribList, q.2 < 1024) → ∃ t, exec (.checkEnd c zeros) s = .next t
          ∧ (t.acq c).lock = some d ∧ (t.acq c).queue = [] ∧ (t.acq c).cand = none ∧ (t.acq c).setupDue = true
          ∧ t.get (ACQ_C_STATUS_LOCKED c) = 1 ∧ t.get (ACQ_C_STATUS_STATE c) = 3 ∧ t.get (FEC_C_STATUS_LOCKED c) = 1
          ∧ t.get (DS_EQSTAT_STATE c) = 1 ∧ t.get (DS_CDEST_SRC c) = 1 ∧ t.get (DS_TIM_TLOCK c) = 1 ∧ t.get (ACQ_C_EVENT_LOCK c) = 1
          ∧ (t.line c).cd = d.cd ∧ (t.line c).dgd = 0 ∧ (t.line c).identity = true ∧ (t.line c).taps = []
          ∧ t.get (ACQ_C_LOCKS_COUNT c) = satAdd 32 (s.get (ACQ_C_LOCKS_COUNT c)) 1 ∧ t.get (ACQ_C_LOCKTIME_TIME c) = time
          ∧ PostedFirst s t 0x2C 0x01 (hCarrier c) [d.prof.code, iw d.fofs, iw d.cd, time]
          ∧ OnlyBlocks [0x1C, 0x1D, 0x20, 0x24, 0x28, 0x2C]
            [.carA, .carB, .pairProt, .tribs, .poolA, .poolB, Part.ofLine c, Part.ofAcq c] s t)
      else exec (.checkEnd c zeros) s = .next s))
  ∧ (a.cand = none → exec (.pilotPass c) s = .next s ∧ exec (.blockWindow c zeros pick) s = .next s ∧ exec (.checkEnd c zeros) s = .next s))

/-- R303, R342, R346, R360: a pilot block takes the thresholds as written. With a lock it shows the locked M, counts the blocks below DETTHR
in a row and those in which the rival leads by WMARGIN, and those whose outputs carry their own or one sequence, and corrects and counts
slips (R324); a correction beyond ±150 ppm loses the lock (R327, R350). With a candidate it counts the block: in PILOT the candidate
passes it or is rejected, in FILL the schedule takes it or a fill block that no value allows rejects the candidate, from BLOCK on its
coded bits are kept for the test of offsets. R350, R354, R356: a lock is lost with its cause after 32 weak blocks in a row, by a failed
set-up check (FILLSYNC 0, or DD not reached), or by RESTART, which also clears the queue and the reject list; a rival that has led for 32
blocks while WATCHEN is 1 displaces it instead and enters SETTLE. Where the condition of LOSS_OF_PILOTS, SETUP_CHECK or PREEMPT does not
hold, the lock stands. R360: ACQ_THRESH takes a good write and ignores one out of range. -/
def Obligations.LossOfLock : Prop :=
  (∀ (c : Fin 2) (x : PilotMeas) (s : State),
  let a := s.acq c
  let l := s.line c
  let st := s.get (ACQ_C_STATUS_STAGE c)
  let taken (b : Acq) : Acq :=
    { b with
      detThr := s.get ACQ_THRESH_DETTHR, confThr := s.get ACQ_THRESH_CONFTHR
      wMargin := s.get ACQ_THRESH_WMARGIN, swThr := s.get ACQ_THRESH_SWTHR }
  let rejected (d : Detection) (count : Fld) (t : State) : Prop :=
    t.get count = satAdd 8 (s.get count) 1 ∧ (t.acq c).rejects = a.rejects ++ [(d, s.clk.dev)]
    ∧ (t.acq c).cand = none ∧ t.get (ACQ_C_STATUS_STATE c) = 1 ∧ t.get (ACQ_C_STATUS_STAGE c) = 0
    ∧ PostedFirst s t 0x2C 0x03 (hCarrier c) [d.prof.code, st, iw d.m] ∧ OnlyBlocks [0x2C] [Part.ofAcq c] s t
  let metric (t : State) : Prop := (-32768 ≤ x.candM → x.candM < 32768 → t.getI (ACQ_C_METRIC_CUR c) = x.candM)
    ∧ Keeps [.flds, Part.ofAcq c] s t ∧ KeepsFlds (among [ACQ_C_METRIC_CUR c]) s t
  (∀ d, a.lock = some d →
    let slips := (unslip 64 0 x.xs x.ys l.slipTurn).2.1
    let rival := a.rival ≠ none ∧ s.get (ACQ_C_CTL_WATCHEN c) = 1
    (x.ppm.natAbs ≤ 15000 → ∃ t, exec (.pilotBlock c x) s = .next t
      ∧ (-32768 ≤ x.m → x.m < 32768 → t.getI (ACQ_C_METRIC_CUR c) = x.m)
      ∧ (t.acq c).lossRun = (if x.m < s.get ACQ_THRESH_DETTHR then a.lossRun + 1 else 0)
      ∧ (t.acq c).rivalRun = (if rival ∧ x.m + s.get ACQ_THRESH_WMARGIN ≤ x.rivalM then a.rivalRun + 1 else 0)
      ∧ (t.acq c).lock = some { d with m := x.m } ∧ (t.acq c).swThr = s.get ACQ_THRESH_SWTHR
      ∧ (t.line c).ownRun = (if x.own = true then l.ownRun + 1 else 0) ∧ (t.line c).sameRun = (if x.same = true then l.sameRun + 1 else 0)
      ∧ (slips ≠ 0 → t.get (DS_CSLIP_COUNT c) = satAdd 32 (s.get (DS_CSLIP_COUNT c)) slips ∧ t.get (DS_EVENT_CSLIP c) = 1)
      ∧ (t.line c).slips = l.slips + slips
      ∧ (s.nlcSteps c < 256 → t.get (DS_NLC_STEPS c) = s.nlcSteps c)
      ∧ OnlyBlocks [0x24, 0x28, 0x2C] [Part.ofLine c, Part.ofAcq c] s t)
    ∧ (15000 < x.ppm.natAbs → a.rival = none → s.get (DS_NLC_STEPS c) = s.nlcSteps c → (∀ q ∈ s.tribList, q.2 < 1024) →
      ∃ t, exec (.pilotBlock c x) s = .next t ∧ (t.acq c).lock = none ∧ t.get (ACQ_C_STATUS_LOCKED c) = 0 ∧ t.get (DS_TIM_TLOCK c) = 0
        ∧ t.get (DS_EVENT_TIMRANGE c) = 1 ∧ t.get (ACQ_C_EVENT_LOST c) = 1
        ∧ t.get (ACQ_C_LOSS_LOST c) = satAdd 16 (s.get (ACQ_C_LOSS_LOST c)) 1
        ∧ PostedFirst s t (0x24 + 4 * c) 0x05 (hCarrier c) [iw (s.getI (DS_TIM_RXPPM c))]))
  ∧ (a.lock = none →
    (st = 0 → ∃ t, exec (.pilotBlock c x) s = .next t ∧ t.acq c = taken a ∧ Keeps [Part.ofAcq c] s t)
    ∧ (st = 1 → ∃ t, exec (.pilotBlock c x) s = .next t ∧ t.acq c = taken { a with blocks := a.blocks + 1 } ∧ metric t)
    ∧ (∀ d, a.cand = some d →
      let sent := symbolBlocks (unslip 64 0 x.xs x.ys (some 0)).2.2
      let r := demap d.prof sent a.schedule
      (st = 2 → if s.get ACQ_THRESH_CONFTHR ≤ x.candM ∧ x.candSep = true then
          ∃ t, exec (.pilotBlock c x) s = .next t ∧ t.acq c = taken { a with blocks := a.blocks + 1, pass := a.pass + 1 } ∧ metric t
        else ∃ t, exec (.pilotBlock c x) s = .next t ∧ rejected d (ACQ_C_REJECT_PILOT c) t)
      ∧ (st = 3 → if r.2.1 = true then ∃ t, exec (.pilotBlock c x) s = .next t ∧ rejected d (ACQ_C_REJECT_FILL c) t
        else ∃ t, exec (.pilotBlock c x) s = .next t ∧ t.acq c = taken { a with blocks := a.blocks + 1, schedule := r.1 } ∧ metric t)
      ∧ (4 ≤ st → ∃ t, exec (.pilotBlock c x) s = .next t ∧ metric t
        ∧ t.acq c = taken { a with blocks := a.blocks + 1, schedule := r.1, coded := a.coded ++ r.2.2 }))))
  ∧ (∀ (c : Fin 2) (v : W32) (s : State),
  let a := s.acq c
  let part (lo n : Nat) : Nat := fieldOf v.toNat lo n
  let good := 10 ≤ part 24 8 ∧ part 24 8 ≤ 200 ∧ part 24 8 ≤ part 16 8 ∧ part 16 8 ≤ 250 ∧ 10 ≤ part 8 8 ∧ part 8 8 ≤ 200
    ∧ 64 ≤ part 0 8 ∧ part 0 8 ≤ 120
  let thr := [ACQ_THRESH_DETTHR, ACQ_THRESH_CONFTHR, ACQ_THRESH_WMARGIN, ACQ_THRESH_SWTHR]
  let wide (t : State) : Prop := OnlyBlocks [0x05, 0x06, 0x07, 0x18, 0x1C, 0x1D, 0x20, 0x24, 0x28, 0x2C, 0x30]
    [.mem, .clk, .carA, .carB, .pairProt, .tribs, .poolA, .poolB, .mgt, Part.ofLine c, Part.ofAcq c, .cnv, .tim, .freeN] s t
  let lost (cause : Nat) (t : State) : Prop := (t.acq c).lock = none ∧ t.get (ACQ_C_STATUS_LOCKED c) = 0
    ∧ t.get (ACQ_C_LOSS_LOST c) = satAdd 16 (s.get (ACQ_C_LOSS_LOST c)) 1 ∧ t.get (ACQ_C_EVENT_LOST c) = 1
    ∧ t.get (DS_TIM_TLOCK c) = 0 ∧ t.get (DS_RXFMT_FILLSYNC c) = 0
    ∧ PostedFirst s t 0x2C 0x02 (hCarrier c) [cause] ∧ wide t
  let leads := 32 ≤ a.rivalRun ∧ s.get (ACQ_C_CTL_WATCHEN c) = 1
  let taken (l r : Detection) (t : State) : Prop := (t.acq c).lock = none ∧ (t.acq c).cand = some r
    ∧ t.get (ACQ_C_STATUS_STATE c) = 2 ∧ t.get (ACQ_C_STATUS_STAGE c) = 1
    ∧ t.get (ACQ_C_LOSS_PREEMPT c) = satAdd 16 (s.get (ACQ_C_LOSS_PREEMPT c)) 1
    ∧ t.get (ACQ_C_LOSS_LOST c) = s.get (ACQ_C_LOSS_LOST c)
    ∧ PostedFirst s t 0x2C 0x04 (hCarrier c) [l.prof.code, iw l.m, r.prof.code, iw r.m] ∧ wide t
  let failed := s.get (DS_RXFMT_FILLSYNC c) ≠ 1 ∨ (s.line c).reachedDD = false
  (a.lossRun < 32 → exec (.lossOfPilots c) s = .next s)
  ∧ (a.setupDue = false → exec (.setupCheck c) s = .next s)
  ∧ (a.setupDue = true → ¬ failed → ∃ t, exec (.setupCheck c) s = .next t ∧ t.acq c = { a with setupDue := false }
      ∧ Keeps [Part.ofAcq c] s t)
  ∧ (¬ leads ∨ a.rival = none ∨ a.lock = none → exec (.preempt c) s = .next s)
  ∧ ((∀ q ∈ s.tribList, q.2 < 1024) → ∀ l, a.lock = some l →
    (32 ≤ a.lossRun → ¬ leads → ∃ t, exec (.lossOfPilots c) s = .next t ∧ lost 1 t)
    ∧ (a.setupDue = true → failed → ¬ leads → ∃ t, exec (.setupCheck c) s = .next t ∧ lost 3 t)
    ∧ (Reaches s (adr_ACQ_C_CTL c) → s.acqMay c = true → ∃ t, exec (.acqRestart c) s = .next t ∧ lost 4 t
      ∧ (t.acq c).queue = [] ∧ (t.acq c).rejects = [] ∧ t.get (ACQ_C_STATUS_STATE c) = 1)
    ∧ ∀ r, a.rival = some r → leads →
      (∃ t, exec (.preempt c) s = .next t ∧ taken l r t)
      ∧ (32 ≤ a.lossRun → ∃ t, exec (.lossOfPilots c) s = .next t ∧ taken l r t))
  ∧ (Reaches s (adr_ACQ_C_CTL c) →
    (s.acqMay c = false → exec (.acqRestart c) s = .next s)
    ∧ (s.acqMay c = true → a.lock = none → ∃ t, exec (.acqRestart c) s = .next t ∧ t.get (ACQ_C_STATUS_STATE c) = 1
      ∧ (t.acq c).cand = none ∧ (t.acq c).queue = [] ∧ (t.acq c).rejects = [] ∧ (t.acq c).profiles = (s.searched c).1
      ∧ OnlyBlocks [0x2C] [Part.ofAcq c] s t))
  ∧ (Reaches s adr_ACQ_THRESH →
    (¬ good → exec (.acqThreshWrite v) s = .next s)
    ∧ (good → ∃ t, exec (.acqThreshWrite v) s = .next t ∧ (∀ f ∈ thr, t.get f = fieldOf v.toNat f.lo 8) ∧ Only thr s t)))

/-- R364: a start-up under way ends with READY. R368: a pair of a running, enabled direction starts with its temperature. R366, R369: what a
run's statistics say of each quantity is kept after run 1; after run 2 the mean is accepted into the bin of the mean temperature when both
runs agree within every repeat tolerance, the temperatures within 1 °C, and every value lies in range (R370, R371), counted and posted as
out of range when one does not, or discarded, counted and posted when they disagree. R373, R374: each correction of a running direction
moves towards its target by at most its step, one that rests equals it, and HOLD keeps it. -/
def Obligations.Calibration : Prop := ∀ (c : Fin 2) (k : Fin 4) (x : CalStats) (p : CalPair) (s : State),
  let d := k.val % 2
  let car := k.val / 2
  let meas := runResult x d
  let mean : CalBin := ⟨p.t1 + p.t2, calZip (fun _ x y => roundDiv (x + y) 2) p.first meas⟩
  let agree := runsAgree p.first meas = true ∧ (p.t1 - p.t2).natAbs ≤ 4
  let ranged := ∀ e ∈ mean.vals, (Assoc.get 0 e.1 mean.vals).natAbs ≤ calRange e.1
  let worst := worstDiff p.first meas
  let starts := s.get (if d = 0 then CNV_C_CALCTL_TXEN car else CNV_C_CALCTL_RXEN car) = 1 ∧ s.calRunning k = true ∧ s.get (calRun k) = 0
  (if s.pdOn (pdLINE c) = true ∧ c.val ∈ s.cnv.starting then
      ∃ t, exec (.startupEnd c) s = .next t ∧ t.get (CNV_C_STATUS_READY c) = 1
        ∧ t.cnv = { s.cnv with starting := s.cnv.starting.filter (fun i => i != c.val) }
        ∧ Keeps [.flds, .cnv] s t ∧ KeepsFlds (among [CNV_C_STATUS_READY c]) s t
    else exec (.startupEnd c) s = .next s)
  ∧ (if starts then ∃ t, exec (.pairStart k) s = .next t ∧ t.get (calRun k) = 1
      ∧ t.cnv = { s.cnv with pairs := Assoc.put k.val { t1 := s.cnvTemp car } s.cnv.pairs }
      ∧ Keeps [.flds, .cnv] s t ∧ KeepsFlds (among [calRun k]) s t
    else exec (.pairStart k) s = .next s)
  ∧ (x.wf = false → exec (.calibrationRunEnd k x) s = .fault .illFormed)
  ∧ (x.wf = true → (Assoc.find k.val s.cnv.pairs = none ∨ (s.get (calRun k) ≠ 1 ∧ s.get (calRun k) ≠ 2) →
      exec (.calibrationRunEnd k x) s = .next s))
  ∧ (x.wf = true → Assoc.find k.val s.cnv.pairs = some p →
    (s.get (calRun k) = 1 → ∃ t, exec (.calibrationRunEnd k x) s = .next t ∧ t.get (calRun k) = 2
      ∧ t.cnv = { s.cnv with pairs := Assoc.put k.val { p with t2 := s.cnvTemp car, first := meas } s.cnv.pairs }
      ∧ Keeps [.flds, .cnv] s t ∧ KeepsFlds (among [calRun k]) s t)
    ∧ (s.get (calRun k) = 2 → ∃ t, exec (.calibrationRunEnd k x) s = .next t
      ∧ Assoc.find k.val t.cnv.pairs = none ∧ t.get (calRun k) = 0 ∧ t.get (CNV_C_DIFF_DIR car) = d
      ∧ t.get (CNV_C_DIFF_RATIO car) = min 65535 worst.2
      ∧ OnlyBlocks [0x02, 0x10, 0x30] [.polders, .lanes, .mgt, .cnv] s t
      ∧ (agree → ranged → Assoc.find (8 * k.val + binOf mean.temp) t.cnv.bins = some mean
        ∧ (∀ n, n ≠ 8 * k.val + binOf mean.temp → Assoc.find n t.cnv.bins = Assoc.find n s.cnv.bins)
        ∧ t.get (CNV_C_EVENT_ACCEPT car) = 1
        ∧ PostedFirst s t 0x30 0x01 (hCarrier car) [d, binOf mean.temp, iw (mean.temp / 2)])
      ∧ (agree → ¬ ranged → t.cnv.bins = s.cnv.bins ∧ t.get (CNV_C_EVENT_RANGE car) = 1
        ∧ t.get (CNV_C_COUNT_RANGE car) = satAdd 8 (s.get (CNV_C_COUNT_RANGE car)) 1
        ∧ ∃ e ∈ mean.vals, calRange e.1 < (Assoc.get 0 e.1 mean.vals).natAbs
          ∧ Posted s t 0x30 0x03 (hCarrier car) [d, (calQty e.1).1, (calQty e.1).2])
      ∧ (¬ agree → t.cnv.bins = s.cnv.bins ∧ t.get (CNV_C_EVENT_DISAGREE car) = 1
        ∧ t.get (CNV_C_COUNT_DISAGREE car) = satAdd 8 (s.get (CNV_C_COUNT_DISAGREE car)) 1
        ∧ Posted s t 0x30 0x02 (hCarrier car) [d, (calQty worst.1).1, (calQty worst.1).2, min 65535 worst.2])))
  ∧ (s.get (CNV_C_CALCTL_HOLD car) = 1 → exec (.correctionStep k) s = .next s)
  ∧ (s.get (CNV_C_CALCTL_HOLD car) ≠ 1 → ∃ t, exec (.correctionStep k) s = .next t
      ∧ t.calForce k = (if s.calRunning k = true then calZip (fun q v x => moveBy (calStep q) v x) (s.calForce k) (s.calTarget k)
          else s.calTarget k)
      ∧ (∀ j, j ≠ k.val → t.calForce j = s.calForce j) ∧ t.cnv.bins = s.cnv.bins ∧ t.cnv.pairs = s.cnv.pairs
      ∧ Keeps [.flds, .cnv] s t ∧ KeepsFlds (among [CNV_C_EVENT_CLIP car]) s t)

/-- R363, R385, R386: CNV_Cc_MAP is written only while the carrier is not enabled; a good write of TABSEL shows the correction that it names,
a code-table entry or a tap of the response (the middle one counts from 1), in force or under VIEW the target; a write of BINSEL shows the
bin's validity, mean temperature and whether the bank in force holds it. R377, R378, R382: a forced store falls due unless one is under
way, and one put off at the next PERIOD boundary; on its turn in class 3 (R106) and in the write window it captures the sets, invalidates
the bank that is not in force, writes it, verifies it and commits it under the next SEQ; the bank in force is never written before the
commit. A turn outside the window, or a failed read-back, ends it and it falls due again; three failures in a row of one bank set WORN and
no store falls due again. A step that is not next has no effect. -/
def Obligations.ConverterRegisters : Prop :=
  (∀ (c : Fin 2) (v : W32) (s : State),
  let part (lo n : Nat) : Nat := fieldOf v.toNat lo n
  let map := [CNV_C_MAP_RXSWAPY c, CNV_C_MAP_RXSWAPX c, CNV_C_MAP_TXSWAPY c, CNV_C_MAP_TXSWAPX c, CNV_C_MAP_RXINV c, CNV_C_MAP_TXINV c]
  let bin := 8 * part 3 2 + part 0 3
  let tap := part 10 1 = 1
  let shown (key : Nat) : Int := calShown (Assoc.get 0 key (s.calView (2 * c)))
  let entry : Int := if tap then shown (16 + 17 * part 8 2 + part 0 8) + (if part 0 8 = 8 then 16384 else 0)
    else shown (128 + 256 * part 8 2 + part 0 8)
  (Reaches s (adr_CNV_C_MAP c) →
    ((s.car c).active = true → exec (.mapWrite c v) s = .next s)
    ∧ ((s.car c).active = false → ∃ t, exec (.mapWrite c v) s = .next t ∧ (∀ f ∈ map, t.get f = fieldOf v.toNat f.lo f.width)
      ∧ Only map s t))
  ∧ (Reaches s (adr_CNV_C_TABSEL c) →
    (tap → 16 < part 0 8 → exec (.tabselWrite c v) s = .next s)
    ∧ (¬ (tap ∧ 16 < part 0 8) → ∃ t, exec (.tabselWrite c v) s = .next t
      ∧ t.get (CNV_C_TABSEL_CONV c) = part 8 2 ∧ t.get (CNV_C_TABSEL_INDEX c) = part 0 8 ∧ t.get (CNV_C_TABSEL_KIND c) = part 10 1
      ∧ t.get (CNV_C_TABDATA_VALUE c) = encSigned 16 entry
      ∧ Only [CNV_C_TABSEL_KIND c, CNV_C_TABSEL_CONV c, CNV_C_TABSEL_INDEX c, CNV_C_TABDATA_VALUE c] s t))
  ∧ (Reaches s adr_CNV_BINSEL → ∃ t, exec (.binselWrite v) s = .next t
      ∧ t.get CNV_BINSEL_SET = part 3 2 ∧ t.get CNV_BINSEL_BIN = part 0 3
      ∧ (∀ b, Assoc.find bin s.cnv.bins = some b → t.get CNV_BININFO_VALID = 1
          ∧ t.get CNV_BININFO_TEMP = encSigned CNV_BININFO_TEMP.width (b.temp / 2)
          ∧ t.get CNV_BININFO_STORED = (decide (Assoc.find bin s.calBank.bins = some b)).toNat)
      ∧ (Assoc.find bin s.cnv.bins = none → t.get CNV_BININFO_VALID = 0 ∧ t.get CNV_BININFO_TEMP = 0 ∧ t.get CNV_BININFO_STORED = 0)
      ∧ Only [CNV_BINSEL_SET, CNV_BINSEL_BIN, CNV_BININFO_TEMP, CNV_BININFO_VALID, CNV_BININFO_STORED] s t))
  ∧ (∀ (k : Fin 4) (right : Bool) (s : State),
  let b := s.storeTarget
  let st := s.get CNV_MTP_STATE
  let bank (t : State) (i : Nat) : CalBank := if i = 0 then t.mtp.calA else t.mtp.calB
  let fails (t : State) (i : Nat) : Nat := if i = 0 then t.cnv.failsA else t.cnv.failsB
  let q := (s.get CNV_MTP_SEQ + 1) % 65536
  let onlyBank (t : State) : Prop := t.mtp = (if b = 0 then { s.mtp with calA := t.mtp.calA } else { s.mtp with calB := t.mtp.calB })
  let turn := st = 1 ∧ s.class3Turn .store = true
  (Reaches s adr_CNV_STCTL → if st = 0 then
      ∃ t, exec .store_ s = .next t ∧ t.get CNV_MTP_STATE = 1 ∧ OnlyNeeding [CNV_MTP_STATE] [] s t
    else exec .store_ s = .next s)
  ∧ (if s.cnv.dueNext = true then ∃ t, exec (.periodBoundary k) s = .next t ∧ t.get CNV_MTP_STATE = (if st = 0 then 1 else st)
      ∧ t.cnv = { s.cnv with dueNext := false } ∧ OnlyNeeding [CNV_MTP_STATE] [.cnv] s t
    else exec (.periodBoundary k) s = .next s)
  ∧ (turn → s.mtpWindow = true → ∃ t, exec .storeJob s = .next t ∧ t.get CNV_MTP_STATE = 2 ∧ t.cnv = { s.cnv with captured := s.cnv.bins }
      ∧ Keeps [.flds, .cnv] s t ∧ KeepsFlds (among [CNV_MTP_STATE]) s t)
  ∧ (turn → s.mtpWindow = false → ∃ t, exec .storeJob s = .next t ∧ t.get CNV_MTP_STATE = 0 ∧ t.get CNV_MTP_FAILEV = 1
      ∧ t.get CNV_MTP_RESULT = (if s.windowTemp = true then 2 else 1)
      ∧ t.cnv = { s.cnv with dueNext := true, captured := [], committing := false } ∧ Keeps [.flds, .cnv, .mgt] s t
      ∧ KeepsFlds (among [CNV_MTP_STATE, CNV_MTP_RESULT, CNV_MTP_FAILEV]) s t)
  ∧ (¬ turn → exec .storeJob s = .next s)
  ∧ (if st = 2 then ∃ t, exec .storeInvalidated s = .next t ∧ t.get CNV_MTP_STATE = 3
      ∧ bank t b = { bank s b with committed := false, whole := false } ∧ onlyBank t
      ∧ Keeps [.flds, .mtp] s t ∧ KeepsFlds (among [CNV_MTP_STATE]) s t
    else exec .storeInvalidated s = .next s)
  ∧ (if st = 3 then ∃ t, exec .storeWritten s = .next t ∧ t.get CNV_MTP_STATE = 4
      ∧ bank t b = { bank s b with bins := s.cnv.captured } ∧ onlyBank t
      ∧ Keeps [.flds, .mtp] s t ∧ KeepsFlds (among [CNV_MTP_STATE]) s t
    else exec .storeWritten s = .next s)
  ∧ (st = 4 →
    (∃ t, exec (.storeVerified true) s = .next t ∧ t.get CNV_MTP_STATE = 5 ∧ bank t b = { bank s b with whole := true } ∧ onlyBank t
      ∧ fails t b = 0 ∧ Keeps [.flds, .mtp, .cnv] s t ∧ KeepsFlds (among [CNV_MTP_STATE]) s t)
    ∧ (∃ t, exec (.storeVerified false) s = .next t ∧ t.get CNV_MTP_STATE = 0 ∧ t.get CNV_MTP_RESULT = 3 ∧ t.get CNV_MTP_FAILEV = 1
      ∧ fails t b = fails s b + 1 ∧ (3 ≤ fails s b + 1 → t.get CNV_MTP_WORN = 1) ∧ t.cnv.dueNext = decide (fails s b + 1 < 3)
      ∧ t.cnv.bins = s.cnv.bins
      ∧ Keeps [.flds, .cnv, .mgt] s t ∧ KeepsFlds (among [CNV_MTP_STATE, CNV_MTP_RESULT, CNV_MTP_FAILEV, CNV_MTP_WORN]) s t))
  ∧ (st ≠ 4 → exec (.storeVerified right) s = .next s)
  ∧ (st ≠ 5 → exec .storeCommitted s = .next s)
  ∧ (st = 5 → ∃ t, exec .storeCommitted s = .next t ∧ t.get CNV_MTP_ACTIVE = b ∧ t.get CNV_MTP_SEQ = q
      ∧ t.get CNV_MTP_RESULT = 0 ∧ t.get CNV_MTP_DONEEV = 1
      ∧ bank t b = { bank s b with committed := true, seq := q, count := (bank s b).count + 1 } ∧ onlyBank t
      ∧ t.cnv = { s.cnv with captured := [], committing := false, lastStore := some s.clk.dev } ∧ PostedFirst s t 0x30 0x04 0 [0, b, q]
      ∧ OnlyBlocks [0x02, 0x10, 0x30] [.polders, .lanes, .mtp, .mgt, .cnv] s t))

/-- R391, R392: each second takes the offset of every present input, the mean of the last QUALWIN of them, and its deviation from the median
of XO and the other QUALIFIED inputs; an unranked input is EXCLUDED, one not present is LOST with cause LOS, a present ranked one that was
EXCLUDED or LOST qualifies for QUALWIN seconds, one that qualifies starts its timer afresh beyond SOFT and becomes QUALIFIED when the
timer ends, and a QUALIFIED one beyond HARD qualifies again with cause OFFSET. R390, R392: LOS makes an input LOST at once and posts a
qualified one. R398: each bandwidth step raises BW, and the fourth locks the loop. R399: an eligible sample joins the history. R400: the
end of the build-out is shown and posted. A step that does not apply has no effect. R402, R405, R412, R418: at a published superframe
boundary FPO is given while it is on and an enable has completed, and the ring master with its wicket open lets a SYNC wait for an idle
gap, and the DELAY after every 256th; TIM_OUT takes a write whose frequency codes are both defined, and ignores any other. -/
def Obligations.ReferencesAndOutputs : Prop :=
  (∀ (x : RefSecond) (i : Fin 4) (s : State),
  let bw := s.get TIM_STATUS_BW
  (x.wf = false → exec (.qualificationSecond x) s = .fault .illFormed)
  ∧ (x.wf = true → ∃ t, exec (.qualificationSecond x) s = .next t ∧ OnlyBlocks [0x05] [.clk, .tim, .freeN] s t
      ∧ ∀ n, n < 7 →
        let st := s.get (TIM_IN_STATE n)
        let seen := ((x.offsets.getD n 0 :: (s.timIn n).means).take 4095).take s.qualwin
        let d := (t.timIn n).d
        let goes (st timer : Nat) : Prop := t.get (TIM_IN_STATE n) = st ∧ t.get (TIM_IN_QLEFT n) = timer
        (s.present n = true → (t.timIn n).f = seen.sum / seen.length)
        ∧ d = (t.timIn n).f - medianInt (0 :: (s.qualified.filter (fun j => j != n)).map (fun j => (t.timIn j).f))
        ∧ (if s.rank n = 15 then goes 0 0
          else if s.present n = false then (st ≠ 0 → goes 1 0 ∧ t.get (TIM_IN_CAUSE n) = 1)
          else if st ≤ 1 then goes 2 s.qualwin
          else if st = 2 then (if s.soft < d.natAbs then goes 2 s.qualwin
            else s.get (TIM_IN_QLEFT n) ≤ 4096 → goes (if s.get (TIM_IN_QLEFT n) - 1 = 0 then 3 else 2) (s.get (TIM_IN_QLEFT n) - 1))
          else s.hard < d.natAbs → goes 2 s.qualwin ∧ t.get (TIM_IN_CAUSE n) = 2 ∧ t.get TIM_EVENT_DISQ = 1))
  ∧ (if s.get (TIM_IN_STATE i) = 0 then ∃ t, exec (.los i) s = .next t ∧ (t.timIn i).active = false ∧ Keeps [.tim] s t
    else ∃ t, exec (.los i) s = .next t ∧ t.get (TIM_IN_STATE i) = 1 ∧ t.get (TIM_IN_CAUSE i) = 1
      ∧ (t.timIn i).active = false
      ∧ (s.get (TIM_IN_STATE i) = 3 → t.get TIM_EVENT_DISQ = 1 ∧ PostedFirst s t 0x05 0x02 0 [i, 0, 1, iw (ppm100 (s.timIn i).d)])
      ∧ OnlyBlocks [0x05] [.clk, .tim, .freeN] s t)
  ∧ (∃ t, exec (.refActive i) s = .next t ∧ (t.timIn i).active = true ∧ OnlyNeeding [] [.tim] s t)
  ∧ (s.get TIM_STATUS_LOOP ≠ 2 → exec .bandwidthStep s = .next s)
  ∧ (s.get TIM_STATUS_LOOP = 2 → bw < 4 → ∃ t, exec .bandwidthStep s = .next t ∧ t.get TIM_STATUS_BW = bw + 1
      ∧ t.get TIM_STATUS_LOOP = (if bw = 3 then 3 else 2) ∧ Only [TIM_STATUS_BW, TIM_STATUS_LOOP] s t)
  ∧ (s.tim.waiting = [] → exec .sampleEligible s = .next s)
  ∧ (∀ y r, s.tim.waiting = y :: r →
      let l := (y :: s.tim.eligible).take 900
      ∃ t, exec .sampleEligible s = .next t
      ∧ t.tim = { s.tim with waiting := r, eligible := l, est := l.sum / l.length } ∧ t.get TIM_HOLD_HIST = l.length
      ∧ t.get TIM_STATUS_HOAVAIL = (decide (899 ≤ s.tim.eligible.length)).toNat
      ∧ Keeps [.flds, .tim] s t ∧ KeepsFlds (among [TIM_HOLD_HIST, TIM_STATUS_HOAVAIL, TIM_HOLD_EST]) s t)
  ∧ (s.tim.pull = 0 → exec .pulldone s = .next s)
  ∧ (s.tim.pull ≠ 0 → ∃ t, exec .pulldone s = .next t ∧ t.tim = { s.tim with pull := 0 } ∧ t.get TIM_PULL_REMAIN = 0
      ∧ t.get TIM_STATUS_PULL = 0 ∧ t.get TIM_EVENT_PULLDONE = 1 ∧ Posted s t 0x05 0x07 0 [s.get TIM_STATUS_SEL]
      ∧ OnlyPosting [TIM_PULL_REMAIN, TIM_STATUS_PULL, TIM_EVENT_PULLDONE] [.tim] s t))
  ∧ (∀ (v : W32) (s : State),
  let good := freqOk (fieldOf v.toNat 27 4) = true ∧ freqOk (fieldOf v.toNat 22 4) = true
  let out := [TIM_OUT_H0EN, TIM_OUT_H0FREQ, TIM_OUT_H1EN, TIM_OUT_H1FREQ, TIM_OUT_SQFR, TIM_OUT_FPOEN]
  let pulse := s.on TIM_STATUS_PUBLISHED && s.on TIM_OUT_FPOEN && (s.carA.everEnabled || s.carB.everEnabled)
  let sends := s.get TIM_STATUS_PUBLISHED = 1 ∧ s.get TIM_RINGCTL_MASTER = 1 ∧ s.wicketOpen = true
  let delay : List (Nat × Nat) := if (s.tim.syncs + 1) % 256 = 0 then [(3, s.tim.share * 2 ^ 48)] else []
  (∃ t, exec .publishedSuperframeBoundary s = .next t ∧ Keeps [.tim] s t
      ∧ t.tim = (if sends then { s.tim with fpo := pulse, syncs := s.tim.syncs + 1,
                                            ringWait := s.tim.ringWait ++ (1, s.clk.dev % 2 ^ 64) :: delay }
        else { s.tim with fpo := pulse }))
  ∧ (Reaches s adr_TIM_OUT →
    (¬ good → exec (.timOutWrite v) s = .next s)
    ∧ (good → ∃ t, exec (.timOutWrite v) s = .next t ∧ (∀ f ∈ out, t.get f = fieldOf v.toNat f.lo f.width) ∧ Only out s t)))

/-- R408, R409: code groups on RING_IN are judged one by one and the invalid ones counted; the link comes up after 1,024 valid ones in a row
and goes down on a loss of signal or at 16 invalid ones within 1,024; the wicket opens while the ring is enabled, the link up and rail and
reset allow it, and closes when the ring is not enabled; a report whose condition does not hold changes no link and no wicket. R414: the
device's own STATE waits for an idle gap, and a silent peer loses VALID. (RING event codes: the model's choice, log entry 26; the tables
of the 8b/10b code: entry 90.) R409 to R414: a message passes a closed wicket as it came; one whose CRC-16 over bytes 0 to 13 fails is
counted and discarded, and one of another type discarded; a SYNC of the master gives the phase, and device time with TODEN 1, a DELAY its
share, and a STATE the peer's bits, posted when they change; the master's own SYNC gives SHARE. Through an open wicket a message of
another device goes on with one hop more, its residence added and a CRC of its own, unless its hops are spent; an own one is removed, and
one that this device has not sent sets DUPID. -/
def Obligations.LeveeRing : Prop :=
  (∀ (x : RingHeard) (p : Fin 16) (s : State),
  let heard := s.tim.hear (x.groups.map BitVec.toNat)
  let counted (t : State) : Prop := t.get TIM_RINGERR_CODE = satAdd 16 (s.get TIM_RINGERR_CODE) heard.2
  let still (t : State) : Prop := counted t ∧ Keeps [.flds, .tim] s t ∧ KeepsFlds (among [TIM_RINGERR_CODE]) s t
  let may := s.get TIM_RINGCTL_EN = 1 ∧ s.get TIM_RINGSTAT_LINK = 1 ∧ 5 ∈ s.rails.good ∧ s.rst.asserted = false ∧ s.wicketOpen = false
  (if s.get TIM_RINGSTAT_LINK ≠ 1 ∧ 1024 ≤ s.tim.validRun then
      ∃ t, exec .ringLinkUp s = .next t ∧ t.get TIM_RINGSTAT_LINK = 1 ∧ t.tim = s.tim
        ∧ PostedFirst s t 0x05 0x09 0 [2] ∧ OnlyNeeding [TIM_RINGSTAT_LINK] [] s t
    else exec .ringLinkUp s = .next s)
  ∧ (if s.get TIM_RINGSTAT_LINK = 1 ∧ (x.los = true ∨ 16 ≤ (heard.1.latest.filter (fun b => !b)).length) then
      ∃ t, exec (.ringLinkDown x) s = .next t ∧ t.get TIM_RINGSTAT_LINK = 0 ∧ counted t
        ∧ PostedFirst s t 0x05 0x09 0 [3] ∧ OnlyBlocks [0x05] [.clk, .tim, .freeN] s t
    else ∃ t, exec (.ringLinkDown x) s = .next t
      ∧ t.tim = (if x.los = true then { heard.1 with validRun := 0, latest := [] } else heard.1) ∧ still t)
  ∧ (if may then ∃ t, exec .wicketOpen s = .next t ∧ t.get TIM_RINGSTAT_WICKET = 1 ∧ Posted s t 0x05 0x09 0 [1]
      ∧ OnlyPosting [TIM_RINGSTAT_WICKET] [] s t
    else exec .wicketOpen s = .next s)
  ∧ (if s.get TIM_RINGCTL_EN ≠ 1 ∧ s.wicketOpen = true then
      ∃ t, exec .wicketClose s = .next t ∧ t.get TIM_RINGSTAT_WICKET = 0 ∧ t.tim = { s.tim with ringWait := [] }
        ∧ Posted s t 0x05 0x09 0 [0] ∧ OnlyPosting [TIM_RINGSTAT_WICKET] [.tim] s t
    else exec .wicketClose s = .next s)
  ∧ (if s.wicketOpen = true then ∃ t, exec .stateSend s = .next t
      ∧ t.tim = { s.tim with ringWait := s.tim.ringWait ++ [(2, s.stateContent * 2 ^ 48)] } ∧ Keeps [.tim] s t
    else exec .stateSend s = .next s)
  ∧ ∃ t, exec (.peerTimeout p) s = .next t ∧ t.get (TIM_PEER_VALID p) = 0 ∧ Only [TIM_PEER_VALID p] s t)
  ∧ (∀ (m : RingIn) (at_ : Nat) (s : State),
  let src := m.src
  let k := m.hops + 1
  let link := if s.get TIM_RINGCTL_LINKDLY ≠ 0 then s.get TIM_RINGCTL_LINKDLY else s.tim.share
  let path : Int := m.res + k * link
  let e : Int := (m.payload : Int) - ((s.clk.dev : Int) - path - 1000)
  let peer := [TIM_PEER_VALID src, TIM_PEER_ASF src, TIM_PEER_ASD src, TIM_PEER_BSF src, TIM_PEER_BSD src, TIM_PEER_CPSEL src, TIM_PEER_CPREQ src]
  let content := m.payload / 2 ^ 48
  let checks := crcBits 16 0x1021 0xFFFF (bitsBE 112 (m.msg.toNat / 2 ^ 16)) = m.crc
  let out (t : State) (x : RingMsg) : Prop := t.tim.ringOut = some x ∧ t.tim.ringLine = (codeGroups x.octets s.tim.outPlus).1
  let forwards (t : State) : Prop :=
    (s.wicketOpen = false → out t (ringAsIs m))
    ∧ (s.wicketOpen = true → m.hops < 15 → out t (ringMsg m.ty src k m.seq m.payload ((m.res + 160 + m.above) % 65536)))
    ∧ (s.wicketOpen = true → 15 ≤ m.hops → t.tim.ringOut = s.tim.ringOut)
  let other (i : Instr) (ty : Nat) : Prop := (i = .ringSync m at_ ∧ ty = 1) ∨ (i = .ringState m ∧ ty = 2) ∨ (i = .ringDelay m ∧ ty = 3)
  let slave := s.get TIM_RINGCTL_MASTER ≠ 1 ∧ src = s.get TIM_RINGCTL_MID
  (∀ i ty, other i ty →
    (¬ checks → ∃ t, exec i s = .next t ∧ t.get TIM_RINGERR_CRC = satAdd 16 (s.get TIM_RINGERR_CRC) 1
      ∧ (s.wicketOpen = false → out t (ringAsIs m)) ∧ (s.wicketOpen = true → t.tim = s.tim)
      ∧ Keeps [.flds, .tim] s t ∧ KeepsFlds (among [TIM_RINGERR_CRC]) s t)
    ∧ (checks → m.ty ≠ ty → ∃ t, exec i s = .next t ∧ (s.wicketOpen = false → out t (ringAsIs m)) ∧ (s.wicketOpen = true → t.tim = s.tim)
      ∧ Keeps [.tim] s t)
    ∧ (checks → m.ty = ty → src = s.get TIM_RINGCTL_ID → s.wicketOpen = true → m.seq ∉ s.tim.sent → ∃ t, exec i s = .next t
      ∧ t.get TIM_RINGSTAT_DUPID = 1 ∧ t.tim = s.tim ∧ Posted s t 0x05 0x09 0 [4] ∧ OnlyPosting [TIM_RINGSTAT_DUPID] [] s t))
  ∧ (checks → m.ty = 1 → src = s.get TIM_RINGCTL_ID → s.get TIM_RINGCTL_MASTER = 1 → s.wicketOpen = true → m.seq ∈ s.tim.sent →
      ∃ t, exec (.ringSync m at_) s = .next t ∧ t.tim = { s.tim with share := (at_ - m.res) / k % 65536 }
      ∧ t.get TIM_RINGSTAT_LINKS = min 31 k ∧ t.get TIM_RINGSTAT_SHARE = (at_ - m.res) / k % 65536
      ∧ Keeps [.flds, .tim] s t ∧ KeepsFlds (among [TIM_RINGSTAT_LINKS, TIM_RINGSTAT_SHARE]) s t)
  ∧ (checks → src ≠ s.get TIM_RINGCTL_ID →
    (m.ty = 1 → slave → ∃ t, exec (.ringSync m at_) s = .next t ∧ t.getI TIM_RINGPH_OFS = wrapPhase (-(at_ - path - 1000))
      ∧ t.get TIM_RINGSTAT_LINKS = min 31 k ∧ t.get TIM_RINGSTAT_SHARE = link % 65536 ∧ forwards t
      ∧ (s.get TIM_RINGCTL_TODEN ≠ 1 → t.clk = s.clk ∧ t.evq = s.evq)
      ∧ (s.get TIM_RINGCTL_TODEN = 1 → s.mgtOn = true → t.clk = { s.clk with
          dev := ((s.clk.dev + (if 1000 < e.natAbs then e else e.tdiv 16)) % (2 : Int) ^ 64).toNat })
      ∧ OnlyPosting [TIM_RINGPH_OFS, TIM_RINGSTAT_LINKS, TIM_RINGSTAT_SHARE, MGT_TIME_UNCERT_UNCERT] [.tim, .clk] s t)
    ∧ (m.ty = 1 → ¬ slave → ∃ t, exec (.ringSync m at_) s = .next t ∧ forwards t ∧ Keeps [.tim] s t)
    ∧ (m.ty = 3 → ∃ t, exec (.ringDelay m) s = .next t ∧ t.tim.share = (if slave then content else s.tim.share) ∧ forwards t
      ∧ Keeps [.tim] s t)
    ∧ (m.ty = 2 → ∃ t, exec (.ringState m) s = .next t ∧ t.get (TIM_PEER_VALID src) = 1
      ∧ t.get (TIM_PEER_ASF src) = bitOf content 15 ∧ t.get (TIM_PEER_ASD src) = bitOf content 14
      ∧ t.get (TIM_PEER_BSF src) = bitOf content 13 ∧ t.get (TIM_PEER_BSD src) = bitOf content 12
      ∧ t.get (TIM_PEER_CPSEL src) = bitOf content 11 ∧ t.get (TIM_PEER_CPREQ src) = fieldOf content 4 4
      ∧ ((∀ f ∈ peer, t.get f = s.get f) → t.evq = s.evq)
      ∧ ((∃ f ∈ peer, t.get f ≠ s.get f) → PostedFirst s t 0x05 0x0B 0 [src, content])
      ∧ forwards t ∧ OnlyNeeding peer [.tim] s t)))

/-- R424, R426, R427, R429, R443: the host claims a FREE bank and releases a HOST one, which is cleared throughout before it is FREE or
RETIRED; a claim or release of a bank that is not so is refused with RESULT 1, one of a bank that does not exist with 2; MEM_ACC writes
and reads one word of a HOST bank and no other byte, and is denied on any other; ARM is accepted on a HOST bank alone, and the next write
there upsets the bits that it names. -/
def Obligations.HostBanks : Prop := ∀ (n : BitVec 8) (word : BitVec 16) (poison coll : Bool) (v : W32) (s : State),
  let b := n.toNat
  let w := bankWord b word.toNat
  let k := fieldOf v.toNat 0 8
  let host := b < 192 ∧ s.owner b = 8
  let ctl := [MEM_ACCCTL_WRITE, MEM_ACCCTL_POISON, MEM_ACCCTL_BANK, MEM_ACCCTL_WORD]
  let stat := [MEM_ACCSTAT_DENIED, MEM_ACCSTAT_COLL, MEM_ACCSTAT_POISON, MEM_ACCSTAT_UE, MEM_ACCSTAT_CE]
  let inj := [ECC_INJ_DOUBLE, ECC_INJ_BIT1, ECC_INJ_BIT2, ECC_INJ_BANK]
  let claim := [MEM_CLAIM_BANK, MEM_CLAIM_REL, MEM_CLAIMSTAT_RESULT]
  let armed := s.get ECC_INJ_ARM = 1 ∧ s.get ECC_INJ_BANK = b
  let one (i : Nat) : Nat := if i < 73 then 2 ^ i else 0
  let mask := if armed then Nat.xor (one (s.get ECC_INJ_BIT1)) (if s.get ECC_INJ_DOUBLE = 1 then one (s.get ECC_INJ_BIT2) else 0) else 0
  (Reaches s adr_MEM_CLAIM →
    (if 192 ≤ b then ∀ i ∈ [Instr.memClaim n, .memRelease n], ∃ t, exec i s = .next t ∧ t.get MEM_CLAIMSTAT_RESULT = 2 ∧ Only claim s t
      else
        (s.owner b = 0 → ∃ t, exec (.memClaim n) s = .next t ∧ t.owner b = 8 ∧ t.get MEM_CLAIMSTAT_RESULT = 0
          ∧ Only (MEM_BANK_STATUS_OWNER b :: claim) s t)
        ∧ (s.owner b ≠ 0 → ∃ t, exec (.memClaim n) s = .next t ∧ t.get MEM_CLAIMSTAT_RESULT = 1 ∧ Only claim s t)
        ∧ (s.owner b ≠ 8 → ∃ t, exec (.memRelease n) s = .next t ∧ t.get MEM_CLAIMSTAT_RESULT = 1 ∧ Only claim s t)
        ∧ (s.owner b = 8 → ∃ t, exec (.memRelease n) s = .next t ∧ t.owner b = 9 ∧ t.get MEM_CLAIMSTAT_BUSY = 1
          ∧ t.get MEM_CLAIMSTAT_RESULT = 0 ∧ t.get ECC_INJ_ARM = (if armed then 0 else s.get ECC_INJ_ARM)
          ∧ t.mem = { s.mem with clearing := b :: s.mem.clearing } ∧ Keeps [.flds, .mem] s t
          ∧ KeepsFlds (among (MEM_CLAIMSTAT_BUSY :: MEM_BANK_STATUS_OWNER b :: ECC_INJ_ARM :: claim)) s t)))
  ∧ (∀ c : Fin 192,
    (s.owner c ≠ 9 → exec (.clearDone c) s = .next s)
    ∧ (s.owner c = 9 → ∃ t, exec (.clearDone c) s = .next t
      ∧ t.owner c = (if s.get (MEM_BANK_STATUS_RETPEND c) = 1 then 0x0A else 0)
      ∧ (s.get (MEM_BANK_STATUS_RETPEND c) = 1 → t.get (MEM_BANK_STATUS_RETIRED c) = 1 ∧ t.get (MEM_BANK_STATUS_RETPEND c) = 0)
      ∧ (c.val ∈ s.mem.clearing → t.get MEM_CLAIMSTAT_BUSY = 0)
      ∧ (∀ a, a / 8 / 65536 = c.val → Memory.read t.mem.bytes a = 0)
      ∧ (∀ a, a / 8 / 65536 ≠ c.val → Memory.read t.mem.bytes a = Memory.read s.mem.bytes a)
      ∧ OnlyBlocks [0x02, 0x06, 0x10] [.mem, .polders, .lanes] s t))
  ∧ (Reaches s adr_MEM_ACCCTL →
    (host → ∃ t, exec (.accWrite n word poison coll) s = .next t
      ∧ t.wordData w = (s.get MEM_ACCDHI_DATA * 2 ^ 32 + s.get MEM_ACCDLO_DATA) % 2 ^ 64
      ∧ Assoc.get 0 w t.mem.flips = mask ∧ (armed → t.get ECC_INJ_ARM = 0)
      ∧ t.mem.poison.contains w = poison ∧ (∀ f ∈ stat, t.get f = if f.key = MEM_ACCSTAT_COLL.key then coll.toNat else 0)
      ∧ (coll = true → t.get MEM_COLL_COUNT = satAdd 32 (s.get MEM_COLL_COUNT) 1)
      ∧ (∀ a, a / 8 ≠ w → Memory.read t.mem.bytes a = Memory.read s.mem.bytes a)
      ∧ Keeps [.flds, .mem] s t ∧ KeepsFlds (among (ctl ++ stat ++ (if armed then [ECC_INJ_ARM] else []) ++ (if coll = true then [MEM_COLL_COUNT] else []))) s t)
    ∧ (host → Assoc.get 0 w s.mem.flips = 0 → s.wordPoison w = false → ∃ t, exec (.accRead n word 0) s = .next t
      ∧ t.get MEM_ACCDHI_DATA = s.wordData w / 2 ^ 32 ∧ t.get MEM_ACCDLO_DATA = s.wordData w % 2 ^ 32 ∧ (∀ f ∈ stat, t.get f = 0)
      ∧ Only (ctl ++ stat ++ [MEM_ACCDHI_DATA, MEM_ACCDLO_DATA]) s t)
    ∧ (¬ host → ∀ i ∈ [Instr.accWrite n word poison coll, .accRead n word 0], ∃ t, exec i s = .next t
      ∧ (∀ f ∈ stat, t.get f = if f.key = MEM_ACCSTAT_DENIED.key then 1 else 0) ∧ Only (ctl ++ stat) s t))
  ∧ (Reaches s adr_ECC_INJ → ∃ t, exec (.injArm v) s = .next t
      ∧ t.get ECC_INJ_ARM = (if k < 192 ∧ s.owner k = 8 then 1 else s.get ECC_INJ_ARM)
      ∧ (∀ f ∈ inj, t.get f = fieldOf v.toNat f.lo f.width) ∧ Only (ECC_INJ_ARM :: inj) s t)

/-- R419, R420, R432, R438: a read of a word with one flipped bit, by the scrubber or by MEM_ACC, corrects it, counts it and leaves every byte
and POISON bit as they read; with two flipped bits it poisons the word, counts and posts it, and changes no byte outside it; MEM_ACC says
which, and counts and posts a poisoned word that it takes in. The scrubber changes nothing while it is off, its bank is off or from
shutter step 7 on, nor in a clean word that holds something; an idle word of bank 187 loses its POISON (entry 91). R433: a leak lowers the
bucket by one and ends a burst at half the threshold. R435, R436, R437, R484: a background test starts on a bank that is on, unless a test
of it runs; a block without a failure moves a test on or ends it, one with a single failing column takes a spare, logs and posts it, one
with more, or with no spare left, ends the test and retires the bank. R106, R440, R446: on its turn in class 3 the oldest waiting log
entry is written inside the write window, and outside it waits at the end of the class; CLR empties the log in MANUFACTURE only; LOGSEL
captures an entry. -/
def Obligations.ErrorCorrectionAndTests : Prop :=
  (∀ (b : Fin 192) (word : BitVec 16) (upset : BitVec 73) (s : State),
  let w := bankWord b word.toNat
  let level := s.get (MEM_BANK_STATUS_BUCKET b) - 1
  let mask := upset.toNat
  let n := BitVec.ofNat 8 b.val
  let scrubs := s.get MEM_SCRUB_EN = 1 ∧ s.bankOn b = true ∧ s.shutter < 7
  let corrected (t : State) : Prop := SameBytes s t ∧ Assoc.get 0 w t.mem.flips = 0
      ∧ t.get ECC_CECNT_COUNT = satAdd 32 (s.get ECC_CECNT_COUNT) 1 ∧ t.get ECC_LAST_BANK = b ∧ t.get ECC_LAST_WORD = word.toNat
      ∧ t.get ECC_LAST_UE = 0 ∧ OnlyBlocks [0x06, 0x07] [.mem] s t
  let bad (t : State) : Prop := t.wordData w = Nat.xor (s.wordData w) (mask % 2 ^ 64) ∧ Assoc.get 0 w t.mem.flips = 0
      ∧ (∀ a, a / 8 ≠ w → Memory.read t.mem.bytes a = Memory.read s.mem.bytes a)
      ∧ t.get ECC_UECNT_COUNT = satAdd 32 (s.get ECC_UECNT_COUNT) 1 ∧ t.get ECC_EVENT_UE = 1 ∧ t.get ECC_LAST_UE = 1
      ∧ PostedFirst s t 0x06 0x01 (hBank b) [word.toNat] ∧ OnlyBlocks [0x06, 0x07] [.mem] s t
  let shown (t : State) (d : Nat) (p u c : Bool) : Prop := t.get MEM_ACCDHI_DATA = d / 2 ^ 32 ∧ t.get MEM_ACCDLO_DATA = d % 2 ^ 32
      ∧ t.get MEM_ACCSTAT_DENIED = 0 ∧ t.get MEM_ACCSTAT_POISON = p.toNat ∧ t.get MEM_ACCSTAT_UE = u.toNat ∧ t.get MEM_ACCSTAT_CE = c.toNat
  (¬ scrubs → exec (.scrubRead b word upset) s = .next s)
  ∧ (scrubs → Assoc.get 0 w s.mem.flips = 0 →
    (mask = 0 → s.idleWord w = false → exec (.scrubRead b word upset) s = .next s)
    ∧ (mask = 0 → s.idleWord w = true → ∃ t, exec (.scrubRead b word upset) s = .next t
      ∧ t.mem = { s.mem with poison := s.mem.poison.filter (fun x => x != w) } ∧ Keeps [.mem] s t)
    ∧ (popCount 73 mask = 1 → ∃ t, exec (.scrubRead b word upset) s = .next t ∧ corrected t
      ∧ ∀ x, (s.idleWord w = false ∨ x ≠ w) → t.wordPoison x = s.wordPoison x)
    ∧ (popCount 73 mask = 2 → ∃ t, exec (.scrubRead b word upset) s = .next t ∧ bad t ∧ (s.idleWord w = false → t.wordPoison w = true)))
  ∧ (Reaches s adr_MEM_ACCCTL → s.owner b = 8 → Assoc.get 0 w s.mem.flips = 0 →
    (s.wordPoison w = false → popCount 73 mask = 1 → ∃ t, exec (.accRead n word upset) s = .next t ∧ corrected t
      ∧ shown t (s.wordData w) false false true)
    ∧ (popCount 73 mask = 2 → ∃ t, exec (.accRead n word upset) s = .next t ∧ bad t ∧ t.wordPoison w = true
      ∧ shown t (Nat.xor (s.wordData w) (mask % 2 ^ 64)) true true false)
    ∧ (s.wordPoison w = true → mask = 0 → ∃ t, exec (.accRead n word upset) s = .next t ∧ shown t (s.wordData w) true false false
      ∧ t.get ECC_PCONS_SLU = satAdd ECC_PCONS_SLU.width (s.get ECC_PCONS_SLU) 1 ∧ Posted s t 0x06 0x06 (hBank b) [word.toNat, 1]
      ∧ OnlyBlocks [0x06, 0x07] [] s t))
  ∧ (level < 128 → ∃ t, exec (.bucketLeak b) s = .next t ∧ t.get (MEM_BANK_STATUS_BUCKET b) = level
      ∧ t.mem = { s.mem with burst := if level ≤ s.get ECC_BUCKET_THRESH / 2 then s.mem.burst.filter (fun x => x != b.val) else s.mem.burst }
      ∧ Keeps [.flds, .mem] s t ∧ KeepsFlds (among [MEM_BANK_STATUS_BUCKET b]) s t))
  ∧ (∀ (b : Fin 192) (fails : BitVec 73) (v : W32) (s : State),
  let spares := s.get (MEM_BANK_STATUS_SPARES b)
  let e := (s.mtp.log[fieldOf v.toNat 0 8]?).getD ⟨0, 0, 0, 0, 0, 0⟩
  let starts := s.get MEM_BIST_EN = 1 ∧ s.bankOn b = true ∧ s.shutter < 7
  let turn := s.class3Turn .log = true
  (¬ starts → exec (.bistStart b) s = .next s)
  ∧ (starts → (∀ j ∈ s.mem.tests, j.bank = b.val → j.hard = true) → ∃ t, exec (.bistStart b) s = .next t
      ∧ t.get (MEM_BANK_STATUS_TESTING b) = 1
      ∧ t.mem = { s.mem with tests := s.mem.tests ++ [⟨b, 0, 65535, false, true, false⟩] }
      ∧ Keeps [.flds, .mem] s t ∧ KeepsFlds (among [MEM_BANK_STATUS_TESTING b]) s t)
  ∧ (starts → (∃ j ∈ s.mem.tests, j.bank = b.val ∧ j.hard = false) → exec (.bistStart b) s = .next s)
  ∧ (s.testOf b = none → exec (.testBlock b fails) s = .next s)
  ∧ (∀ j, s.testOf b = some j →
    if s.bankOn b = false ∨ (j.background = true ∧ s.shutter = 7) then exec (.testBlock b fails) s = .next s else
    (j.next + 64 ≤ j.last → ∃ t, exec (.testBlock b 0) s = .next t ∧ t.testOf b = some { j with next := j.next + 64 } ∧ SameBytes s t
      ∧ Keeps [.mem] s t)
    ∧ (j.last < j.next + 64 → (∀ x ∈ s.mem.tests, x.bank = b.val → x = j) → s.mem.tests.Nodup → ∃ t, exec (.testBlock b 0) s = .next t
      ∧ t.testOf b = none ∧ t.get (MEM_BANK_STATUS_TESTING b) = 0 ∧ SameBytes s t ∧ OnlyBlocks [0x06, 0x07] [.mem, .mgt] s t)
    ∧ (popCount 73 fails.toNat = 1 → spares ≠ 0 → spares < 16 → j.next + 64 ≤ j.last → ∃ t, exec (.testBlock b fails) s = .next t
      ∧ t.get (MEM_BANK_STATUS_SPARES b) = spares - 1 ∧ t.get ECC_EVENT_REPAIR = 1
      ∧ t.testOf b = some { j with next := j.next + 64, repaired := true }
      ∧ PostedFirst s t 0x06 0x04 (hBank b) [j.next / 4096, (lowBit 73 fails.toNat).getD 0, spares - 1]
      ∧ SameBytes s t ∧ OnlyBlocks [0x06, 0x07] [.mem, .mgt] s t)
    ∧ ((popCount 73 fails.toNat = 1 ∧ spares = 0) ∨ 1 < popCount 73 fails.toNat →
      s.get (MEM_BANK_STATUS_RETIRED b) = 0 → s.get (MEM_BANK_STATUS_RETPEND b) = 0 →
      ∃ t, exec (.testBlock b fails) s = .next t ∧ t.get (MEM_BANK_STATUS_HARD b) = 1
      ∧ t.get (MEM_BANK_STATUS_RETIRED b) + t.get (MEM_BANK_STATUS_RETPEND b) = 1 ∧ t.get ECC_EVENT_RETIRE = 1
      ∧ SameBytes s t ∧ OnlyBlocks [0x06, 0x07] [.mem, .mgt] s t))
  ∧ (s.mem.log = [] ∨ ¬ turn → exec .logWrite s = .next s)
  ∧ (∀ x rest, s.mem.log = x :: rest → turn →
    (s.mtpWindow = false → ∃ t, exec .logWrite s = .next t ∧ t.mgt = { s.mgt with jobs := s.mgt.jobs.drop 1 ++ [.log] } ∧ Keeps [.mgt] s t)
    ∧ (s.mtpWindow = true →
      ∃ t, exec .logWrite s = .next t ∧ t.mtp = { s.mtp with log := s.mtp.log ++ [x] } ∧ t.mem = { s.mem with log := rest }
      ∧ t.get ECC_LOGCTL_ENTRIES = (s.mtp.log.length + 1) % 512 ∧ t.get ECC_LOGCTL_PEND = (!rest.isEmpty).toNat
      ∧ (s.mtp.log.length ≠ 255 → Keeps [.flds, .mem, .mtp, .mgt] s t ∧ KeepsFlds (among [ECC_LOGCTL_ENTRIES, ECC_LOGCTL_PEND]) s t)
      ∧ (s.mtp.log.length = 255 → t.get ECC_LOGCTL_FULL = 1 ∧ t.get ECC_EVENT_LOGFULL = 1 ∧ Posted s t 0x06 0x08 0 []
        ∧ OnlyBlocks [0x06, 0x07] [.mem, .mtp, .mgt] s t)))
  ∧ (Reaches s adr_ECC_LOGCTL →
    (s.mtp.lcs = 0 → ∃ t, exec .logClr s = .next t ∧ t.mtp = { s.mtp with log := [] } ∧ t.get ECC_LOGCTL_ENTRIES = 0
      ∧ t.get ECC_LOGCTL_FULL = 0 ∧ Keeps [.flds, .mtp] s t ∧ KeepsFlds (among [ECC_LOGCTL_ENTRIES, ECC_LOGCTL_FULL]) s t)
    ∧ (s.mtp.lcs ≠ 0 → exec .logClr s = .next s))
  ∧ (Reaches s adr_ECC_LOGSEL → ∃ t, exec (.logselWrite v) s = .next t ∧ t.get ECC_LOGSEL_ENTRY = fieldOf v.toNat 0 8
      ∧ t.get ECC_LOGDHI_BANK = e.bank % 256 ∧ t.get ECC_LOGDHI_CAUSE = e.cause % 16 ∧ t.get ECC_LOGDLO_TIME = e.time % 2 ^ 32
      ∧ Only [ECC_LOGSEL_ENTRY, ECC_LOGDHI_BANK, ECC_LOGDHI_KIND, ECC_LOGDHI_CAUSE, ECC_LOGDHI_SECTOR, ECC_LOGDHI_BIT, ECC_LOGDLO_TIME] s t))

/-- R453, R456, R459: once DWELL is over an unneeded polder begins the entry that it may take, unless WHOLD keeps it on, and WHOLD's end lets
it go. R453, R462, R465: an entry ends with the polder off or in retention, counted and posted; off loses the contents of a bank group,
and MGT's device time is saved; a wake latched meanwhile begins. A polder that is needed, or for which nothing changes, stays as it is.
R459, R462, R471: a reason that the polder's descriptor or a need names wakes it from retention or off, counted, recorded and posted; one
during an entry is latched; any other has no effect. R453, R465, R466: a wake ends with the polder on; MGT's device time is restored,
SLU's engines are idle, and a converter's start-up follows a wake of LINEx from off (R364). R461, R608: an address match and the timer
wake the polders that name them. -/
def Obligations.PolderStates : Prop :=
  (∀ (n : Fin 40) (px po : Nat) (s : State),
  let p := s.pd n
  let k := s.choose n
  let due := n.val ∈ polderList ∧ s.needed n = false
  let others (t : State) : Prop := ∀ m, m ≠ n.val → t.pd m = s.pd m
  let enters (t : State) : Prop := (t.pd n).st = .entering (k == 2) (p.st == .ret) ∧ t.get (PWR_PD_STATUS_STATE n) = 3 ∧ others t
    ∧ Keeps [.flds, .polders, .lanes] s t ∧ KeepsFlds (fun x => ofBlocks [0x10] x || among [PWR_PD_STATUS_STATE n] x) s t
  let mayEnter := (p.st = .on ∧ p.whold = false ∧ k ≠ 0) ∨ (p.st = .ret ∧ k = 2)
  let stays (q : Polder) (t : State) : Prop := t.pd n = q ∧ others t ∧ Keeps [.polders] s t
  let ended (d r : Bool) (t : State) : Prop := t.get (PWR_PD_EVENT_ENTERED n) = 1
    ∧ t.get (PWR_PD_WAKES_ENTRIES n) = satAdd 16 (s.get (PWR_PD_WAKES_ENTRIES n)) 1
    ∧ (n.val = 1 → t.clk.saved = s.clk.dev ∧ t.clk.px = px ∧ t.clk.po = po ∧ t.clk.asleep = true)
    ∧ (n.val ≠ 1 → PostedFirst s t 0x02 0x01 (hPolder n) [if r then 1 else 0, if d then 2 else 1]) ∧ others t
  (if due then
      (mayEnter → ∃ t, exec (.dwellExpiry n) s = .next t ∧ enters t)
      ∧ (¬ mayEnter → ∃ t, exec (.dwellExpiry n) s = .next t ∧ stays { p with dwelled := true } t)
    else exec (.dwellExpiry n) s = .next s)
  ∧ (p.dwelled = false → ∃ t, exec (.wholdExpiry n) s = .next t ∧ stays { p with whold := false } t)
  ∧ (p.dwelled = true → s.needed n = false → p.st = .on → k ≠ 0 → ∃ t, exec (.wholdExpiry n) s = .next t ∧ enters t)
  ∧ (p.dwelled = true → s.needed n = true → ∃ t, exec (.wholdExpiry n) s = .next t ∧ stays { p with whold := false } t)
  ∧ ((∀ d r, p.st ≠ .entering d r) → exec (.entryEnd n px po) s = .next s)
  ∧ (∀ r, n.val ≠ 0 → p.st = .entering true r → ∃ t, exec (.entryEnd n px po) s = .next t ∧ ended true r t
      ∧ (p.latched = [] → (t.pd n).st = .off ∧ t.get (PWR_PD_STATUS_STATE n) = 2)
      ∧ (p.latched ≠ [] → s.barred n = false → (t.pd n).st = .waking true ∧ t.get (PWR_PD_EVENT_REPLAY n) = 1)
      ∧ (∀ a, 16 ≤ n.val → a / 8 / 65536 / 8 = n.val - 16 → Memory.read t.mem.bytes a = 0)
      ∧ (∀ a, n.val < 16 ∨ a / 8 / 65536 / 8 ≠ n.val - 16 → Memory.read t.mem.bytes a = Memory.read s.mem.bytes a)
      ∧ Keeps [.flds, .shadow, .mem, .evq, .clk, .polders, .lanes, .poolA, .poolB, .engines, .mgt, .lineA, .lineB, .acqA, .acqB] s t)
  ∧ (∀ r, n.val ≠ 0 → p.st = .entering false r → ∃ t, exec (.entryEnd n px po) s = .next t ∧ ended false r t
      ∧ (p.latched = [] → s.needed n = true ∨ k ≠ 2 → (t.pd n).st = .ret ∧ t.get (PWR_PD_STATUS_STATE n) = 1)
      ∧ (p.latched = [] → s.needed n = false → k = 2 → (t.pd n).st = .entering true true)
      ∧ (p.latched ≠ [] → s.barred n = false → (t.pd n).st = .waking false ∧ t.get (PWR_PD_EVENT_REPLAY n) = 1)
      ∧ OnlyBlocks [0x02, 0x10] [.clk, .polders, .lanes] s t))
  ∧ (∀ (n : Fin 40) (src : BitVec 8) (v : W32) (s : State),
  let p := s.pd n
  let code := src.toNat
  let reason : Bool := if code = 0xFF then s.needed n else if code = 0xFD then s.tooDeep n
    else decide (code < 16) && s.bit (PWR_PD_STATUS_WAKE n) code
  let wakes (bit : Nat) (t : State) : Prop := ∀ m ∈ polderList, m ≠ 0 → s.bit (PWR_PD_STATUS_WAKE m) bit = true →
    ((s.pd m).st = .on → (t.pd m).whold = true)
    ∧ (s.barred m = false → (s.pd m).st = .ret → (t.pd m).st = .waking false)
    ∧ (s.barred m = false → (s.pd m).st = .off → (t.pd m).st = .waking true)
  let real := n.val ∈ polderList ∧ reason = true
  (¬ real → exec (.wake n src) s = .next s)
  ∧ (real →
    (s.barred n = false → p.st = .ret ∨ p.st = .off → ∃ t, exec (.wake n src) s = .next t
      ∧ (t.pd n).st = .waking (p.st == .off) ∧ t.get PWR_LASTWAKE_SRC = code ∧ t.get PWR_LASTWAKE_POLDER = n
      ∧ t.get (PWR_PD_WAKES_WAKES n) = satAdd 16 (s.get (PWR_PD_WAKES_WAKES n)) 1 ∧ (code < 16 → t.get (PWR_PD_EVENT_WOKE n) = 1)
      ∧ Posted s t 0x02 0x02 (hPolder n) [code] ∧ (∀ m, m ≠ n.val → t.pd m = s.pd m) ∧ OnlyNeeding [] [] s t)
    ∧ (∀ d r, p.st = .entering d r → code ∉ p.latched → ∃ t, exec (.wake n src) s = .next t
      ∧ t.pd n = { p with latched := p.latched ++ [code] } ∧ (∀ m, m ≠ n.val → t.pd m = s.pd m) ∧ Keeps [.polders] s t)
    ∧ (∀ d r, p.st = .entering d r → code ∈ p.latched → exec (.wake n src) s = .next s)
    ∧ (p.st = .on ∨ (∃ d, p.st = .waking d) ∨ (s.barred n = true ∧ (p.st = .ret ∨ p.st = .off)) → exec (.wake n src) s = .next s))
  ∧ ((∀ d, p.st ≠ .waking d) → exec (.wakeEnd n) s = .next s)
  ∧ (∀ d, p.st = .waking d → ∃ t, exec (.wakeEnd n) s = .next t ∧ (t.pd n).st = .on ∧ t.get (PWR_PD_STATUS_STATE n) = 0
      ∧ (∀ m, m ≠ n.val → t.pd m = s.pd m)
      ∧ (n.val = 1 → s.clk.asleep = true → t.clk.dev = s.clk.timeAfter s.clk.nx s.clk.no ∧ t.clk.asleep = false)
      ∧ (n.val = 2 → ∀ e, e < 4 → s.engState e = 0 → t.engState e = 1)
      ∧ (n.val = 3 ∨ n.val = 4 → d = true → n.val - 3 ∈ t.cnv.starting)
      ∧ (n.val ≠ 1 → PostedFirst s t 0x02 0x01 (hPolder n) [if d then 2 else 1, 0])
      ∧ Keeps [.flds, .mem, .evq, .clk, .polders, .pairProt, .tribs, .lanes, .groups, .engines, .mgt, .cnv] s t)
  ∧ (s.ready = false → exec .i2cAddressMatch s = .next s)
  ∧ (s.ready = true → ∃ t, exec .i2cAddressMatch s = .next t ∧ wakes 0 t ∧ OnlyNeeding [] [] s t)
  ∧ (s.clk.timerOn = false → exec .timer s = .next s)
  ∧ (s.clk.timerOn = true → ∃ t, exec .timer s = .next t ∧ t.get PWR_TIMER_MS = 0 ∧ t.clk = { s.clk with timerOn := false }
      ∧ wakes 6 t ∧ OnlyNeeding [PWR_TIMER_MS] [.clk] s t)
  ∧ (Reaches s adr_PWR_TIMER → ∃ t, exec (.pwrTimerWrite v) s = .next t ∧ t.get PWR_TIMER_MS = v.toNat
      ∧ t.clk = { s.clk with timerOn := decide (v.toNat ≠ 0), timerFs := 0 } ∧ Keeps [.flds, .clk] s t
      ∧ KeepsFlds (among [PWR_TIMER_MS]) s t))

/-- R448, R449, R450, R507, R612: a rail that comes is good, and one out of order, late, or VCNVH before VANA is flagged; before VAON nothing
is noticed; the fall of VSRD turns every host lane off, that of VANA or VCNVH takes both carriers' lock, and each is posted, as is its
return; a rail that stands as reported has no effect. The loss of VAON leaves the device not ready. The supply monitor decides the write
window: leaving it ends a store, unless its commit word is being written, and a transition that has not committed misses it (R379). R465,
R514: a stop and a return of XO_IN are shown and posted. -/
def Obligations.Supplies : Prop := ∀ (r : Fin 6) (late ok : Bool) (s : State),
  let held := r.val = 1 ∨ r.val = 2 ∨ r.val = 3
  let good := s.rails.good
  let window := s.windowTemp && ok
  let rails : Rails := { s.rails with aon3v := ok }
  let missed (o : LcsOp) : LcsOp := { o with missed := o.missed || (s.mgt.jobs.head? == some .lcs && !o.committed) }
  (r.val ∈ good ∨ r.val = 5 ∨ (s.ready = true ∧ held) → exec (.railGood r late) s = .next s)
  ∧ (r.val ∉ good → r.val ≠ 5 → ¬ (s.ready = true ∧ held) → ∃ t, exec (.railGood r late) s = .next t
      ∧ t.rails = { s.rails with good := insertNat r good }
      ∧ (5 ∉ good → Keeps [.rails] s t)
      ∧ (5 ∈ good → (late = true → t.get PWR_SEQ_LATE = 1)
        ∧ (r.val = 3 → 2 ∉ good → t.get PWR_SEQ_CNVFIRST = 1)
        ∧ (∀ q, q < 6 → railStep q < railStep r → q ∉ good → ¬ (r.val = 3 ∧ q = 2) → t.get PWR_SEQ_ORDER = 1))
      ∧ OnlyPosting [PWR_SEQ_LATE, PWR_SEQ_CNVFIRST, PWR_SEQ_ORDER] [.rails] s t)
  ∧ (¬ (held ∧ r.val ∈ good) → exec (.railFall r) s = .next s)
  ∧ (held → r.val ∈ good → ∃ t, exec (.railFall r) s = .next t ∧ t.rails = { s.rails with good := good.filter (fun q => q != r.val) }
      ∧ (r.val = 1 → ∀ l, l < 28 → t.get (HLN_LANE_STATUS_STATE l) = 0)
      ∧ (r.val ≠ 1 → s.carHeld = false → ∀ c, c < 2 → (s.car c).active = true → (s.car c).tx.running = true → (t.acq c).lock = none)
      ∧ (r.val = 2 → 3 ∈ good → t.get PWR_SEQ_CNVFIRST = 1) ∧ (s.mem.flips = [] → SameBytes s t)
      ∧ Keeps [.shadow, .mem, .rails, .lanes, .groups, .mgt, .flds, .evq, .clk, .carA, .carB, .pairProt, .tribs, .poolA, .poolB, .engines,
        .lineA, .lineB, .acqA, .acqB, .cnv, .tim, .freeN] s t)
  ∧ (¬ (held ∧ r.val ∉ good) → exec (.railReturn r) s = .next s)
  ∧ (held → r.val ∉ good → ∃ t, exec (.railReturn r) s = .next t ∧ t.rails = { s.rails with good := insertNat r good }
      ∧ (r.val = 1 → (∀ l, l < 28 → (s.pd (hlnPolder l)).st = .on → t.get (HLN_LANE_STATUS_STATE l) = 1)
          ∧ Posted s t 0x01 0x04 0 [1, 1] ∧ OnlyBlocks [0x10] [.rails, .lanes, .groups] s t)
      ∧ Keeps [.rails, .lanes, .groups, .mem, .mgt, .flds, .evq, .clk, .carA, .carB, .pairProt, .tribs, .poolA, .poolB, .engines, .lineA,
        .lineB, .acqA, .acqB, .cnv, .tim, .freeN] s t)
  ∧ (∃ t, exec .vaonFail s = .next t ∧ t.ready = false ∧ t.rails.good = good.filter (fun q => q != 5) ∧ t.mtp = s.mtp
      ∧ t.pending = s.pending ∧ t.gradeX = s.gradeX ∧ t.mem.bytes = [] ∧ t.cip.keys = [])
  ∧ (∃ t, exec (.aonMonitor ok) s = .next t ∧ t.rails = rails ∧ t.get THM_STATUS_WINDOW = window.toNat
      ∧ (window = false → 2 ≤ s.get CNV_MTP_STATE → s.cnv.committing = false → t.get CNV_MTP_STATE = 0 ∧ t.get CNV_MTP_FAILEV = 1
        ∧ t.get CNV_MTP_RESULT = (if s.windowTemp = true then 2 else 1))
      ∧ (window = false → s.get CNV_MTP_STATE < 2 → t.cip.lcs = s.cip.lcs.map missed)
      ∧ (window = true → s.cip.pendingCount = 0 → Only [THM_STATUS_WINDOW] { s with rails := rails } t)
      ∧ OnlyNeeding [THM_STATUS_WINDOW, CNV_MTP_STATE, CNV_MTP_RESULT, CNV_MTP_FAILEV] [.rails, .mtp, .cip, .cnv] s t)
  ∧ (s.clk.xoRuns = true → ∃ t, exec .xoInStop s = .next t ∧ t.clk.xoRuns = false ∧ t.get HKA_STATUS_NOCLK = 1
      ∧ t.get HKA_EVENT_NOCLK = 1 ∧ Posted s t 0x04 0x02 0 [1] ∧ OnlyBlocks [0x04] [.clk] s t)
  ∧ (s.clk.xoRuns = false → exec .xoInStop s = .next s)
  ∧ (s.clk.xoRuns = true → exec .xoInReturn s = .next s)
  ∧ (s.clk.xoRuns = false → ∃ t, exec .xoInReturn s = .next t ∧ t.clk.xoRuns = true ∧ t.get HKA_STATUS_NOCLK = 0
      ∧ Posted s t 0x04 0x02 0 [0] ∧ OnlyBlocks [0x04] [.clk, .adc] s t)

/-- R474, R478, R481: a millisecond takes the model's values and the powers; the correction of a diode that passes its checks moves by a
hundredth of its distance (rounded down: the model's choice, log entry 24) and its zone shows model and correction; a diode that gives no
reading, jumps by more than 5 °C or needs a correction beyond 15 °C has failed. R203: a reading beyond the tamper limits is a trigger.
REINSTATE puts failed diodes on trial; a good trial of 10 s brings the diode back with correction 0, and a failed check ends one with that
check's cause. -/
def Obligations.ThermalModel : Prop := ∀ (x : ModelTick) (d : Fin 12) (mask : BitVec 12) (s : State),
  let step (r : Int) : Int := s.zoneCorr d + (1000 * r - x.model.getD d 0 - s.zoneCorr d) / 100
  let jump (r : Int) : Nat := (r - Assoc.get r d.val s.thm.reads).natAbs
  let failed (n : Nat) : Prop := bitOf mask.toNat n = 1 ∧ 1 ≤ s.get (THM_DIODE_STATE n) ∧ s.get (THM_DIODE_STATE n) ≤ 3
  let fails (cause : Nat) (t : State) : Prop := t.get (THM_DIODE_STATE d) = cause ∧ t.zoneCorr d = 0
    ∧ t.get THM_EVENT_DIODE = 1 ∧ t.get (THM_ZONE_GUARD d) = 1
  let trial := s.thm.trials.find? (fun y => y.diode == d.val)
  (x.wf = false → exec (.modelAdvance x) s = .fault .illFormed)
  ∧ (x.wf = true → ∃ t, exec (.modelAdvance x) s = .next t
      ∧ (∀ z, z < 16 → t.zoneModel z = x.model.getD z 0 ∧ t.get (THM_ZONE_PWR z) = min 65535 (x.power.getD z 0))
      ∧ t.get THM_PWR_PTOT = min 65535 x.ptot
      ∧ (∀ r, s.get (THM_DIODE_STATE d) = 0 → x.diodes.getD d none = some r →
          (jump r ≤ 20 → (step r).natAbs ≤ 60000 → t.get (THM_DIODE_STATE d) = 0 ∧ t.zoneCorr d = step r
            ∧ t.get (THM_ZONE_EST d) = encSigned 11 (roundDiv (x.model.getD d 0 + step r) 1000))
          ∧ (20 < jump r → fails 2 t) ∧ (jump r ≤ 20 → 60000 < (step r).natAbs → fails 3 t))
      ∧ (s.get (THM_DIODE_STATE d) = 0 → x.diodes.getD d none = none → fails 1 t)
      ∧ (s.tamperRead x.diodes = true → t.cip.wiping = true ∧ t.cip.pendingCount = s.cip.pendingCount + 1)
      ∧ (s.tamperRead x.diodes = false → OnlyBlocks [0x02, 0x03, 0x10, 0x30] [.polders, .lanes, .mtp, .cip, .mgt, .thm, .cnv] s t)
      ∧ Keeps [.flds, .mem, .evq, .polders, .mtp, .cip, .carA, .carB, .tribs, .lanes, .engines, .mgt, .thm, .cnv] s t)
  ∧ (Reaches s adr_THM_DIODECTL → ∃ t, exec (.reinstate mask) s = .next t
      ∧ (∀ n, n < 12 → failed n → t.get (THM_DIODE_STATE n) = 4 ∧ ({ diode := n } : Trial) ∈ t.thm.trials)
      ∧ (∀ n, n < 12 → ¬ failed n → t.get (THM_DIODE_STATE n) = s.get (THM_DIODE_STATE n))
      ∧ Keeps [.flds, .thm] s t ∧ KeepsFlds (among ((List.range 12).map THM_DIODE_STATE)) s t)
  ∧ (trial = none → exec (.reinstateEnd d) s = .next s)
  ∧ (∀ r, trial = some r → r.bad < 8 →
    if r.bad = 0 ∧ r.ms < 10000 then exec (.reinstateEnd d) s = .next s
    else ∃ t, exec (.reinstateEnd d) s = .next t ∧ t.get (THM_DIODE_STATE d) = r.bad ∧ t.zoneCorr d = 0
      ∧ t.get THM_EVENT_REINST = 1 ∧ (∀ y ∈ t.thm.trials, y.diode ≠ d.val)
      ∧ PostedFirst s t 0x03 0x06 0 [d, (decide (r.bad = 0)).toNat] ∧ OnlyBlocks [0x03, 0x30] [.thm] s t)

/-- R485, R487: an evaluation counts the milliseconds of each condition and lifts the step to its floor; a step up or down is by one, counted
and posted under the new step, with what follows in the pool; a trip takes step 7 and both carriers' lock, and its end is shown. Where the
condition of a step, a trip or its end does not hold, nothing changes. -/
def Obligations.ShutterSteps : Prop := ∀ (s : State),
  let z := s.hotZone
  let stepped (new cause : Nat) (t : State) : Prop := t.get THM_STATUS_STEP = new ∧ t.thm.sinceStep = 0
    ∧ t.get FEC_POOL_STEP = new ∧ t.get FEC_POOL_CAPACITY = fecCapacity new
    ∧ PostedFirst (s.set THM_STATUS_STEP new) t 0x03 0x01 0 [s.shutter, new, cause, z, iw (s.zoneEst z)]
    ∧ OnlyBlocks [0x02, 0x03, 0x10, 0x20] [.polders, .lanes, .thm] s t
  let floor := s.get THM_STATUS_FLOOR
  let hot := s.hotNow = true ∨ s.overNow = true
  let up := s.mayStep = true ∧ floor ≤ s.shutter ∧ s.shutter < 7 ∧ hot ∧ s.settled = true
  let down := s.mayStep = true ∧ floor < s.shutter ∧ ¬ (s.shutter < 7 ∧ hot ∧ s.settled = true) ∧ s.coolNow = true
    ∧ s.get THM_DWELL_RELDWELL ≤ s.thm.sinceStep
  let trips := s.get THM_STATUS_TRIP ≠ 1 ∧ s.tripDue = true
  let clears := s.get THM_STATUS_TRIP = 1 ∧ s.clearDue = true
  let wide : List Part := [.flds, .mem, .evq, .clk, .polders, .carA, .carB, .pairProt, .tribs, .lanes, .poolA, .poolB, .engines, .mgt,
    .lineA, .lineB, .acqA, .acqB, .cnv, .tim, .freeN]
  let lifts := s.evaluate.mayStep = true ∧ s.shutter < floor
  (∃ t, exec .thermalEvaluation s = .next t
      ∧ t.thm.overMs = (if s.get THM_PWR_PLIM < s.get THM_PWR_PTOT then s.thm.overMs + 1 else 0)
      ∧ t.thm.model = s.thm.model ∧ t.thm.corr = s.thm.corr
      ∧ (¬ lifts → t.thm.sinceStep = s.thm.sinceStep + 1 ∧ Keeps [.thm] s t)
      ∧ (lifts → floor < 8 → stepped floor 4 t ∧ t.get THM_EVENT_UP = 1))
  ∧ (¬ up → exec .stepUp s = .next s)
  ∧ (up → ∃ t, exec .stepUp s = .next t ∧ stepped (s.shutter + 1) (if s.hotNow = true then 1 else 2) t ∧ t.get THM_EVENT_UP = 1
      ∧ t.get THM_COUNT_ENTRIES = satAdd 16 (s.get THM_COUNT_ENTRIES) 1)
  ∧ (¬ down → exec .stepRelease s = .next s)
  ∧ (down → s.shutter ≤ 8 → ∃ t, exec .stepRelease s = .next t ∧ stepped (s.shutter - 1) 3 t ∧ t.get THM_EVENT_DOWN = 1)
  ∧ (¬ trips → exec .trip s = .next s)
  ∧ (trips → ∃ t, exec .trip s = .next t
      ∧ t.get THM_STATUS_TRIP = 1 ∧ t.get THM_STATUS_STEP = 7 ∧ t.get THM_EVENT_TRIP = 1
      ∧ t.get THM_COUNT_TRIPS = satAdd 16 (s.get THM_COUNT_TRIPS) 1
      ∧ (s.carHeld = false → ∀ c, c < 2 → (s.car c).active = true → (s.car c).tx.running = true → (t.acq c).lock = none)
      ∧ (∀ c, c < 2 → (t.car c).ost = (s.car c).ost)
      ∧ Keeps (.thm :: wide) s t)
  ∧ (¬ clears → exec .tripClear s = .next s)
  ∧ (clears → ∃ t, exec .tripClear s = .next t ∧ t.get THM_STATUS_TRIP = 0
      ∧ t.get THM_EVENT_TRIPCLR = 1 ∧ PostedFirst s t 0x03 0x04 0 [0, z, iw (s.zoneEst z)]
      ∧ Keeps wide s t)

/-- R492, R494, R495, R496: every request records its cause and counts; a cold one keeps MTP (but for the bank that a store was invalidating,
R380) and the fields that R494 keeps and takes every other field to its reset value; a warm one keeps MTP, keys, bank contents, device
time, the thermal model, the timing loop and the kept fields, returns carriers and tributaries to BOUND and engines to IDLE (OFF where SLU
is off, R84), and closes the wicket; LAST_ERR stays where it abandons a verification (entry 82); in lockout only RESET_N and power-on
reset act, and both show FALLBACK. R450: rails that were good before VAON are flagged. -/
def Obligations.Resets : Prop := ∀ (key : BitVec 16) (u : Fin 8) (s : State),
  s.get RST_COUNT_COLD < 256 → s.get RST_COUNT_WARM < 256 → s.get RST_COUNT_CRIT < 256 →
  let drop (r : Nat) : State := { s with rails := { s.rails with good := s.rails.good.filter (fun q => q != r) } }
  let record := [RST_STATUS_CAUSE, RST_STATUS_FALLBACK, RST_COUNT_COLD, RST_STATUS_WARMPROMOTED, RST_CRIT_UNIT, RST_CRIT_KEPT,
    RST_CRIT_DBL, RST_COUNT_CRIT]
  let cold (t : State) (cause : Nat) : Prop := t.get RST_STATUS_CAUSE = cause ∧ t.rst.asserted = true ∧ t.rst.reach = 1
    ∧ t.rst.lockout = false ∧ t.ready = false ∧ t.get RST_COUNT_COLD = min 255 (s.get RST_COUNT_COLD + 1)
    ∧ (∀ f ∈ coldFlds, among record f.key = false → t.get f = s.get f % 2 ^ f.width)
    ∧ (∀ f, among coldFlds f.key = false → t.get f = State.reset.get f)
    ∧ t.mtp = s.tornStore.mtp ∧ t.mem = {} ∧ t.evq = {} ∧ t.cip.keys = [] ∧ t.cip.tamperN = s.cip.tamperN ∧ t.tribs = [] ∧ t.carA = {} ∧ t.carB = {} ∧ t.engines = []
    ∧ t.policies = [] ∧ t.refset = none ∧ t.thm = {} ∧ t.tim = {} ∧ t.clk.dev = 0
  let bound (d : List Nat) : OState := if d.isEmpty then .unbound else .bound
  let kept (k : Nat) : Bool := (rowOfKey k).any (fun r => r.kept)
  let warmRecord := [RST_STATUS_CAUSE, RST_STATUS_FALLBACK, RST_COUNT_WARM, TIM_RINGSTAT_WICKET, CNV_MTP_STATE, CNV_MTP_RESULT,
    CIP_LCS_RESULT, CIP_KEKSTAT_RESULT, SLU_ENG_STATUS_STATE 0, SLU_ENG_STATUS_STATE 1, SLU_ENG_STATUS_STATE 2, SLU_ENG_STATUS_STATE 3,
    SLU_LOAD_STATUS_LAST_ERR, RST_CRIT_UNIT, RST_CRIT_KEPT, RST_CRIT_DBL, RST_COUNT_CRIT]
  let sluOff := (s.pd pdSLU).st = .off ∨ (s.pd pdSLU).st = .waking true
  let warm (t : State) (cause : Nat) : Prop := t.get RST_STATUS_CAUSE = cause ∧ t.rst.asserted = true ∧ t.rst.reach = 2
    ∧ t.ready = false ∧ t.get RST_STATUS_FALLBACK = 0 ∧ t.get RST_COUNT_WARM = min 255 (s.get RST_COUNT_WARM + 1)
    ∧ (∀ f, kept f.key = true → ofEvents f.key = false → among warmRecord f.key = false → t.get f = s.get f)
    ∧ (∀ f, kept f.key = false → ofEvents f.key = false → among warmRecord f.key = false → t.get f = f.rst)
    ∧ Keeps [.flds, .shadow, .mem, .evq, .rst, .mtp, .cip, .tim, .carA, .carB, .pairProt, .tribs, .lanes, .groups, .poolA, .poolB, .engines, .mgt,
        .adc, .ports, .lineA, .lineB, .acqA, .acqB, .cnv] s t
    ∧ SameBytes s t ∧ t.cip.keys = s.cip.keys ∧ t.engines = [] ∧ s.evq.recs <+: t.evq.recs
    ∧ (∀ e, e < 4 → t.engState e = if sluOff then 0 else 1)
    ∧ (s.get SLU_LOAD_STATUS_BUSY ≠ 0 → s.get SLU_LOAD_STATUS_LAST_ERR < 2 ^ SLU_LOAD_STATUS_LAST_ERR.width →
        t.get SLU_LOAD_STATUS_LAST_ERR = s.get SLU_LOAD_STATUS_LAST_ERR)
    ∧ t.mtp = s.tornStore.mtp ∧ t.tim = (if s.wicketOpen = true then { s.tim with ringWait := [] } else s.tim)
    ∧ (s.get TIM_RINGSTAT_WICKET ≤ 1 → t.get TIM_RINGSTAT_WICKET = 0)
    ∧ (s.cip.lcs.isSome = true → t.get CIP_LCS_RESULT = if s.cip.lcs.any (fun o => o.committed) = true then 0 else 6)
    ∧ (s.cip.kek.isSome = true → t.get CIP_KEKSTAT_RESULT = 9)
    ∧ t.carA.desc = s.carA.desc ∧ t.carA.ost = bound s.carA.desc ∧ t.carB.desc = s.carB.desc ∧ t.carB.ost = bound s.carB.desc
    ∧ t.tribs = s.tribs.map (fun p => (p.1, p.2.warm))
  let other (t : State) : Prop := t.get RST_STATUS_WARMPROMOTED = s.get RST_STATUS_WARMPROMOTED % 2
    ∧ t.get RST_CRIT_UNIT = s.get RST_CRIT_UNIT % 16 ∧ t.get RST_COUNT_CRIT = s.get RST_COUNT_CRIT
  let crit (t : State) : Prop := t.get RST_CRIT_UNIT = u ∧ t.get RST_CRIT_KEPT = (decide (4 ≤ u.val)).toNat
    ∧ t.get RST_CRIT_DBL = (decide (u.val = 3 ∨ u.val = 7)).toNat ∧ t.get RST_COUNT_CRIT = min 255 (s.get RST_COUNT_CRIT + 1)
    ∧ t.rst.critDue = true
  (∃ t, exec .powerOnReset s = .next t ∧ t.get RST_STATUS_CAUSE = 0 ∧ t.get RST_STATUS_FALLBACK = s.rst.lockout.toNat
      ∧ t.get RST_COUNT_COLD = 0 ∧ t.get RST_COUNT_WARM = 0 ∧ t.ready = false ∧ t.rst.asserted = true ∧ t.rst.lockout = false
      ∧ t.rails.good = insertNat 5 s.rails.good ∧ (5 ∉ s.rails.good → s.rails.good ≠ [] → t.get PWR_SEQ_ORDER = 1)
      ∧ t.mtp = s.tornStore.mtp ∧ t.mem = {} ∧ t.cip.keys = [] ∧ t.tribs = []
      ∧ t.carA = {} ∧ t.carB = {} ∧ t.clk.dev = 0)
  ∧ (∃ t, exec .resetN s = .next t ∧ cold t 1 ∧ other t ∧ t.rails = s.rails ∧ t.get RST_STATUS_FALLBACK = s.rst.lockout.toNat)
  ∧ (s.rst.lockout = false → s.rails.good.contains 5 = true →
    (s.rails.good.contains 0 = true → ∃ t, exec .vcoreLow s = .next t ∧ cold t 2 ∧ other t ∧ t.rails = (drop 0).rails)
    ∧ (s.rails.good.contains 4 = true → ∃ t, exec .vioLow s = .next t ∧ cold t 3 ∧ other t ∧ t.rails = (drop 4).rails))
  ∧ (s.rails.good.contains 5 = false ∨ s.rails.good.contains 0 = false → exec .vcoreLow s = .next s)
  ∧ (s.rails.good.contains 5 = false ∨ s.rails.good.contains 4 = false → exec .vioLow s = .next s)
  ∧ (s.rst.lockout = true → s.rails.good.contains 5 = true →
    (s.rails.good.contains 0 = true → exec .vcoreLow s = .next (drop 0)) ∧ (s.rails.good.contains 4 = true → exec .vioLow s = .next (drop 4)))
  ∧ (Reaches s adr_RST_CTL → s.rst.lockout = false → key = 0x5253#16 →
    (∃ t, exec (.hostcold key) s = .next t ∧ cold t 4 ∧ other t ∧ t.rails = s.rails)
    ∧ (∃ t, exec (.hostwarm key) s = .next t ∧ warm t 6 ∧ t.get RST_COUNT_CRIT = s.get RST_COUNT_CRIT))
  ∧ (Reaches s adr_RST_CTL → s.rst.lockout = true ∨ key ≠ 0x5253#16 →
      exec (.hostcold key) s = .next s ∧ exec (.hostwarm key) s = .next s)
  ∧ (u.val = 0 → exec (.criticalStateError u) s = .fault .illFormed)
  ∧ (u.val ≠ 0 →
    (s.rst.lockout = true → exec (.criticalStateError u) s = .next s)
    ∧ (s.rst.lockout = false → 4 ≤ u.val → ∃ t, exec (.criticalStateError u) s = .next t ∧ cold t 5 ∧ crit t)
    ∧ (s.rst.lockout = false → u.val < 4 → s.ready = true → ∃ t, exec (.criticalStateError u) s = .next t ∧ warm t 7 ∧ crit t)
    ∧ (s.rst.lockout = false → u.val < 4 → s.ready = false → ∃ t, exec (.criticalStateError u) s = .next t ∧ cold t 7 ∧ crit t
        ∧ t.get RST_STATUS_WARMPROMOTED = 1))
  ∧ (∃ t, exec .lockout s = .next t ∧ t.rst.lockout = true ∧ t.rst.asserted = true ∧ t.ready = false ∧ t.tribs = [] ∧ t.carA = {}
      ∧ t.carB = {} ∧ t.cip.keys = [] ∧ t.mtp = s.tornStore.mtp ∧ t.clk = s.clk ∧ t.rails = s.rails ∧ t.polders = s.polders
      ∧ t.tim = s.tim ∧ t.thm = s.thm ∧ t.mem = s.mem ∧ t.get TIM_RINGSTAT_WICKET = 0
      ∧ (∀ f, polderOfAddr (f.key / 32) = [0] → f.key ≠ GLB_STATUS_READY.key → f.key ≠ TIM_RINGSTAT_WICKET.key → t.get f = s.get f))

/-- R186, R401, R497, R498, R500, R501, R503, R505: BRING_UP of a released power-on or cold reset shows the straps, loads the trims and
applies them together once a record marked END has verified, or shows LIMITED, starts the frame clock, completes an owed erasure (R613),
steps the boot epoch, seeds the thermal model, runs the self-test, sets READY and starts the boot action of BOOT_SRC; WARM_BRING_UP runs
the self-test and sets READY without stepping the epoch or loading trims; NOXO is noted while either waits for XO_IN; RELEASE ends the
debug halt. R203: TAMPER_N fallen low is a trigger. Where none of them waits, none has an effect. R505, R545, R546: a boot-flash load
whose directory fails ends with the first cause that it shows, its bank and BOOT 3; one whose directory passes ends with BOOT 2 when every
bank that it names verifies, and otherwise with cause 5 and the first bank that does not. -/
def Obligations.BringUpRuns : Prop :=
  (∀ (x : BringUp) (bad : List (Fin 192)) (s : State),
  let e := max s.mtp.epochA s.mtp.epochB
  let tl := trimLoad x.trims
  let waits := s.released = true ∧ s.rst.reach < 2
  (x.wf = false → exec (.bringUp x) s = .fault .illFormed)
  ∧ (x.wf = true → ¬ (waits ∧ s.clk.xoRuns = true) → exec (.bringUp x) s = .next s)
  ∧ (x.wf = true → waits → s.clk.xoRuns = true → ∃ t, exec (.bringUp x) s = .next t
      ∧ t.ready = true ∧ t.rst.asserted = false ∧ t.get RST_STRAP_BOOT_SRC = x.boot ∧ t.get RST_STRAP_CLK_MODE = x.clk
      ∧ t.get RST_STRAP_FORCED = (decide (x.boot.val = 3 ∧ 2 ≤ s.mtp.lcs)).toNat
      ∧ t.get RST_STATUS_TRIM_VALID = tl.ok.toNat ∧ t.get RST_STATUS_TRIMERR = (!tl.ok).toNat ∧ t.rst.trims = tl.staged
      ∧ t.get RST_TRIM_PASSES = min 4 tl.passes ∧ t.get RST_TRIM_RECORDS = tl.records % 2 ^ RST_TRIM_RECORDS.width
      ∧ t.get RST_TRIM_FAILREC = tl.failRec % 2 ^ RST_TRIM_FAILREC.width
      ∧ t.get GLB_STATUS_LIMITED = (if tl.ok = true then s.get GLB_STATUS_LIMITED else 1)
      ∧ t.get ECC_SELFTEST_DONE = 1 ∧ t.get THM_STATUS_SEEDED = 1 ∧ t.frameClk = { runs := true } ∧ t.cip.tamperN = x.tamperN
      ∧ (s.cip.tamperN = true → x.tamperN = false → t.cip.wiping = true ∧ t.cip.keys = [])
      ∧ (s.mtp.erase = 0 → t.mtp.root = s.mtp.root
        ∧ (e < 2 ^ 24 - 1 → max t.mtp.epochA t.mtp.epochB = e + 1 ∧ min s.mtp.epochA s.mtp.epochB ≤ min t.mtp.epochA t.mtp.epochB
          ∧ t.get CIP_EPOCH_EPOCH = e + 1)
        ∧ (e = 2 ^ 24 - 1 → t.mtp.epochA = s.mtp.epochA ∧ t.mtp.epochB = s.mtp.epochB ∧ t.get CIP_EPOCH_EXHAUSTED = 1))
      ∧ (s.mtp.erase ≠ 0 → t.mtp.root = none ∧ t.mtp.erase = 0)
      ∧ t.mtp.lcs = s.mtp.lcs
      ∧ (x.boot.val = 0 → t.get GLB_STATUS_BOOT = s.get GLB_STATUS_BOOT)
      ∧ (x.boot.val = 1 → t.get GLB_STATUS_BOOT = 1 ∧ t.rst.flashLoading = true)
      ∧ (x.boot.val = 2 → t.get GLB_STATUS_BOOT = if t.bit SLU_LOAD_STATUS_VALID 0 = true then 2 else 3)
      ∧ (x.boot.val = 3 → s.mtp.lcs < 2 → t.get GLB_STATUS_BOOT = 4 ∧ t.get GLB_STATUS_DEBUG = 1)
      ∧ Keeps [.flds, .shadow, .mem, .evq, .polders, .rst, .mtp, .cip, .carA, .carB, .frameClk, .tribs, .lanes, .engines, .mgt, .thm, .adc, .cnv]
          s t)
  ∧ (¬ (s.released = true ∧ s.rst.reach = 2) → exec (.warmBringUp bad) s = .next s)
  ∧ (s.released = true → s.rst.reach = 2 → ∃ t, exec (.warmBringUp bad) s = .next t ∧ t.ready = true ∧ t.rst.asserted = false
      ∧ t.get ECC_SELFTEST_DONE = 1 ∧ t.get RST_STRAP_BOOT_SRC = s.get RST_STRAP_BOOT_SRC ∧ t.rst.trims = s.rst.trims
      ∧ t.get GLB_STATUS_LIMITED = (if s.get RST_STATUS_TRIM_VALID = 1 then 0 else 1)
      ∧ (s.mtp.erase = 0 → t.mtp.epochA = s.mtp.epochA ∧ t.mtp.epochB = s.mtp.epochB ∧ t.mtp.root = s.mtp.root)
      ∧ Keeps [.flds, .mem, .evq, .polders, .rst, .mtp, .cip, .pairProt, .tribs, .lanes, .groups, .engines, .mgt, .adc, .cnv] s t)
  ∧ (waits → ∃ t, exec .noxo s = .next t ∧ t.get RST_STATUS_NOXO = 1 ∧ Only [RST_STATUS_NOXO] s t)
  ∧ (¬ waits → exec .noxo s = .next s)
  ∧ (Reaches s adr_GLB_CTL →
    (s.on GLB_STATUS_DEBUG = true → ∃ t, exec .release s = .next t ∧ t.get GLB_STATUS_DEBUG = 0 ∧ t.get GLB_STATUS_BOOT = 0
      ∧ Only [GLB_STATUS_DEBUG, GLB_STATUS_BOOT] s t)
    ∧ (s.on GLB_STATUS_DEBUG = false → exec .release s = .next s)))
  ∧ (∀ (x : FlashLoad) (s : State),
  let banks := [0, 1, 2, 3].filter (fun k => (flashEntry x.dir k).2 != 0)
  let c := flashCheck x.dir
  let due := x.wf = true ∧ s.rst.flashLoading = true ∧ s.ready = true
  (x.wf = false → exec (.flashLoadEnd x) s = .fault .illFormed)
  ∧ (x.wf = true → s.rst.flashLoading = false ∨ s.ready = false → exec (.flashLoadEnd x) s = .next s)
  ∧ (due → c.1 ≠ 0 → ∃ t, exec (.flashLoadEnd x) s = .next t ∧ t.get GLB_BOOTERR_CAUSE = c.1 ∧ t.get GLB_BOOTERR_BANK = c.2
      ∧ t.get GLB_STATUS_BOOT = 3 ∧ t.rst = { s.rst with flashLoading := false } ∧ Keeps [.flds, .rst] s t
      ∧ KeepsFlds (among [GLB_BOOTERR_CAUSE, GLB_BOOTERR_BANK, GLB_STATUS_BOOT]) s t)
  ∧ (due → c.1 = 0 → ∃ t, exec (.flashLoadEnd x) s = .next t ∧ t.rst = { s.rst with flashLoading := false }
      ∧ Keeps [.flds, .mem, .evq, .polders, .rst, .lanes, .engines, .mgt] s t
      ∧ ((∀ k ∈ banks, t.bit SLU_LOAD_STATUS_VALID k = true) → t.get GLB_STATUS_BOOT = 2)
      ∧ ∀ k, banks.find? (fun k => !(t.bit SLU_LOAD_STATUS_VALID k)) = some k →
          t.get GLB_STATUS_BOOT = 3 ∧ t.get GLB_BOOTERR_CAUSE = 5 ∧ t.get GLB_BOOTERR_BANK = k))

/-- R512, R518 to R520, R522: GO starts a conversion of CHAN in single mode with the converter idle, and nothing otherwise; a write that names
an undefined channel or preset sets BADCH only, one with AVG or SHIFT above 8 has no effect, and any other takes its fields, a change of
them abandoning the conversion in progress and a GO among them starting one of the new channel; HKA_SCAN takes its mask; a read of
HKA_DATA clears VALID. R516 to R518, R521, R523: R bits of the modulator give one output, which settling discards and sampling adds to the
sum (with no conversion or no clock, or with all its samples taken, nothing happens; more bits than any R cannot come); at its end a
conversion puts its result into HKA_DATA and its mean into HKA_RES, counts excursions, fires an alarm at PERSIST + 1 of them in a row, and
in single mode leaves the converter idle. -/
def Obligations.HousekeepingConverter : Prop :=
  (∀ (v : W32) (s : State),
  let w := v.toNat
  let n := (presetOf (s.get HKA_CTL_PRESET)).1
  let ctl := [HKA_CTL_EN, HKA_CTL_MODE, HKA_CTL_PRESET, HKA_CTL_AVG, HKA_CTL_SHIFT, HKA_CTL_CHAN]
  let run := [HKA_STATUS_BUSY, HKA_STATUS_SETTLING, HKA_STATUS_CUR]
  let undef := 24 < HKA_CTL_CHAN.of w ∨ 5 < HKA_CTL_PRESET.of w
  let big := 8 < HKA_CTL_AVG.of w ∨ 8 < HKA_CTL_SHIFT.of w
  let goes := s.on HKA_CTL_EN = true ∧ s.on HKA_CTL_MODE = false ∧ s.on HKA_STATUS_BUSY = false ∧ s.clk.xoRuns = true
  (Reaches s adr_HKA_CTL →
    (goes → ∃ t, exec .hkaGo s = .next t ∧ t.get HKA_STATUS_BUSY = 1 ∧ t.get HKA_STATUS_SETTLING = 1
      ∧ t.get HKA_STATUS_CUR = s.get HKA_CTL_CHAN % 32
      ∧ t.adc = { s.adc with integ := List.replicate n 0, comb := List.replicate n 0, discard := n + 1, taken := 0, sum := 0 }
      ∧ Keeps [.flds, .adc] s t ∧ KeepsFlds (among run) s t)
    ∧ (¬ goes → exec .hkaGo s = .next s)
    ∧ (undef → ∃ t, exec (.hkaConfigWrite false v) s = .next t ∧ t.get HKA_EVENT_BADCH = 1 ∧ Only [HKA_EVENT_BADCH] s t)
    ∧ (¬ undef → big → exec (.hkaConfigWrite false v) s = .next s)
    ∧ (¬ undef → ¬ big → ∃ t, exec (.hkaConfigWrite false v) s = .next t ∧ (∀ f ∈ ctl, t.get f = fieldOf w f.lo f.width)
      ∧ ((∃ f ∈ ctl, fieldOf w f.lo f.width ≠ s.get f) → HKA_CTL_MODE.of w = 0 → s.on HKA_STATUS_BUSY = true →
          t.get HKA_STATUS_BUSY = 0)
      ∧ (HKA_CTL_GO.of w = 1 → HKA_CTL_EN.of w = 1 → HKA_CTL_MODE.of w = 0 → s.on HKA_STATUS_BUSY = false → s.clk.xoRuns = true →
          t.get HKA_STATUS_BUSY = 1 ∧ t.get HKA_STATUS_CUR = HKA_CTL_CHAN.of w
          ∧ t.adc.discard = (presetOf (HKA_CTL_PRESET.of w)).1 + 1)
      ∧ Keeps [.flds, .adc] s t ∧ KeepsFlds (among (ctl ++ run)) s t))
  ∧ (Reaches s adr_HKA_SCAN → ∃ t, exec (.hkaConfigWrite true v) s = .next t ∧ t.get HKA_SCAN_MASK = fieldOf w 0 25
      ∧ Keeps [.flds, .adc] s t ∧ KeepsFlds (among (HKA_SCAN_MASK :: run)) s t)
  ∧ (Reaches s adr_HKA_DATA → ∃ t, exec .hkaDataRead s = .next t ∧ t.get HKA_DATA_VALID = 0 ∧ Only [HKA_DATA_VALID] s t))
  ∧ (∀ (bits : List Bool) (k : Fin 4) (s : State),
  let p := presetOf (s.get HKA_CTL_PRESET)
  let width := p.1 * p.2 + 1
  let integ := bits.foldl (fun g b => integStep width g b.toNat) s.adc.integ
  let c := combStep width s.adc.comb (integ.getLastD 0)
  let ch := s.get HKA_STATUS_CUR
  let mean := s.adc.sum / 2 ^ s.get HKA_CTL_AVG
  let watched (k : Nat) : Prop := s.on (HKA_ALM_EN k) = true ∧ s.get (HKA_ALM_CHAN k) = ch
  let out (k : Nat) : Prop := mean < s.get (HKA_ALMLIM_LOW k) ∨ s.get (HKA_ALMLIM_HIGH k) < mean
  let count (t : State) (k : Nat) : Nat := Assoc.get 0 k t.adc.excursions
  let fires (k : Nat) : Prop := watched k ∧ out k ∧ s.get (HKA_ALM_PERSIST k) ≤ count s k ∧ s.adc.firedNow.contains k = false
  (s.on HKA_STATUS_BUSY = true → s.clk.xoRuns = true → bits.length = 2 ^ p.2 →
    (s.adc.discard ≠ 0 → ∃ t, exec (.hkaSample bits) s = .next t
      ∧ t.adc = { s.adc with integ := integ, comb := c.1, discard := s.adc.discard - 1 }
      ∧ t.get HKA_STATUS_SETTLING = (decide (s.adc.discard ≠ 1)).toNat
      ∧ Keeps [.flds, .adc] s t ∧ KeepsFlds (among [HKA_STATUS_SETTLING]) s t)
    ∧ (s.adc.discard = 0 → s.adc.taken < 2 ^ s.get HKA_CTL_AVG → ∃ t, exec (.hkaSample bits) s = .next t
      ∧ t.adc = { s.adc with integ := integ, comb := c.1, taken := s.adc.taken + 1, sum := s.adc.sum + c.2 / 2 ^ (p.1 * p.2 - 15) }
      ∧ Keeps [.adc] s t))
  ∧ (128 < bits.length → exec (.hkaSample bits) s = .fault .illFormed)
  ∧ (bits.length ≤ 128 → s.on HKA_STATUS_BUSY = false ∨ s.clk.xoRuns = false ∨ bits.length ≠ 2 ^ p.2
      ∨ (s.adc.discard = 0 ∧ 2 ^ s.get HKA_CTL_AVG ≤ s.adc.taken) → exec (.hkaSample bits) s = .next s)
  ∧ (s.on HKA_STATUS_BUSY = false ∨ s.clk.xoRuns = false ∨ s.adc.discard ≠ 0 ∨ s.adc.taken ≠ 2 ^ s.get HKA_CTL_AVG →
      exec .conversionEnd s = .next s)
  ∧ (s.on HKA_STATUS_BUSY = true → s.clk.xoRuns = true → s.adc.discard = 0 → s.adc.taken = 2 ^ s.get HKA_CTL_AVG → ch < 25 →
    ∃ t, exec .conversionEnd s = .next t ∧ t.get HKA_DATA_VALID = 1 ∧ t.get HKA_DATA_CHAN = ch
      ∧ t.get HKA_DATA_RESULT = s.adc.sum / 2 ^ s.get HKA_CTL_SHIFT % 2 ^ 24
      ∧ t.get (HKA_RES_MEAN ch) = mean % 2 ^ 16 ∧ t.get (HKA_RES_FRESH ch) = 1 ∧ t.get HKA_EVENT_DONE = 1
      ∧ (s.on HKA_DATA_VALID = true → t.get HKA_EVENT_OVR = 1)
      ∧ (s.on HKA_CTL_MODE = false → t.get HKA_STATUS_BUSY = 0)
      ∧ (watched k → out k → count t k = count s k + 1) ∧ (watched k → ¬ out k → count t k = 0)
      ∧ (¬ watched k → count t k = count s k)
      ∧ (fires k → t.bit HKA_EVENT_ALARM k = true)
      ∧ (fires k → (∀ j, j < k.val → ¬ fires j) → PostedFirst s t 0x04 0x01 0 [k, ch, mean, (decide (s.get (HKA_ALMLIM_HIGH k) < mean)).toNat])
      ∧ OnlyNeeding [HKA_DATA_VALID, HKA_DATA_CHAN, HKA_DATA_RESULT, HKA_RES_MEAN ch, HKA_RES_FRESH ch, HKA_EVENT_DONE, HKA_EVENT_OVR,
          HKA_EVENT_ALARM, HKA_STATUS_BUSY, HKA_STATUS_SETTLING, HKA_STATUS_CUR] [.adc] s t))

/-- R529, R531, R532: an SPI transaction shifts out the status byte of the moment and leaves its result for the next one: ERR for an undefined
command or a transaction cut short, which do nothing else; before READY the byte reads 0x02 and nothing else happens. R94, R529 to R532:
past the status phase, an SPI WRITE does what a register write or a window write does, with BUSY left where it posts a command with 16
waiting and ERR where a boot-flash load discards it; a transaction that resets the device leaves nothing; each word of a WRITEINC is a
write of its own, 4 further on, and a cut one after them leaves ERR; a READ returns the register's word and a READINC one word for each it
shifts out. -/
def Obligations.SpiTransactions : Prop :=
  (∀ (s : State) (code : Byte) (addr word : Option W32) (ws : List W32) (n : Nat) (cut : Bool),
  let err (i : Instr) : Prop := ∃ t, exec i s = .next t ∧ t.ports.spiResult = 1
    ∧ OnlyNeeding [] [.ports] s t ∧ t.evq.recs.take s.evq.recs.length = s.evq.recs
  let early (i : Instr) : Prop := exec i s = .next { s with ports := { s.ports with spiStatus := 2, spiOut := [] } }
  let listed : Prop := code.toNat ∈ [0x02, 0x03, 0x12, 0x13, 0x05]
  (s.ready = true → s.ports.spiResult < 4 → s.get GLB_STATUS_LIMITED < 2 → ∃ t, exec .status s = .next t
      ∧ bitOf t.ports.spiStatus 7 = 1 ∧ fieldOf t.ports.spiStatus 5 2 = s.ports.spiResult
      ∧ (bitOf t.ports.spiStatus 4 = 1 ↔ s.evq.recs ≠ []) ∧ (bitOf t.ports.spiStatus 3 = 1 ↔ s.mgt.responses ≠ [])
      ∧ bitOf t.ports.spiStatus 2 = s.get GLB_STATUS_LIMITED ∧ fieldOf t.ports.spiStatus 0 2 = 2 ∧ t.ports.spiResult = 0
      ∧ OnlyNeeding [] [.ports] s t)
  ∧ (s.ready = false → early .status ∧ early (.write addr word) ∧ early (.read addr cut) ∧ early (.writeinc addr ws cut)
      ∧ early (.readinc addr n cut) ∧ (¬ listed → early (.spiUndefinedCommand code)))
  ∧ (listed → exec (.spiUndefinedCommand code) s = .fault .illFormed)
  ∧ (s.ready = true → (¬ listed → err (.spiUndefinedCommand code)) ∧ err (.write none word) ∧ err (.read none cut)
      ∧ err (.writeinc none ws cut) ∧ err (.readinc none n cut) ∧ err (.write addr none))
  ∧ (∀ a : W32, s.ready = true → a.toNat % 4 ≠ 0 → err (.read (some a) cut) ∧ err (.readinc (some a) n cut)
      ∧ err (.write (some a) word) ∧ err (.writeinc (some a) ws cut)))
  ∧ (∀ (s : State) (a v w : W32) (i : BitVec 19) (n : Nat) (cut : Bool),
  let u := s.spiOpen
  let close (t : State) (res : Nat) : State := if t.ready then { t with ports := { t.ports with spiResult := res } } else t
  let cutRes : Nat := if cut then 1 else 0
  let reads (t : State) : Prop := OnlyBlocks [0x02, 0x06, 0x07, 0x10] [.shadow, .mem, .polders, .lanes, .ports] s t ∧ SameBytes s t
  let busy (r : State) : Prop := a.toNat = 0x90180 ∧ u.regOn 0x90180 = true ∧ bitOf v.toNat 31 = 1 ∧ r.get MGT_MBXSTAT_RESULT = 5
  s.ready = true →
  (a.toNat % 4 = 0 → a.toNat < 0x01000000 → ∃ r, exec (.registerWrite a v) u = .next r
      ∧ (¬ busy r → exec (.write (some a) (some v)) s = .next (close r 0))
      ∧ (busy r → exec (.write (some a) (some v)) s = .next (close r 2)))
  ∧ (u.regOn 0x90180 = true → 16 ≤ s.mgt.mail.length → bitOf v.toNat 31 = 1 → bitOf v.toNat 30 = 0 →
      ∃ t, exec (.write (some 0x90180) (some v)) s = .next t ∧ t.ports.spiResult = 2 ∧ t.mgt = s.mgt)
  ∧ (a.toNat = 0x01000000 + 4 * i.toNat → ∃ r, exec (.windowWrite i v) u = .next r
      ∧ exec (.write (some a) (some v)) s = .next (close r (if u.regOn a.toNat && s.rst.flashLoading then 1 else 0)))
  ∧ (a.toNat % 4 = 0 → a.toNat + 4 < 0x01000000 → a.toNat ≠ 0x90180 → a.toNat + 4 ≠ 0x90180 →
      ∃ r, exec (.registerWrite a v) u = .next r
      ∧ (r.ready = false → exec (.writeinc (some a) [v, w] cut) s = .next r)
      ∧ (r.ready = true → ∃ q, exec (.registerWrite (a + 4) w) r = .next q
          ∧ exec (.writeinc (some a) [v, w] cut) s = .next (close q cutRes)))
  ∧ (a.toNat % 4 = 0 → exec (.writeinc (some a) [] cut) s = .next (close u cutRes))
  ∧ (a.toNat % 4 = 0 → a.toNat < 0x01000000 → ∃ t, exec (.read (some a) cut) s = .next t
      ∧ t.ports.spiOut = [(u.regRead a.toNat).1] ∧ t.ports.spiResult = cutRes ∧ reads t)
  ∧ (a.toNat % 4 = 0 → ∃ t, exec (.readinc (some a) n cut) s = .next t ∧ t.ports.spiOut.length = n
      ∧ t.ports.spiResult = cutRes ∧ reads t))

/-- R533, R534: POST queues the sixteen words of MBXIN, or with 16 commands waiting leaves them and shows BUSY; ACK releases the response in
MBXOUT. R540: POP takes the oldest record from the event queue. R106, R534, R535: the oldest command is answered when no key unwrap waits,
with its CMD and TAG, RESULT and the number of words that follow: VERSION two words, PMLAST the latest second rolled up or NODATA, PMGET
the counts of a second among the latest, BADARG for another handle, and BADCMD for an undefined command. -/
def Obligations.MailboxAndEvents : Prop :=
  (∀ (s : State),
  (Reaches s 0x90180 → s.mgt.mail.length < 16 → ∃ t, exec .post s = .next t
      ∧ t.mgt.mail = s.mgt.mail ++ [(List.range 16).map (fun k => s.get (MGT_MBXIN_DATA k))] ∧ t.get MGT_MBXSTAT_RESULT = 0
      ∧ t.mgt.responses = s.mgt.responses ∧ t.mgt.seconds = s.mgt.seconds ∧ t.mgt.rolled = s.mgt.rolled
      ∧ OnlyNeeding [MGT_MBXSTAT_RESULT] [] s t)
  ∧ (Reaches s 0x90180 → 16 ≤ s.mgt.mail.length → ∃ t, exec .post s = .next t ∧ t.get MGT_MBXSTAT_RESULT = 5
      ∧ Only [MGT_MBXSTAT_RESULT] s t)
  ∧ (Reaches s 0x90180 → exec .ack s = .next { s with mgt := { s.mgt with responses := s.mgt.responses.drop 1 } })
  ∧ (Reaches s 0x90214 → (∀ w ∈ evqWords (s.evq.pos + 1), s.wordPoison w = false) → ∃ t, exec .pop s = .next t
      ∧ t.evq.recs = s.evq.recs.drop 1 ∧ t.evq.sources = s.evq.sources ∧ t.mem.bytes = s.mem.bytes ∧ Keeps [.evq, .mem] s t)
  ∧ (Reaches s 0x90214 → ∃ t, exec .pop s = .next t ∧ OnlyBlocks [0x07] [.mem] s t ∧ SameBytes s t))
  ∧ (∀ (s : State) (m : List Nat) (rest : List (List Nat)),
  let cmd := fieldOf (m.headD 0) 24 8
  let answered (i : Instr) (res : Nat) (words : List Nat) : Prop := ∃ t, exec i s = .next t ∧ t.mgt.mail = rest
    ∧ t.mgt.responses = s.mgt.responses
        ++ [(cmd * 2 ^ 24 + fieldOf (m.headD 0) 16 8 * 2 ^ 16 + res * 2 ^ 8 + words.length) :: words]
    ∧ Keeps [.flds, .mgt] s t ∧ KeepsFlds ofPmc s t
  let second := m.getD 1 0
  let h := m.getD 2 0 % 2 ^ 16
  let carrier := h = 0x1000 ∨ h = 0x1001
  let tributary := 0x2400 ≤ h ∧ h < 0x2C00
  (s.mgtServes = true → s.mgt.unwraps = [] → s.mgt.mail = m :: rest →
    (cmd = 1 → ∃ a b, answered .version 0 [a, b])
    ∧ (cmd = 3 → (∀ x ∈ s.mgt.rolled, x.incomplete = true) → answered .pmlast 3 [])
    ∧ (cmd = 3 → ∀ l x, s.mgt.rolled = l ++ [x] → x.incomplete = false → answered .pmlast 0 [x.label])
    ∧ (cmd = 2 → ¬ carrier → ¬ tributary → answered .pmget 2 [])
    ∧ (cmd = 2 → carrier ∨ tributary → (∀ x ∈ s.mgt.rolled, x.label ≠ second) → answered .pmget 3 [])
    ∧ (cmd = 2 → carrier ∨ tributary → ∀ l x r, s.mgt.rolled = l ++ x :: r → x.label = second → (∀ y ∈ r, y.label ≠ second) →
        (x.incomplete = true → answered .pmget 4 [])
        ∧ (x.incomplete = false →
          answered .pmget 0 ((List.range (if h < 0x2000 then 3 else 4)).map (fun i => (Assoc.get [] h x.counts).getD i 0 % 2 ^ 32))))
    ∧ (cmd = 0 ∨ 3 < cmd → answered .badcmd 1 []))
  ∧ (s.mgtServes = false ∨ s.mgt.unwraps ≠ [] ∨ s.mgt.mail = [] → exec .version s = .next s ∧ exec .pmget s = .next s
      ∧ exec .pmlast s = .next s ∧ exec .badcmd s = .next s)
  ∧ (s.mgt.mail = m :: rest → (cmd ≠ 1 → exec .version s = .next s) ∧ (cmd ≠ 2 → exec .pmget s = .next s)
      ∧ (cmd ≠ 3 → exec .pmlast s = .next s) ∧ (cmd ∈ [1, 2, 3] → exec .badcmd s = .next s)))

/-- R106, R107, R438: at a second the counts of the objects are queued for roll-up and start again; a ninth pending second ends the oldest,
which is reported INCOMPLETE and counted, as is a second of a debug halt; a roll-up takes 64 tributaries in a slice, and with its last one
moves the oldest second to those rolled up, INCOMPLETE if a word of its snapshot is poisoned. R557, R560, R565, R566: CLR and CLRALL take
counters to zero and leave the overflow bits; PMC_SELn takes a valid selection whole, and a write with an undefined signal, an instance
outside the signal's range or MODE 1 for an event has no effect. -/
def Obligations.SecondsAndCounters : Prop :=
  (∀ (s : State),
  let live : Prop := s.ready = true ∧ s.mgtOn = true
  let changed : List Part := [.flds, .evq, .polders, .carA, .carB, .pairProt, .tribs, .lanes, .engines, .mgt, .lineA, .lineB]
  let snapshot (l : Nat) : Prop := ∀ i, i < 4096 → s.wordPoison (187 * 65536 + 8192 + 4096 * (l % 8) + i) = false
  let ended (t : State) (l : Nat) : Prop := t.mgt.rolled.getLast? = some ⟨l, true, []⟩
    ∧ t.get MGT_INCOMPLETE_COUNT = satAdd 32 (s.get MGT_INCOMPLETE_COUNT) 1
  (live → s.on GLB_STATUS_DEBUG = false → s.mgt.seconds.length < 8 → ∃ t x, exec .pmSecond s = .next t
      ∧ t.mgt.seconds = s.mgt.seconds ++ [x] ∧ x.label = s.seconds ∧ x.incomplete = false ∧ t.mgt.counts = [] ∧ Keeps changed s t)
  ∧ (∀ y rest, live → s.on GLB_STATUS_DEBUG = false → s.mgt.seconds = y :: rest → rest.length = 7 →
      ∃ t x, exec .pmSecond s = .next t ∧ t.mgt.seconds = rest ++ [x] ∧ x.label = s.seconds ∧ ended t y.label ∧ Keeps changed s t)
  ∧ (live → s.on GLB_STATUS_DEBUG = true → ∃ t, exec .pmSecond s = .next t ∧ t.mgt.seconds = s.mgt.seconds ∧ ended t s.seconds
      ∧ t.mgt.counts = [] ∧ Keeps changed s t)
  ∧ (¬ live → exec .pmSecond s = .next s)
  ∧ (∀ y rest, s.mgtServes = true → s.mgt.unwraps = [] → s.mgt.mail = [] → s.mgt.seconds = y :: rest →
      (64 * (s.mgt.slices + 1) < s.tribs.length →
          exec .pmRollup s = .next { s with mgt := { s.mgt with slices := s.mgt.slices + 1 } })
      ∧ (s.tribs.length ≤ 64 * (s.mgt.slices + 1) → snapshot y.label → ∃ t, exec .pmRollup s = .next t ∧ t.mgt.seconds = rest
          ∧ t.mgt.rolled.getLast? = some y ∧ t.mgt.slices = 0 ∧ Keeps [.flds, .mgt] s t ∧ KeepsFlds ofPmc s t)
      ∧ (s.tribs.length ≤ 64 * (s.mgt.slices + 1) → ¬ snapshot y.label → ∃ t, exec .pmRollup s = .next t ∧ t.mgt.seconds = rest
          ∧ ended t y.label ∧ OnlyBlocks [0x07, 0x09] [.mem, .mgt] s t ∧ SameBytes s t))
  ∧ (s.mgtServes = false ∨ s.mgt.unwraps ≠ [] ∨ s.mgt.mail ≠ [] ∨ s.mgt.seconds = [] → exec .pmRollup s = .next s))
  ∧ (∀ (s : State) (k : Fin 64) (v : W32),
  let c (j : Nat) : List Fld := [PMC_CNTLO_COUNT j, PMC_CNTHI_COUNT j]
  let sel : List Fld := [PMC_SEL_EN k, PMC_SEL_MODE k, PMC_SEL_SIG k, PMC_SEL_INST k]
  let sig := (PMC_SEL_SIG k).of v.toNat
  let event := sig ∈ [1, 2, 3, 4, 5, 6, 7, 8, 0x11, 0x20, 0x31, 0x32, 0x34, 0x3F]
  let level := sig ∈ [9, 0xA, 0xB, 0x10, 0x21, 0x22, 0x30, 0x33]
  let instances := if 1 ≤ sig ∧ sig ≤ 0x0B then 2 else if sig = 0x10 ∨ sig = 0x11 then 28 else if 0x20 ≤ sig ∧ sig ≤ 0x22 then 4 else 1
  let valid : Prop := (sig = 0 ∨ level ∨ (event ∧ (PMC_SEL_MODE k).of v.toNat = 0)) ∧ (PMC_SEL_INST k).of v.toNat < instances
  (Reaches s (0xA0008 + 0x10 * k) → ∃ t, exec (.pmcClr k) s = .next t ∧ (∀ f ∈ c k, t.get f = 0) ∧ Only (c k) s t)
  ∧ (Reaches s 0xA0400 → ∃ t, exec .clrall s = .next t ∧ (∀ j, j < 64 → ∀ f ∈ c j, t.get f = 0)
      ∧ Only ((List.range 64).flatMap c) s t)
  ∧ (Reaches s (0xA0008 + 0x10 * k) → valid →
      ∃ t, exec (.pmcSelWrite k v) s = .next t ∧ (∀ f ∈ sel, t.get f = f.of v.toNat)
      ∧ ((PMC_SEL_CLR k).of v.toNat = 1 → ∀ f ∈ c k, t.get f = 0)
      ∧ Only (sel ++ if (PMC_SEL_CLR k).of v.toNat = 1 then c k else []) s t)
  ∧ (Reaches s (0xA0008 + 0x10 * k) → ¬ valid → exec (.pmcSelWrite k v) s = .next s))

/-- R542 to R544: after READY an I²C write at a defined index does what a register write does there, and a read returns the register's word;
an undefined index, any index before READY, and any while XO_IN is stopped is not acknowledged. R548, R550: each JTAG instruction is in
the instruction register once loaded; IDCODE and test-logic reset select 0x148125A7; the five that drive the pins hold both carriers and
take every active group that is UP to FAIL; DEBUG and CIPTEST outside their conditions are BYPASS, and CIPTEST empties the key store. One
that begins and ends no hold changes nothing else. -/
def Obligations.I2cAndJtag : Prop :=
  (∀ (s : State) (index : Byte) (v : W32),
  let table : List Nat := [0x0, 0x4, 0x10, 0x10000, 0x10004, 0x20404, 0x20410, 0x20408, 0x30000, 0x50000, 0x4006C]
  let u := s.fireWake 0
  let v0 := { u with ports := { u.ports with i2cNack := false, i2cOut := none } }
  (∀ a, s.ready = true → s.clk.xoRuns = true → table[index.toNat]? = some a →
      (∃ t, exec (.i2cWrite index v) s = .next t ∧ exec (.registerWrite (BitVec.ofNat 32 a) v) v0 = .next t)
      ∧ ∃ t, exec (.i2cRead index) s = .next t ∧ t.ports.i2cOut = some (v0.regRead a).1 ∧ t.ports.i2cNack = false
        ∧ OnlyNeeding [] [.shadow, .ports] s t)
  ∧ (s.ready = false ∨ s.clk.xoRuns = false ∨ table.length ≤ index.toNat →
      (∃ t, exec (.i2cWrite index v) s = .next t ∧ t.ports.i2cNack = true ∧ OnlyNeeding [] [.ports] s t)
      ∧ ∃ t, exec (.i2cRead index) s = .next t ∧ t.ports.i2cNack = true ∧ t.ports.i2cOut = none
        ∧ OnlyNeeding [] [.ports] s t))
  ∧ (∀ (s : State) (cells : List Bool),
  let out (ir : Nat) : Nat := if ir = 1 then 0x148125A7 else 0
  let only (ps : List Part) (bs : List Nat) (t : State) : Prop :=
    OnlyBlocks ([0x05, 0x06, 0x07, 0x10, 0x18, 0x1C, 0x1D, 0x20, 0x24, 0x28, 0x2C, 0x30] ++ bs)
      ([.lanes, .groups, .ports, .clk, .mem, .carA, .carB, .pairProt, .tribs, .poolA, .poolB, .mgt, .lineA, .lineB, .acqA, .acqB, .cnv,
        .tim, .freeN] ++ ps) s t
  let loads (i : Instr) (ir : Nat) : Prop := ∃ t, exec i s = .next t ∧ t.ports.jtagIr = ir ∧ t.ports.jtagOut = out ir ∧ only [] [] t
    ∧ (s.jtagHold = false → t = { s with ports := { s.ports with jtagIr := ir, jtagOut := out ir } })
  let drives (i : Instr) (ir : Nat) : Prop := ∃ t, exec i s = .next t ∧ t.ports.jtagIr = ir ∧ t.carHeld = true
    ∧ (s.jtagHold = false → ∀ g, g < 28 → s.grpActive g = true → s.get (HLN_GRP_STATUS_STATE g) = 3 →
        t.get (HLN_GRP_STATUS_STATE g) = 1 ∧ t.get (HLN_GRP_EVENT_FAIL g) = 1)
    ∧ only [] [] t
    ∧ (s.jtagHold = true → t = { s with ports := { s.ports with jtagIr := ir, jtagOut := 0 } })
  loads .idcode 1 ∧ loads .testLogicReset 1
  ∧ (∃ t, exec (.samplePreload cells) s = .next t ∧ t.ports.jtagIr = 2 ∧ t.ports.cells = cells ∧ only [] [] t
    ∧ (s.jtagHold = false → t = { s with ports := { s.ports with jtagIr := 2, jtagOut := 0, cells := cells } }))
  ∧ drives .extest 3 ∧ drives .extestPulse 4 ∧ drives .extestTrain 5 ∧ drives .clamp 6 ∧ drives .highz 7
  ∧ loads .bypass 0xFF
  ∧ (s.on GLB_STATUS_DEBUG = true → s.mtp.lcs < 2 → loads .debug 0x20)
  ∧ (s.on GLB_STATUS_DEBUG = false ∨ 2 ≤ s.mtp.lcs → loads .debug 0xFF)
  ∧ (s.mtp.lcs < 2 → ∃ t, exec .ciptest s = .next t ∧ t.ports.jtagIr = 0x30 ∧ t.cip.keys = [] ∧ only [.cip] [0x16] t)
  ∧ (2 ≤ s.mtp.lcs → loads .ciptest 0xFF))
end

