-- ==== Sys2Proof/Laws/Assoc.lean ====
section
/-! SUPPORT. Sparse data by key: reading after listing and after removing, and that both keep the keys rising. -/

namespace Sys2Proof.Assoc

variable {α : Type}

/-- The value just listed is found. -/
@[simp] theorem find_put_same (k : Nat) (v : α) (m : List (Nat × α)) : find k (put k v m) = some v := by
  induction m with
  | nil => simp [put, find]
  | cons c t ih =>
    obtain ⟨j, w⟩ := c
    simp only [put]
    split
    · simp [find]
    · split
      · simp [find]
      · rename_i h; simp [find, h, ih]

/-- Listing under one key leaves the others. -/
theorem find_put_ne {j k : Nat} (h : j ≠ k) (v : α) (m : List (Nat × α)) : find j (put k v m) = find j m := by
  induction m with
  | nil => simp [put, find, Ne.symm h]
  | cons c t ih =>
    obtain ⟨i, w⟩ := c
    simp only [put]
    split
    · simp [find, Ne.symm h]
    · split
      · rename_i e; subst e; simp [find, Ne.symm h]
      · simp [find, ih]

/-- What was removed is not found. -/
@[simp] theorem find_drop_same (k : Nat) (m : List (Nat × α)) : find k (drop k m) = none := by
  induction m with
  | nil => simp [drop, find]
  | cons c t ih =>
    obtain ⟨i, w⟩ := c
    simp only [drop]
    split
    · exact ih
    · rename_i e; simp [find, e, ih]

/-- Removing one key leaves the others. -/
theorem find_drop_ne {j k : Nat} (h : j ≠ k) (m : List (Nat × α)) : find j (drop k m) = find j m := by
  induction m with
  | nil => simp [drop]
  | cons c t ih =>
    obtain ⟨i, w⟩ := c
    simp only [drop]
    split
    · rename_i e; subst e; simp [find, Ne.symm h, ih]
    · simp [find, ih]

/-- Reading the value just listed. -/
@[simp] theorem get_put_same (d : α) (k : Nat) (v : α) (m : List (Nat × α)) : get d k (put k v m) = v := by simp [get]

/-- Reading another key. -/
theorem get_put_ne (d : α) {j k : Nat} (h : j ≠ k) (v : α) (m : List (Nat × α)) : get d j (put k v m) = get d j m := by
  simp [get, find_put_ne h]

/-- Reading what was removed. -/
@[simp] theorem get_drop_same (d : α) (k : Nat) (m : List (Nat × α)) : get d k (drop k m) = d := by simp [get]

/-- Reading another key after a removal. -/
theorem get_drop_ne (d : α) {j k : Nat} (h : j ≠ k) (m : List (Nat × α)) : get d j (drop k m) = get d j m := by
  simp [get, find_drop_ne h]

/-- The keys rise: stated pairwise. -/
theorem rising_iff (m : List (Nat × α)) : rising m = true ↔ m.Pairwise (fun a b => a.1 < b.1) := by
  induction m with
  | nil => simp [rising]
  | cons a t ih =>
    cases t with
    | nil => simp [rising]
    | cons b t =>
      simp only [rising, Bool.and_eq_true, decide_eq_true_eq, ih, List.pairwise_cons, List.mem_cons]
      constructor
      · rintro ⟨h, hb, ht⟩
        refine ⟨?_, hb, ht⟩
        rintro c (rfl | hc)
        · exact h
        · exact Nat.lt_trans h (hb c hc)
      · rintro ⟨h, hb, ht⟩
        exact ⟨h b (Or.inl rfl), hb, ht⟩

/-- What is listed after listing one more. -/
theorem mem_put {k : Nat} {v : α} {m : List (Nat × α)} {c : Nat × α} (h : c ∈ put k v m) : c = (k, v) ∨ c ∈ m := by
  induction m with
  | nil => simpa [put] using h
  | cons a t ih =>
    obtain ⟨i, w⟩ := a
    simp only [put] at h
    split at h
    · simpa using h
    · split at h
      · rcases List.mem_cons.mp h with rfl | h
        · exact .inl rfl
        · exact .inr (List.mem_cons_of_mem _ h)
      · rcases List.mem_cons.mp h with rfl | h
        · exact .inr List.mem_cons_self
        · rcases ih h with rfl | h
          · exact .inl rfl
          · exact .inr (List.mem_cons_of_mem _ h)

/-- What is listed after a removal was listed before. -/
theorem mem_of_mem_drop {k : Nat} {m : List (Nat × α)} {c : Nat × α} (h : c ∈ drop k m) : c ∈ m := by
  induction m with
  | nil => simp [drop] at h
  | cons a t ih =>
    obtain ⟨i, w⟩ := a
    simp only [drop] at h
    split at h
    · exact List.mem_cons_of_mem _ (ih h)
    · rcases List.mem_cons.mp h with rfl | h
      · exact List.mem_cons_self
      · exact List.mem_cons_of_mem _ (ih h)

/-- Listing keeps the keys rising. -/
theorem rising_put (k : Nat) (v : α) {m : List (Nat × α)} (h : rising m = true) : rising (put k v m) = true := by
  rw [rising_iff] at h ⊢
  induction m with
  | nil => simp [put]
  | cons a t ih =>
    obtain ⟨i, w⟩ := a
    rw [List.pairwise_cons] at h
    simp only [put]
    split
    · rename_i hk
      refine List.pairwise_cons.mpr ⟨?_, List.pairwise_cons.mpr h⟩
      intro c hc
      rcases List.mem_cons.mp hc with rfl | hc
      · exact hk
      · exact Nat.lt_trans hk (h.1 c hc)
    · split
      · rename_i e
        exact List.pairwise_cons.mpr ⟨fun c hc => e ▸ h.1 c hc, h.2⟩
      · rename_i h1 h2
        refine List.pairwise_cons.mpr ⟨?_, ih h.2⟩
        intro c hc
        rcases mem_put hc with rfl | hc
        · simp only; omega
        · exact h.1 c hc

/-- Removing keeps the keys rising. -/
theorem rising_drop (k : Nat) {m : List (Nat × α)} (h : rising m = true) : rising (drop k m) = true := by
  rw [rising_iff] at h ⊢
  induction m with
  | nil => simp [drop]
  | cons a t ih =>
    obtain ⟨i, w⟩ := a
    rw [List.pairwise_cons] at h
    simp only [drop]
    split
    · exact ih h.2
    · exact List.pairwise_cons.mpr ⟨fun c hc => h.1 c (mem_of_mem_drop hc), ih h.2⟩

/-- Keeping some entries keeps the keys rising. -/
theorem rising_filter (p : Nat × α → Bool) {m : List (Nat × α)} (h : rising m = true) : rising (m.filter p) = true := by
  rw [rising_iff] at h ⊢
  exact h.filter p

end Sys2Proof.Assoc
end

