-- ==== Sys2Proof/Laws/State.lean ====
section
/-! SUPPORT. What each named update of the state leaves, and what is read after it: one lemma for each part of State and each
update. -/

namespace Sys2Proof.Machine

variable (s : State)

/-! ## set -/

@[simp] theorem State.set_pending (f : Fld) (v : Nat) : (s.set f v).pending = s.pending := rfl
@[simp] theorem State.set_gradeX (f : Fld) (v : Nat) : (s.set f v).gradeX = s.gradeX := rfl
@[simp] theorem State.set_shadow (f : Fld) (v : Nat) : (s.set f v).shadow = s.shadow := rfl
@[simp] theorem State.set_mem (f : Fld) (v : Nat) : (s.set f v).mem = s.mem := rfl
@[simp] theorem State.set_evq (f : Fld) (v : Nat) : (s.set f v).evq = s.evq := rfl
@[simp] theorem State.set_clk (f : Fld) (v : Nat) : (s.set f v).clk = s.clk := rfl
@[simp] theorem State.set_polders (f : Fld) (v : Nat) : (s.set f v).polders = s.polders := rfl
@[simp] theorem State.set_rails (f : Fld) (v : Nat) : (s.set f v).rails = s.rails := rfl
@[simp] theorem State.set_rst (f : Fld) (v : Nat) : (s.set f v).rst = s.rst := rfl
@[simp] theorem State.set_mtp (f : Fld) (v : Nat) : (s.set f v).mtp = s.mtp := rfl
@[simp] theorem State.set_cip (f : Fld) (v : Nat) : (s.set f v).cip = s.cip := rfl
@[simp] theorem State.set_carA (f : Fld) (v : Nat) : (s.set f v).carA = s.carA := rfl
@[simp] theorem State.set_carB (f : Fld) (v : Nat) : (s.set f v).carB = s.carB := rfl
@[simp] theorem State.set_frameClk (f : Fld) (v : Nat) : (s.set f v).frameClk = s.frameClk := rfl
@[simp] theorem State.set_pairProt (f : Fld) (v : Nat) : (s.set f v).pairProt = s.pairProt := rfl
@[simp] theorem State.set_tribs (f : Fld) (v : Nat) : (s.set f v).tribs = s.tribs := rfl
@[simp] theorem State.set_policies (f : Fld) (v : Nat) : (s.set f v).policies = s.policies := rfl
@[simp] theorem State.set_refset (f : Fld) (v : Nat) : (s.set f v).refset = s.refset := rfl
@[simp] theorem State.set_powerDescs (f : Fld) (v : Nat) : (s.set f v).powerDescs = s.powerDescs := rfl
@[simp] theorem State.set_refusals (f : Fld) (v : Nat) : (s.set f v).refusals = s.refusals := rfl
@[simp] theorem State.set_lanes (f : Fld) (v : Nat) : (s.set f v).lanes = s.lanes := rfl
@[simp] theorem State.set_groups (f : Fld) (v : Nat) : (s.set f v).groups = s.groups := rfl
@[simp] theorem State.set_poolA (f : Fld) (v : Nat) : (s.set f v).poolA = s.poolA := rfl
@[simp] theorem State.set_poolB (f : Fld) (v : Nat) : (s.set f v).poolB = s.poolB := rfl
@[simp] theorem State.set_engines (f : Fld) (v : Nat) : (s.set f v).engines = s.engines := rfl
@[simp] theorem State.set_mgt (f : Fld) (v : Nat) : (s.set f v).mgt = s.mgt := rfl
@[simp] theorem State.set_thm (f : Fld) (v : Nat) : (s.set f v).thm = s.thm := rfl
@[simp] theorem State.set_adc (f : Fld) (v : Nat) : (s.set f v).adc = s.adc := rfl
@[simp] theorem State.set_ports (f : Fld) (v : Nat) : (s.set f v).ports = s.ports := rfl
@[simp] theorem State.set_lineA (f : Fld) (v : Nat) : (s.set f v).lineA = s.lineA := rfl
@[simp] theorem State.set_lineB (f : Fld) (v : Nat) : (s.set f v).lineB = s.lineB := rfl
@[simp] theorem State.set_acqA (f : Fld) (v : Nat) : (s.set f v).acqA = s.acqA := rfl
@[simp] theorem State.set_acqB (f : Fld) (v : Nat) : (s.set f v).acqB = s.acqB := rfl
@[simp] theorem State.set_cnv (f : Fld) (v : Nat) : (s.set f v).cnv = s.cnv := rfl
@[simp] theorem State.set_tim (f : Fld) (v : Nat) : (s.set f v).tim = s.tim := rfl
@[simp] theorem State.set_freeN (f : Fld) (v : Nat) : (s.set f v).freeN = s.freeN := rfl

/-! ## setB -/

@[simp] theorem State.setB_pending (f : Fld) (b : Bool) : (s.setB f b).pending = s.pending := rfl
@[simp] theorem State.setB_gradeX (f : Fld) (b : Bool) : (s.setB f b).gradeX = s.gradeX := rfl
@[simp] theorem State.setB_shadow (f : Fld) (b : Bool) : (s.setB f b).shadow = s.shadow := rfl
@[simp] theorem State.setB_mem (f : Fld) (b : Bool) : (s.setB f b).mem = s.mem := rfl
@[simp] theorem State.setB_evq (f : Fld) (b : Bool) : (s.setB f b).evq = s.evq := rfl
@[simp] theorem State.setB_clk (f : Fld) (b : Bool) : (s.setB f b).clk = s.clk := rfl
@[simp] theorem State.setB_polders (f : Fld) (b : Bool) : (s.setB f b).polders = s.polders := rfl
@[simp] theorem State.setB_rails (f : Fld) (b : Bool) : (s.setB f b).rails = s.rails := rfl
@[simp] theorem State.setB_rst (f : Fld) (b : Bool) : (s.setB f b).rst = s.rst := rfl
@[simp] theorem State.setB_mtp (f : Fld) (b : Bool) : (s.setB f b).mtp = s.mtp := rfl
@[simp] theorem State.setB_cip (f : Fld) (b : Bool) : (s.setB f b).cip = s.cip := rfl
@[simp] theorem State.setB_carA (f : Fld) (b : Bool) : (s.setB f b).carA = s.carA := rfl
@[simp] theorem State.setB_carB (f : Fld) (b : Bool) : (s.setB f b).carB = s.carB := rfl
@[simp] theorem State.setB_frameClk (f : Fld) (b : Bool) : (s.setB f b).frameClk = s.frameClk := rfl
@[simp] theorem State.setB_pairProt (f : Fld) (b : Bool) : (s.setB f b).pairProt = s.pairProt := rfl
@[simp] theorem State.setB_tribs (f : Fld) (b : Bool) : (s.setB f b).tribs = s.tribs := rfl
@[simp] theorem State.setB_policies (f : Fld) (b : Bool) : (s.setB f b).policies = s.policies := rfl
@[simp] theorem State.setB_refset (f : Fld) (b : Bool) : (s.setB f b).refset = s.refset := rfl
@[simp] theorem State.setB_powerDescs (f : Fld) (b : Bool) : (s.setB f b).powerDescs = s.powerDescs := rfl
@[simp] theorem State.setB_refusals (f : Fld) (b : Bool) : (s.setB f b).refusals = s.refusals := rfl
@[simp] theorem State.setB_lanes (f : Fld) (b : Bool) : (s.setB f b).lanes = s.lanes := rfl
@[simp] theorem State.setB_groups (f : Fld) (b : Bool) : (s.setB f b).groups = s.groups := rfl
@[simp] theorem State.setB_poolA (f : Fld) (b : Bool) : (s.setB f b).poolA = s.poolA := rfl
@[simp] theorem State.setB_poolB (f : Fld) (b : Bool) : (s.setB f b).poolB = s.poolB := rfl
@[simp] theorem State.setB_engines (f : Fld) (b : Bool) : (s.setB f b).engines = s.engines := rfl
@[simp] theorem State.setB_mgt (f : Fld) (b : Bool) : (s.setB f b).mgt = s.mgt := rfl
@[simp] theorem State.setB_thm (f : Fld) (b : Bool) : (s.setB f b).thm = s.thm := rfl
@[simp] theorem State.setB_adc (f : Fld) (b : Bool) : (s.setB f b).adc = s.adc := rfl
@[simp] theorem State.setB_ports (f : Fld) (b : Bool) : (s.setB f b).ports = s.ports := rfl
@[simp] theorem State.setB_lineA (f : Fld) (b : Bool) : (s.setB f b).lineA = s.lineA := rfl
@[simp] theorem State.setB_lineB (f : Fld) (b : Bool) : (s.setB f b).lineB = s.lineB := rfl
@[simp] theorem State.setB_acqA (f : Fld) (b : Bool) : (s.setB f b).acqA = s.acqA := rfl
@[simp] theorem State.setB_acqB (f : Fld) (b : Bool) : (s.setB f b).acqB = s.acqB := rfl
@[simp] theorem State.setB_cnv (f : Fld) (b : Bool) : (s.setB f b).cnv = s.cnv := rfl
@[simp] theorem State.setB_tim (f : Fld) (b : Bool) : (s.setB f b).tim = s.tim := rfl
@[simp] theorem State.setB_freeN (f : Fld) (b : Bool) : (s.setB f b).freeN = s.freeN := rfl

/-! ## setI -/

@[simp] theorem State.setI_pending (f : Fld) (i : Int) : (s.setI f i).pending = s.pending := rfl
@[simp] theorem State.setI_gradeX (f : Fld) (i : Int) : (s.setI f i).gradeX = s.gradeX := rfl
@[simp] theorem State.setI_shadow (f : Fld) (i : Int) : (s.setI f i).shadow = s.shadow := rfl
@[simp] theorem State.setI_mem (f : Fld) (i : Int) : (s.setI f i).mem = s.mem := rfl
@[simp] theorem State.setI_evq (f : Fld) (i : Int) : (s.setI f i).evq = s.evq := rfl
@[simp] theorem State.setI_clk (f : Fld) (i : Int) : (s.setI f i).clk = s.clk := rfl
@[simp] theorem State.setI_polders (f : Fld) (i : Int) : (s.setI f i).polders = s.polders := rfl
@[simp] theorem State.setI_rails (f : Fld) (i : Int) : (s.setI f i).rails = s.rails := rfl
@[simp] theorem State.setI_rst (f : Fld) (i : Int) : (s.setI f i).rst = s.rst := rfl
@[simp] theorem State.setI_mtp (f : Fld) (i : Int) : (s.setI f i).mtp = s.mtp := rfl
@[simp] theorem State.setI_cip (f : Fld) (i : Int) : (s.setI f i).cip = s.cip := rfl
@[simp] theorem State.setI_carA (f : Fld) (i : Int) : (s.setI f i).carA = s.carA := rfl
@[simp] theorem State.setI_carB (f : Fld) (i : Int) : (s.setI f i).carB = s.carB := rfl
@[simp] theorem State.setI_frameClk (f : Fld) (i : Int) : (s.setI f i).frameClk = s.frameClk := rfl
@[simp] theorem State.setI_pairProt (f : Fld) (i : Int) : (s.setI f i).pairProt = s.pairProt := rfl
@[simp] theorem State.setI_tribs (f : Fld) (i : Int) : (s.setI f i).tribs = s.tribs := rfl
@[simp] theorem State.setI_policies (f : Fld) (i : Int) : (s.setI f i).policies = s.policies := rfl
@[simp] theorem State.setI_refset (f : Fld) (i : Int) : (s.setI f i).refset = s.refset := rfl
@[simp] theorem State.setI_powerDescs (f : Fld) (i : Int) : (s.setI f i).powerDescs = s.powerDescs := rfl
@[simp] theorem State.setI_refusals (f : Fld) (i : Int) : (s.setI f i).refusals = s.refusals := rfl
@[simp] theorem State.setI_lanes (f : Fld) (i : Int) : (s.setI f i).lanes = s.lanes := rfl
@[simp] theorem State.setI_groups (f : Fld) (i : Int) : (s.setI f i).groups = s.groups := rfl
@[simp] theorem State.setI_poolA (f : Fld) (i : Int) : (s.setI f i).poolA = s.poolA := rfl
@[simp] theorem State.setI_poolB (f : Fld) (i : Int) : (s.setI f i).poolB = s.poolB := rfl
@[simp] theorem State.setI_engines (f : Fld) (i : Int) : (s.setI f i).engines = s.engines := rfl
@[simp] theorem State.setI_mgt (f : Fld) (i : Int) : (s.setI f i).mgt = s.mgt := rfl
@[simp] theorem State.setI_thm (f : Fld) (i : Int) : (s.setI f i).thm = s.thm := rfl
@[simp] theorem State.setI_adc (f : Fld) (i : Int) : (s.setI f i).adc = s.adc := rfl
@[simp] theorem State.setI_ports (f : Fld) (i : Int) : (s.setI f i).ports = s.ports := rfl
@[simp] theorem State.setI_lineA (f : Fld) (i : Int) : (s.setI f i).lineA = s.lineA := rfl
@[simp] theorem State.setI_lineB (f : Fld) (i : Int) : (s.setI f i).lineB = s.lineB := rfl
@[simp] theorem State.setI_acqA (f : Fld) (i : Int) : (s.setI f i).acqA = s.acqA := rfl
@[simp] theorem State.setI_acqB (f : Fld) (i : Int) : (s.setI f i).acqB = s.acqB := rfl
@[simp] theorem State.setI_cnv (f : Fld) (i : Int) : (s.setI f i).cnv = s.cnv := rfl
@[simp] theorem State.setI_tim (f : Fld) (i : Int) : (s.setI f i).tim = s.tim := rfl
@[simp] theorem State.setI_freeN (f : Fld) (i : Int) : (s.setI f i).freeN = s.freeN := rfl

/-! ## wr -/

@[simp] theorem State.wr_pending (v : Nat) (f : Fld) : (s.wr v f).pending = s.pending := rfl
@[simp] theorem State.wr_gradeX (v : Nat) (f : Fld) : (s.wr v f).gradeX = s.gradeX := rfl
@[simp] theorem State.wr_shadow (v : Nat) (f : Fld) : (s.wr v f).shadow = s.shadow := rfl
@[simp] theorem State.wr_mem (v : Nat) (f : Fld) : (s.wr v f).mem = s.mem := rfl
@[simp] theorem State.wr_evq (v : Nat) (f : Fld) : (s.wr v f).evq = s.evq := rfl
@[simp] theorem State.wr_clk (v : Nat) (f : Fld) : (s.wr v f).clk = s.clk := rfl
@[simp] theorem State.wr_polders (v : Nat) (f : Fld) : (s.wr v f).polders = s.polders := rfl
@[simp] theorem State.wr_rails (v : Nat) (f : Fld) : (s.wr v f).rails = s.rails := rfl
@[simp] theorem State.wr_rst (v : Nat) (f : Fld) : (s.wr v f).rst = s.rst := rfl
@[simp] theorem State.wr_mtp (v : Nat) (f : Fld) : (s.wr v f).mtp = s.mtp := rfl
@[simp] theorem State.wr_cip (v : Nat) (f : Fld) : (s.wr v f).cip = s.cip := rfl
@[simp] theorem State.wr_carA (v : Nat) (f : Fld) : (s.wr v f).carA = s.carA := rfl
@[simp] theorem State.wr_carB (v : Nat) (f : Fld) : (s.wr v f).carB = s.carB := rfl
@[simp] theorem State.wr_frameClk (v : Nat) (f : Fld) : (s.wr v f).frameClk = s.frameClk := rfl
@[simp] theorem State.wr_pairProt (v : Nat) (f : Fld) : (s.wr v f).pairProt = s.pairProt := rfl
@[simp] theorem State.wr_tribs (v : Nat) (f : Fld) : (s.wr v f).tribs = s.tribs := rfl
@[simp] theorem State.wr_policies (v : Nat) (f : Fld) : (s.wr v f).policies = s.policies := rfl
@[simp] theorem State.wr_refset (v : Nat) (f : Fld) : (s.wr v f).refset = s.refset := rfl
@[simp] theorem State.wr_powerDescs (v : Nat) (f : Fld) : (s.wr v f).powerDescs = s.powerDescs := rfl
@[simp] theorem State.wr_refusals (v : Nat) (f : Fld) : (s.wr v f).refusals = s.refusals := rfl
@[simp] theorem State.wr_lanes (v : Nat) (f : Fld) : (s.wr v f).lanes = s.lanes := rfl
@[simp] theorem State.wr_groups (v : Nat) (f : Fld) : (s.wr v f).groups = s.groups := rfl
@[simp] theorem State.wr_poolA (v : Nat) (f : Fld) : (s.wr v f).poolA = s.poolA := rfl
@[simp] theorem State.wr_poolB (v : Nat) (f : Fld) : (s.wr v f).poolB = s.poolB := rfl
@[simp] theorem State.wr_engines (v : Nat) (f : Fld) : (s.wr v f).engines = s.engines := rfl
@[simp] theorem State.wr_mgt (v : Nat) (f : Fld) : (s.wr v f).mgt = s.mgt := rfl
@[simp] theorem State.wr_thm (v : Nat) (f : Fld) : (s.wr v f).thm = s.thm := rfl
@[simp] theorem State.wr_adc (v : Nat) (f : Fld) : (s.wr v f).adc = s.adc := rfl
@[simp] theorem State.wr_ports (v : Nat) (f : Fld) : (s.wr v f).ports = s.ports := rfl
@[simp] theorem State.wr_lineA (v : Nat) (f : Fld) : (s.wr v f).lineA = s.lineA := rfl
@[simp] theorem State.wr_lineB (v : Nat) (f : Fld) : (s.wr v f).lineB = s.lineB := rfl
@[simp] theorem State.wr_acqA (v : Nat) (f : Fld) : (s.wr v f).acqA = s.acqA := rfl
@[simp] theorem State.wr_acqB (v : Nat) (f : Fld) : (s.wr v f).acqB = s.acqB := rfl
@[simp] theorem State.wr_cnv (v : Nat) (f : Fld) : (s.wr v f).cnv = s.cnv := rfl
@[simp] theorem State.wr_tim (v : Nat) (f : Fld) : (s.wr v f).tim = s.tim := rfl
@[simp] theorem State.wr_freeN (v : Nat) (f : Fld) : (s.wr v f).freeN = s.freeN := rfl

/-! ## setBit -/

@[simp] theorem State.setBit_pending (f : Fld) (i : Nat) : (s.setBit f i).pending = s.pending := rfl
@[simp] theorem State.setBit_gradeX (f : Fld) (i : Nat) : (s.setBit f i).gradeX = s.gradeX := rfl
@[simp] theorem State.setBit_shadow (f : Fld) (i : Nat) : (s.setBit f i).shadow = s.shadow := rfl
@[simp] theorem State.setBit_mem (f : Fld) (i : Nat) : (s.setBit f i).mem = s.mem := rfl
@[simp] theorem State.setBit_evq (f : Fld) (i : Nat) : (s.setBit f i).evq = s.evq := rfl
@[simp] theorem State.setBit_clk (f : Fld) (i : Nat) : (s.setBit f i).clk = s.clk := rfl
@[simp] theorem State.setBit_polders (f : Fld) (i : Nat) : (s.setBit f i).polders = s.polders := rfl
@[simp] theorem State.setBit_rails (f : Fld) (i : Nat) : (s.setBit f i).rails = s.rails := rfl
@[simp] theorem State.setBit_rst (f : Fld) (i : Nat) : (s.setBit f i).rst = s.rst := rfl
@[simp] theorem State.setBit_mtp (f : Fld) (i : Nat) : (s.setBit f i).mtp = s.mtp := rfl
@[simp] theorem State.setBit_cip (f : Fld) (i : Nat) : (s.setBit f i).cip = s.cip := rfl
@[simp] theorem State.setBit_carA (f : Fld) (i : Nat) : (s.setBit f i).carA = s.carA := rfl
@[simp] theorem State.setBit_carB (f : Fld) (i : Nat) : (s.setBit f i).carB = s.carB := rfl
@[simp] theorem State.setBit_frameClk (f : Fld) (i : Nat) : (s.setBit f i).frameClk = s.frameClk := rfl
@[simp] theorem State.setBit_pairProt (f : Fld) (i : Nat) : (s.setBit f i).pairProt = s.pairProt := rfl
@[simp] theorem State.setBit_tribs (f : Fld) (i : Nat) : (s.setBit f i).tribs = s.tribs := rfl
@[simp] theorem State.setBit_policies (f : Fld) (i : Nat) : (s.setBit f i).policies = s.policies := rfl
@[simp] theorem State.setBit_refset (f : Fld) (i : Nat) : (s.setBit f i).refset = s.refset := rfl
@[simp] theorem State.setBit_powerDescs (f : Fld) (i : Nat) : (s.setBit f i).powerDescs = s.powerDescs := rfl
@[simp] theorem State.setBit_refusals (f : Fld) (i : Nat) : (s.setBit f i).refusals = s.refusals := rfl
@[simp] theorem State.setBit_lanes (f : Fld) (i : Nat) : (s.setBit f i).lanes = s.lanes := rfl
@[simp] theorem State.setBit_groups (f : Fld) (i : Nat) : (s.setBit f i).groups = s.groups := rfl
@[simp] theorem State.setBit_poolA (f : Fld) (i : Nat) : (s.setBit f i).poolA = s.poolA := rfl
@[simp] theorem State.setBit_poolB (f : Fld) (i : Nat) : (s.setBit f i).poolB = s.poolB := rfl
@[simp] theorem State.setBit_engines (f : Fld) (i : Nat) : (s.setBit f i).engines = s.engines := rfl
@[simp] theorem State.setBit_mgt (f : Fld) (i : Nat) : (s.setBit f i).mgt = s.mgt := rfl
@[simp] theorem State.setBit_thm (f : Fld) (i : Nat) : (s.setBit f i).thm = s.thm := rfl
@[simp] theorem State.setBit_adc (f : Fld) (i : Nat) : (s.setBit f i).adc = s.adc := rfl
@[simp] theorem State.setBit_ports (f : Fld) (i : Nat) : (s.setBit f i).ports = s.ports := rfl
@[simp] theorem State.setBit_lineA (f : Fld) (i : Nat) : (s.setBit f i).lineA = s.lineA := rfl
@[simp] theorem State.setBit_lineB (f : Fld) (i : Nat) : (s.setBit f i).lineB = s.lineB := rfl
@[simp] theorem State.setBit_acqA (f : Fld) (i : Nat) : (s.setBit f i).acqA = s.acqA := rfl
@[simp] theorem State.setBit_acqB (f : Fld) (i : Nat) : (s.setBit f i).acqB = s.acqB := rfl
@[simp] theorem State.setBit_cnv (f : Fld) (i : Nat) : (s.setBit f i).cnv = s.cnv := rfl
@[simp] theorem State.setBit_tim (f : Fld) (i : Nat) : (s.setBit f i).tim = s.tim := rfl
@[simp] theorem State.setBit_freeN (f : Fld) (i : Nat) : (s.setBit f i).freeN = s.freeN := rfl

/-! ## clrBit -/

@[simp] theorem State.clrBit_pending (f : Fld) (i : Nat) : (s.clrBit f i).pending = s.pending := rfl
@[simp] theorem State.clrBit_gradeX (f : Fld) (i : Nat) : (s.clrBit f i).gradeX = s.gradeX := rfl
@[simp] theorem State.clrBit_shadow (f : Fld) (i : Nat) : (s.clrBit f i).shadow = s.shadow := rfl
@[simp] theorem State.clrBit_mem (f : Fld) (i : Nat) : (s.clrBit f i).mem = s.mem := rfl
@[simp] theorem State.clrBit_evq (f : Fld) (i : Nat) : (s.clrBit f i).evq = s.evq := rfl
@[simp] theorem State.clrBit_clk (f : Fld) (i : Nat) : (s.clrBit f i).clk = s.clk := rfl
@[simp] theorem State.clrBit_polders (f : Fld) (i : Nat) : (s.clrBit f i).polders = s.polders := rfl
@[simp] theorem State.clrBit_rails (f : Fld) (i : Nat) : (s.clrBit f i).rails = s.rails := rfl
@[simp] theorem State.clrBit_rst (f : Fld) (i : Nat) : (s.clrBit f i).rst = s.rst := rfl
@[simp] theorem State.clrBit_mtp (f : Fld) (i : Nat) : (s.clrBit f i).mtp = s.mtp := rfl
@[simp] theorem State.clrBit_cip (f : Fld) (i : Nat) : (s.clrBit f i).cip = s.cip := rfl
@[simp] theorem State.clrBit_carA (f : Fld) (i : Nat) : (s.clrBit f i).carA = s.carA := rfl
@[simp] theorem State.clrBit_carB (f : Fld) (i : Nat) : (s.clrBit f i).carB = s.carB := rfl
@[simp] theorem State.clrBit_frameClk (f : Fld) (i : Nat) : (s.clrBit f i).frameClk = s.frameClk := rfl
@[simp] theorem State.clrBit_pairProt (f : Fld) (i : Nat) : (s.clrBit f i).pairProt = s.pairProt := rfl
@[simp] theorem State.clrBit_tribs (f : Fld) (i : Nat) : (s.clrBit f i).tribs = s.tribs := rfl
@[simp] theorem State.clrBit_policies (f : Fld) (i : Nat) : (s.clrBit f i).policies = s.policies := rfl
@[simp] theorem State.clrBit_refset (f : Fld) (i : Nat) : (s.clrBit f i).refset = s.refset := rfl
@[simp] theorem State.clrBit_powerDescs (f : Fld) (i : Nat) : (s.clrBit f i).powerDescs = s.powerDescs := rfl
@[simp] theorem State.clrBit_refusals (f : Fld) (i : Nat) : (s.clrBit f i).refusals = s.refusals := rfl
@[simp] theorem State.clrBit_lanes (f : Fld) (i : Nat) : (s.clrBit f i).lanes = s.lanes := rfl
@[simp] theorem State.clrBit_groups (f : Fld) (i : Nat) : (s.clrBit f i).groups = s.groups := rfl
@[simp] theorem State.clrBit_poolA (f : Fld) (i : Nat) : (s.clrBit f i).poolA = s.poolA := rfl
@[simp] theorem State.clrBit_poolB (f : Fld) (i : Nat) : (s.clrBit f i).poolB = s.poolB := rfl
@[simp] theorem State.clrBit_engines (f : Fld) (i : Nat) : (s.clrBit f i).engines = s.engines := rfl
@[simp] theorem State.clrBit_mgt (f : Fld) (i : Nat) : (s.clrBit f i).mgt = s.mgt := rfl
@[simp] theorem State.clrBit_thm (f : Fld) (i : Nat) : (s.clrBit f i).thm = s.thm := rfl
@[simp] theorem State.clrBit_adc (f : Fld) (i : Nat) : (s.clrBit f i).adc = s.adc := rfl
@[simp] theorem State.clrBit_ports (f : Fld) (i : Nat) : (s.clrBit f i).ports = s.ports := rfl
@[simp] theorem State.clrBit_lineA (f : Fld) (i : Nat) : (s.clrBit f i).lineA = s.lineA := rfl
@[simp] theorem State.clrBit_lineB (f : Fld) (i : Nat) : (s.clrBit f i).lineB = s.lineB := rfl
@[simp] theorem State.clrBit_acqA (f : Fld) (i : Nat) : (s.clrBit f i).acqA = s.acqA := rfl
@[simp] theorem State.clrBit_acqB (f : Fld) (i : Nat) : (s.clrBit f i).acqB = s.acqB := rfl
@[simp] theorem State.clrBit_cnv (f : Fld) (i : Nat) : (s.clrBit f i).cnv = s.cnv := rfl
@[simp] theorem State.clrBit_tim (f : Fld) (i : Nat) : (s.clrBit f i).tim = s.tim := rfl
@[simp] theorem State.clrBit_freeN (f : Fld) (i : Nat) : (s.clrBit f i).freeN = s.freeN := rfl

/-! ## bump -/

@[simp] theorem State.bump_pending (f : Fld) (n : Nat) : (s.bump f n).pending = s.pending := rfl
@[simp] theorem State.bump_gradeX (f : Fld) (n : Nat) : (s.bump f n).gradeX = s.gradeX := rfl
@[simp] theorem State.bump_shadow (f : Fld) (n : Nat) : (s.bump f n).shadow = s.shadow := rfl
@[simp] theorem State.bump_mem (f : Fld) (n : Nat) : (s.bump f n).mem = s.mem := rfl
@[simp] theorem State.bump_evq (f : Fld) (n : Nat) : (s.bump f n).evq = s.evq := rfl
@[simp] theorem State.bump_clk (f : Fld) (n : Nat) : (s.bump f n).clk = s.clk := rfl
@[simp] theorem State.bump_polders (f : Fld) (n : Nat) : (s.bump f n).polders = s.polders := rfl
@[simp] theorem State.bump_rails (f : Fld) (n : Nat) : (s.bump f n).rails = s.rails := rfl
@[simp] theorem State.bump_rst (f : Fld) (n : Nat) : (s.bump f n).rst = s.rst := rfl
@[simp] theorem State.bump_mtp (f : Fld) (n : Nat) : (s.bump f n).mtp = s.mtp := rfl
@[simp] theorem State.bump_cip (f : Fld) (n : Nat) : (s.bump f n).cip = s.cip := rfl
@[simp] theorem State.bump_carA (f : Fld) (n : Nat) : (s.bump f n).carA = s.carA := rfl
@[simp] theorem State.bump_carB (f : Fld) (n : Nat) : (s.bump f n).carB = s.carB := rfl
@[simp] theorem State.bump_frameClk (f : Fld) (n : Nat) : (s.bump f n).frameClk = s.frameClk := rfl
@[simp] theorem State.bump_pairProt (f : Fld) (n : Nat) : (s.bump f n).pairProt = s.pairProt := rfl
@[simp] theorem State.bump_tribs (f : Fld) (n : Nat) : (s.bump f n).tribs = s.tribs := rfl
@[simp] theorem State.bump_policies (f : Fld) (n : Nat) : (s.bump f n).policies = s.policies := rfl
@[simp] theorem State.bump_refset (f : Fld) (n : Nat) : (s.bump f n).refset = s.refset := rfl
@[simp] theorem State.bump_powerDescs (f : Fld) (n : Nat) : (s.bump f n).powerDescs = s.powerDescs := rfl
@[simp] theorem State.bump_refusals (f : Fld) (n : Nat) : (s.bump f n).refusals = s.refusals := rfl
@[simp] theorem State.bump_lanes (f : Fld) (n : Nat) : (s.bump f n).lanes = s.lanes := rfl
@[simp] theorem State.bump_groups (f : Fld) (n : Nat) : (s.bump f n).groups = s.groups := rfl
@[simp] theorem State.bump_poolA (f : Fld) (n : Nat) : (s.bump f n).poolA = s.poolA := rfl
@[simp] theorem State.bump_poolB (f : Fld) (n : Nat) : (s.bump f n).poolB = s.poolB := rfl
@[simp] theorem State.bump_engines (f : Fld) (n : Nat) : (s.bump f n).engines = s.engines := rfl
@[simp] theorem State.bump_mgt (f : Fld) (n : Nat) : (s.bump f n).mgt = s.mgt := rfl
@[simp] theorem State.bump_thm (f : Fld) (n : Nat) : (s.bump f n).thm = s.thm := rfl
@[simp] theorem State.bump_adc (f : Fld) (n : Nat) : (s.bump f n).adc = s.adc := rfl
@[simp] theorem State.bump_ports (f : Fld) (n : Nat) : (s.bump f n).ports = s.ports := rfl
@[simp] theorem State.bump_lineA (f : Fld) (n : Nat) : (s.bump f n).lineA = s.lineA := rfl
@[simp] theorem State.bump_lineB (f : Fld) (n : Nat) : (s.bump f n).lineB = s.lineB := rfl
@[simp] theorem State.bump_acqA (f : Fld) (n : Nat) : (s.bump f n).acqA = s.acqA := rfl
@[simp] theorem State.bump_acqB (f : Fld) (n : Nat) : (s.bump f n).acqB = s.acqB := rfl
@[simp] theorem State.bump_cnv (f : Fld) (n : Nat) : (s.bump f n).cnv = s.cnv := rfl
@[simp] theorem State.bump_tim (f : Fld) (n : Nat) : (s.bump f n).tim = s.tim := rfl
@[simp] theorem State.bump_freeN (f : Fld) (n : Nat) : (s.bump f n).freeN = s.freeN := rfl

/-! ## bump48 -/

@[simp] theorem State.bump48_pending (lo hi : Fld) (n : Nat) : (s.bump48 lo hi n).pending = s.pending := rfl
@[simp] theorem State.bump48_gradeX (lo hi : Fld) (n : Nat) : (s.bump48 lo hi n).gradeX = s.gradeX := rfl
@[simp] theorem State.bump48_shadow (lo hi : Fld) (n : Nat) : (s.bump48 lo hi n).shadow = s.shadow := rfl
@[simp] theorem State.bump48_mem (lo hi : Fld) (n : Nat) : (s.bump48 lo hi n).mem = s.mem := rfl
@[simp] theorem State.bump48_evq (lo hi : Fld) (n : Nat) : (s.bump48 lo hi n).evq = s.evq := rfl
@[simp] theorem State.bump48_clk (lo hi : Fld) (n : Nat) : (s.bump48 lo hi n).clk = s.clk := rfl
@[simp] theorem State.bump48_polders (lo hi : Fld) (n : Nat) : (s.bump48 lo hi n).polders = s.polders := rfl
@[simp] theorem State.bump48_rails (lo hi : Fld) (n : Nat) : (s.bump48 lo hi n).rails = s.rails := rfl
@[simp] theorem State.bump48_rst (lo hi : Fld) (n : Nat) : (s.bump48 lo hi n).rst = s.rst := rfl
@[simp] theorem State.bump48_mtp (lo hi : Fld) (n : Nat) : (s.bump48 lo hi n).mtp = s.mtp := rfl
@[simp] theorem State.bump48_cip (lo hi : Fld) (n : Nat) : (s.bump48 lo hi n).cip = s.cip := rfl
@[simp] theorem State.bump48_carA (lo hi : Fld) (n : Nat) : (s.bump48 lo hi n).carA = s.carA := rfl
@[simp] theorem State.bump48_carB (lo hi : Fld) (n : Nat) : (s.bump48 lo hi n).carB = s.carB := rfl
@[simp] theorem State.bump48_frameClk (lo hi : Fld) (n : Nat) : (s.bump48 lo hi n).frameClk = s.frameClk := rfl
@[simp] theorem State.bump48_pairProt (lo hi : Fld) (n : Nat) : (s.bump48 lo hi n).pairProt = s.pairProt := rfl
@[simp] theorem State.bump48_tribs (lo hi : Fld) (n : Nat) : (s.bump48 lo hi n).tribs = s.tribs := rfl
@[simp] theorem State.bump48_policies (lo hi : Fld) (n : Nat) : (s.bump48 lo hi n).policies = s.policies := rfl
@[simp] theorem State.bump48_refset (lo hi : Fld) (n : Nat) : (s.bump48 lo hi n).refset = s.refset := rfl
@[simp] theorem State.bump48_powerDescs (lo hi : Fld) (n : Nat) : (s.bump48 lo hi n).powerDescs = s.powerDescs := rfl
@[simp] theorem State.bump48_refusals (lo hi : Fld) (n : Nat) : (s.bump48 lo hi n).refusals = s.refusals := rfl
@[simp] theorem State.bump48_lanes (lo hi : Fld) (n : Nat) : (s.bump48 lo hi n).lanes = s.lanes := rfl
@[simp] theorem State.bump48_groups (lo hi : Fld) (n : Nat) : (s.bump48 lo hi n).groups = s.groups := rfl
@[simp] theorem State.bump48_poolA (lo hi : Fld) (n : Nat) : (s.bump48 lo hi n).poolA = s.poolA := rfl
@[simp] theorem State.bump48_poolB (lo hi : Fld) (n : Nat) : (s.bump48 lo hi n).poolB = s.poolB := rfl
@[simp] theorem State.bump48_engines (lo hi : Fld) (n : Nat) : (s.bump48 lo hi n).engines = s.engines := rfl
@[simp] theorem State.bump48_mgt (lo hi : Fld) (n : Nat) : (s.bump48 lo hi n).mgt = s.mgt := rfl
@[simp] theorem State.bump48_thm (lo hi : Fld) (n : Nat) : (s.bump48 lo hi n).thm = s.thm := rfl
@[simp] theorem State.bump48_adc (lo hi : Fld) (n : Nat) : (s.bump48 lo hi n).adc = s.adc := rfl
@[simp] theorem State.bump48_ports (lo hi : Fld) (n : Nat) : (s.bump48 lo hi n).ports = s.ports := rfl
@[simp] theorem State.bump48_lineA (lo hi : Fld) (n : Nat) : (s.bump48 lo hi n).lineA = s.lineA := rfl
@[simp] theorem State.bump48_lineB (lo hi : Fld) (n : Nat) : (s.bump48 lo hi n).lineB = s.lineB := rfl
@[simp] theorem State.bump48_acqA (lo hi : Fld) (n : Nat) : (s.bump48 lo hi n).acqA = s.acqA := rfl
@[simp] theorem State.bump48_acqB (lo hi : Fld) (n : Nat) : (s.bump48 lo hi n).acqB = s.acqB := rfl
@[simp] theorem State.bump48_cnv (lo hi : Fld) (n : Nat) : (s.bump48 lo hi n).cnv = s.cnv := rfl
@[simp] theorem State.bump48_tim (lo hi : Fld) (n : Nat) : (s.bump48 lo hi n).tim = s.tim := rfl
@[simp] theorem State.bump48_freeN (lo hi : Fld) (n : Nat) : (s.bump48 lo hi n).freeN = s.freeN := rfl

/-! ## setPd -/

@[simp] theorem State.setPd_pending (n : Nat) (p : Polder) : (s.setPd n p).pending = s.pending := rfl
@[simp] theorem State.setPd_gradeX (n : Nat) (p : Polder) : (s.setPd n p).gradeX = s.gradeX := rfl
@[simp] theorem State.setPd_flds (n : Nat) (p : Polder) : (s.setPd n p).flds = s.flds := rfl
@[simp] theorem State.setPd_shadow (n : Nat) (p : Polder) : (s.setPd n p).shadow = s.shadow := rfl
@[simp] theorem State.setPd_mem (n : Nat) (p : Polder) : (s.setPd n p).mem = s.mem := rfl
@[simp] theorem State.setPd_evq (n : Nat) (p : Polder) : (s.setPd n p).evq = s.evq := rfl
@[simp] theorem State.setPd_clk (n : Nat) (p : Polder) : (s.setPd n p).clk = s.clk := rfl
@[simp] theorem State.setPd_rails (n : Nat) (p : Polder) : (s.setPd n p).rails = s.rails := rfl
@[simp] theorem State.setPd_rst (n : Nat) (p : Polder) : (s.setPd n p).rst = s.rst := rfl
@[simp] theorem State.setPd_mtp (n : Nat) (p : Polder) : (s.setPd n p).mtp = s.mtp := rfl
@[simp] theorem State.setPd_cip (n : Nat) (p : Polder) : (s.setPd n p).cip = s.cip := rfl
@[simp] theorem State.setPd_carA (n : Nat) (p : Polder) : (s.setPd n p).carA = s.carA := rfl
@[simp] theorem State.setPd_carB (n : Nat) (p : Polder) : (s.setPd n p).carB = s.carB := rfl
@[simp] theorem State.setPd_frameClk (n : Nat) (p : Polder) : (s.setPd n p).frameClk = s.frameClk := rfl
@[simp] theorem State.setPd_pairProt (n : Nat) (p : Polder) : (s.setPd n p).pairProt = s.pairProt := rfl
@[simp] theorem State.setPd_tribs (n : Nat) (p : Polder) : (s.setPd n p).tribs = s.tribs := rfl
@[simp] theorem State.setPd_policies (n : Nat) (p : Polder) : (s.setPd n p).policies = s.policies := rfl
@[simp] theorem State.setPd_refset (n : Nat) (p : Polder) : (s.setPd n p).refset = s.refset := rfl
@[simp] theorem State.setPd_powerDescs (n : Nat) (p : Polder) : (s.setPd n p).powerDescs = s.powerDescs := rfl
@[simp] theorem State.setPd_refusals (n : Nat) (p : Polder) : (s.setPd n p).refusals = s.refusals := rfl
@[simp] theorem State.setPd_lanes (n : Nat) (p : Polder) : (s.setPd n p).lanes = s.lanes := rfl
@[simp] theorem State.setPd_groups (n : Nat) (p : Polder) : (s.setPd n p).groups = s.groups := rfl
@[simp] theorem State.setPd_poolA (n : Nat) (p : Polder) : (s.setPd n p).poolA = s.poolA := rfl
@[simp] theorem State.setPd_poolB (n : Nat) (p : Polder) : (s.setPd n p).poolB = s.poolB := rfl
@[simp] theorem State.setPd_engines (n : Nat) (p : Polder) : (s.setPd n p).engines = s.engines := rfl
@[simp] theorem State.setPd_mgt (n : Nat) (p : Polder) : (s.setPd n p).mgt = s.mgt := rfl
@[simp] theorem State.setPd_thm (n : Nat) (p : Polder) : (s.setPd n p).thm = s.thm := rfl
@[simp] theorem State.setPd_adc (n : Nat) (p : Polder) : (s.setPd n p).adc = s.adc := rfl
@[simp] theorem State.setPd_ports (n : Nat) (p : Polder) : (s.setPd n p).ports = s.ports := rfl
@[simp] theorem State.setPd_lineA (n : Nat) (p : Polder) : (s.setPd n p).lineA = s.lineA := rfl
@[simp] theorem State.setPd_lineB (n : Nat) (p : Polder) : (s.setPd n p).lineB = s.lineB := rfl
@[simp] theorem State.setPd_acqA (n : Nat) (p : Polder) : (s.setPd n p).acqA = s.acqA := rfl
@[simp] theorem State.setPd_acqB (n : Nat) (p : Polder) : (s.setPd n p).acqB = s.acqB := rfl
@[simp] theorem State.setPd_cnv (n : Nat) (p : Polder) : (s.setPd n p).cnv = s.cnv := rfl
@[simp] theorem State.setPd_tim (n : Nat) (p : Polder) : (s.setPd n p).tim = s.tim := rfl
@[simp] theorem State.setPd_freeN (n : Nat) (p : Polder) : (s.setPd n p).freeN = s.freeN := rfl
@[simp] theorem State.setPd_get (n : Nat) (p : Polder) (g : Fld) : (s.setPd n p).get g = s.get g := rfl

/-! ## setTrib -/

@[simp] theorem State.setTrib_pending (d n : Nat) (x : Trib) : (s.setTrib d n x).pending = s.pending := rfl
@[simp] theorem State.setTrib_gradeX (d n : Nat) (x : Trib) : (s.setTrib d n x).gradeX = s.gradeX := rfl
@[simp] theorem State.setTrib_flds (d n : Nat) (x : Trib) : (s.setTrib d n x).flds = s.flds := rfl
@[simp] theorem State.setTrib_shadow (d n : Nat) (x : Trib) : (s.setTrib d n x).shadow = s.shadow := rfl
@[simp] theorem State.setTrib_mem (d n : Nat) (x : Trib) : (s.setTrib d n x).mem = s.mem := rfl
@[simp] theorem State.setTrib_evq (d n : Nat) (x : Trib) : (s.setTrib d n x).evq = s.evq := rfl
@[simp] theorem State.setTrib_clk (d n : Nat) (x : Trib) : (s.setTrib d n x).clk = s.clk := rfl
@[simp] theorem State.setTrib_polders (d n : Nat) (x : Trib) : (s.setTrib d n x).polders = s.polders := rfl
@[simp] theorem State.setTrib_rails (d n : Nat) (x : Trib) : (s.setTrib d n x).rails = s.rails := rfl
@[simp] theorem State.setTrib_rst (d n : Nat) (x : Trib) : (s.setTrib d n x).rst = s.rst := rfl
@[simp] theorem State.setTrib_mtp (d n : Nat) (x : Trib) : (s.setTrib d n x).mtp = s.mtp := rfl
@[simp] theorem State.setTrib_cip (d n : Nat) (x : Trib) : (s.setTrib d n x).cip = s.cip := rfl
@[simp] theorem State.setTrib_carA (d n : Nat) (x : Trib) : (s.setTrib d n x).carA = s.carA := rfl
@[simp] theorem State.setTrib_carB (d n : Nat) (x : Trib) : (s.setTrib d n x).carB = s.carB := rfl
@[simp] theorem State.setTrib_frameClk (d n : Nat) (x : Trib) : (s.setTrib d n x).frameClk = s.frameClk := rfl
@[simp] theorem State.setTrib_pairProt (d n : Nat) (x : Trib) : (s.setTrib d n x).pairProt = s.pairProt := rfl
@[simp] theorem State.setTrib_policies (d n : Nat) (x : Trib) : (s.setTrib d n x).policies = s.policies := rfl
@[simp] theorem State.setTrib_refset (d n : Nat) (x : Trib) : (s.setTrib d n x).refset = s.refset := rfl
@[simp] theorem State.setTrib_powerDescs (d n : Nat) (x : Trib) : (s.setTrib d n x).powerDescs = s.powerDescs := rfl
@[simp] theorem State.setTrib_refusals (d n : Nat) (x : Trib) : (s.setTrib d n x).refusals = s.refusals := rfl
@[simp] theorem State.setTrib_lanes (d n : Nat) (x : Trib) : (s.setTrib d n x).lanes = s.lanes := rfl
@[simp] theorem State.setTrib_groups (d n : Nat) (x : Trib) : (s.setTrib d n x).groups = s.groups := rfl
@[simp] theorem State.setTrib_poolA (d n : Nat) (x : Trib) : (s.setTrib d n x).poolA = s.poolA := rfl
@[simp] theorem State.setTrib_poolB (d n : Nat) (x : Trib) : (s.setTrib d n x).poolB = s.poolB := rfl
@[simp] theorem State.setTrib_engines (d n : Nat) (x : Trib) : (s.setTrib d n x).engines = s.engines := rfl
@[simp] theorem State.setTrib_mgt (d n : Nat) (x : Trib) : (s.setTrib d n x).mgt = s.mgt := rfl
@[simp] theorem State.setTrib_thm (d n : Nat) (x : Trib) : (s.setTrib d n x).thm = s.thm := rfl
@[simp] theorem State.setTrib_adc (d n : Nat) (x : Trib) : (s.setTrib d n x).adc = s.adc := rfl
@[simp] theorem State.setTrib_ports (d n : Nat) (x : Trib) : (s.setTrib d n x).ports = s.ports := rfl
@[simp] theorem State.setTrib_lineA (d n : Nat) (x : Trib) : (s.setTrib d n x).lineA = s.lineA := rfl
@[simp] theorem State.setTrib_lineB (d n : Nat) (x : Trib) : (s.setTrib d n x).lineB = s.lineB := rfl
@[simp] theorem State.setTrib_acqA (d n : Nat) (x : Trib) : (s.setTrib d n x).acqA = s.acqA := rfl
@[simp] theorem State.setTrib_acqB (d n : Nat) (x : Trib) : (s.setTrib d n x).acqB = s.acqB := rfl
@[simp] theorem State.setTrib_cnv (d n : Nat) (x : Trib) : (s.setTrib d n x).cnv = s.cnv := rfl
@[simp] theorem State.setTrib_tim (d n : Nat) (x : Trib) : (s.setTrib d n x).tim = s.tim := rfl
@[simp] theorem State.setTrib_freeN (d n : Nat) (x : Trib) : (s.setTrib d n x).freeN = s.freeN := rfl
@[simp] theorem State.setTrib_get (d n : Nat) (x : Trib) (g : Fld) : (s.setTrib d n x).get g = s.get g := rfl

/-! ## setEng -/

@[simp] theorem State.setEng_pending (e : Nat) (x : Engine) : (s.setEng e x).pending = s.pending := rfl
@[simp] theorem State.setEng_gradeX (e : Nat) (x : Engine) : (s.setEng e x).gradeX = s.gradeX := rfl
@[simp] theorem State.setEng_flds (e : Nat) (x : Engine) : (s.setEng e x).flds = s.flds := rfl
@[simp] theorem State.setEng_shadow (e : Nat) (x : Engine) : (s.setEng e x).shadow = s.shadow := rfl
@[simp] theorem State.setEng_mem (e : Nat) (x : Engine) : (s.setEng e x).mem = s.mem := rfl
@[simp] theorem State.setEng_evq (e : Nat) (x : Engine) : (s.setEng e x).evq = s.evq := rfl
@[simp] theorem State.setEng_clk (e : Nat) (x : Engine) : (s.setEng e x).clk = s.clk := rfl
@[simp] theorem State.setEng_polders (e : Nat) (x : Engine) : (s.setEng e x).polders = s.polders := rfl
@[simp] theorem State.setEng_rails (e : Nat) (x : Engine) : (s.setEng e x).rails = s.rails := rfl
@[simp] theorem State.setEng_rst (e : Nat) (x : Engine) : (s.setEng e x).rst = s.rst := rfl
@[simp] theorem State.setEng_mtp (e : Nat) (x : Engine) : (s.setEng e x).mtp = s.mtp := rfl
@[simp] theorem State.setEng_cip (e : Nat) (x : Engine) : (s.setEng e x).cip = s.cip := rfl
@[simp] theorem State.setEng_carA (e : Nat) (x : Engine) : (s.setEng e x).carA = s.carA := rfl
@[simp] theorem State.setEng_carB (e : Nat) (x : Engine) : (s.setEng e x).carB = s.carB := rfl
@[simp] theorem State.setEng_frameClk (e : Nat) (x : Engine) : (s.setEng e x).frameClk = s.frameClk := rfl
@[simp] theorem State.setEng_pairProt (e : Nat) (x : Engine) : (s.setEng e x).pairProt = s.pairProt := rfl
@[simp] theorem State.setEng_tribs (e : Nat) (x : Engine) : (s.setEng e x).tribs = s.tribs := rfl
@[simp] theorem State.setEng_policies (e : Nat) (x : Engine) : (s.setEng e x).policies = s.policies := rfl
@[simp] theorem State.setEng_refset (e : Nat) (x : Engine) : (s.setEng e x).refset = s.refset := rfl
@[simp] theorem State.setEng_powerDescs (e : Nat) (x : Engine) : (s.setEng e x).powerDescs = s.powerDescs := rfl
@[simp] theorem State.setEng_refusals (e : Nat) (x : Engine) : (s.setEng e x).refusals = s.refusals := rfl
@[simp] theorem State.setEng_lanes (e : Nat) (x : Engine) : (s.setEng e x).lanes = s.lanes := rfl
@[simp] theorem State.setEng_groups (e : Nat) (x : Engine) : (s.setEng e x).groups = s.groups := rfl
@[simp] theorem State.setEng_poolA (e : Nat) (x : Engine) : (s.setEng e x).poolA = s.poolA := rfl
@[simp] theorem State.setEng_poolB (e : Nat) (x : Engine) : (s.setEng e x).poolB = s.poolB := rfl
@[simp] theorem State.setEng_mgt (e : Nat) (x : Engine) : (s.setEng e x).mgt = s.mgt := rfl
@[simp] theorem State.setEng_thm (e : Nat) (x : Engine) : (s.setEng e x).thm = s.thm := rfl
@[simp] theorem State.setEng_adc (e : Nat) (x : Engine) : (s.setEng e x).adc = s.adc := rfl
@[simp] theorem State.setEng_ports (e : Nat) (x : Engine) : (s.setEng e x).ports = s.ports := rfl
@[simp] theorem State.setEng_lineA (e : Nat) (x : Engine) : (s.setEng e x).lineA = s.lineA := rfl
@[simp] theorem State.setEng_lineB (e : Nat) (x : Engine) : (s.setEng e x).lineB = s.lineB := rfl
@[simp] theorem State.setEng_acqA (e : Nat) (x : Engine) : (s.setEng e x).acqA = s.acqA := rfl
@[simp] theorem State.setEng_acqB (e : Nat) (x : Engine) : (s.setEng e x).acqB = s.acqB := rfl
@[simp] theorem State.setEng_cnv (e : Nat) (x : Engine) : (s.setEng e x).cnv = s.cnv := rfl
@[simp] theorem State.setEng_tim (e : Nat) (x : Engine) : (s.setEng e x).tim = s.tim := rfl
@[simp] theorem State.setEng_freeN (e : Nat) (x : Engine) : (s.setEng e x).freeN = s.freeN := rfl
@[simp] theorem State.setEng_get (e : Nat) (x : Engine) (g : Fld) : (s.setEng e x).get g = s.get g := rfl

/-! ## setLane -/

@[simp] theorem State.setLane_pending (n : Nat) (x : Lane) : (s.setLane n x).pending = s.pending := rfl
@[simp] theorem State.setLane_gradeX (n : Nat) (x : Lane) : (s.setLane n x).gradeX = s.gradeX := rfl
@[simp] theorem State.setLane_flds (n : Nat) (x : Lane) : (s.setLane n x).flds = s.flds := rfl
@[simp] theorem State.setLane_shadow (n : Nat) (x : Lane) : (s.setLane n x).shadow = s.shadow := rfl
@[simp] theorem State.setLane_mem (n : Nat) (x : Lane) : (s.setLane n x).mem = s.mem := rfl
@[simp] theorem State.setLane_evq (n : Nat) (x : Lane) : (s.setLane n x).evq = s.evq := rfl
@[simp] theorem State.setLane_clk (n : Nat) (x : Lane) : (s.setLane n x).clk = s.clk := rfl
@[simp] theorem State.setLane_polders (n : Nat) (x : Lane) : (s.setLane n x).polders = s.polders := rfl
@[simp] theorem State.setLane_rails (n : Nat) (x : Lane) : (s.setLane n x).rails = s.rails := rfl
@[simp] theorem State.setLane_rst (n : Nat) (x : Lane) : (s.setLane n x).rst = s.rst := rfl
@[simp] theorem State.setLane_mtp (n : Nat) (x : Lane) : (s.setLane n x).mtp = s.mtp := rfl
@[simp] theorem State.setLane_cip (n : Nat) (x : Lane) : (s.setLane n x).cip = s.cip := rfl
@[simp] theorem State.setLane_carA (n : Nat) (x : Lane) : (s.setLane n x).carA = s.carA := rfl
@[simp] theorem State.setLane_carB (n : Nat) (x : Lane) : (s.setLane n x).carB = s.carB := rfl
@[simp] theorem State.setLane_frameClk (n : Nat) (x : Lane) : (s.setLane n x).frameClk = s.frameClk := rfl
@[simp] theorem State.setLane_pairProt (n : Nat) (x : Lane) : (s.setLane n x).pairProt = s.pairProt := rfl
@[simp] theorem State.setLane_tribs (n : Nat) (x : Lane) : (s.setLane n x).tribs = s.tribs := rfl
@[simp] theorem State.setLane_policies (n : Nat) (x : Lane) : (s.setLane n x).policies = s.policies := rfl
@[simp] theorem State.setLane_refset (n : Nat) (x : Lane) : (s.setLane n x).refset = s.refset := rfl
@[simp] theorem State.setLane_powerDescs (n : Nat) (x : Lane) : (s.setLane n x).powerDescs = s.powerDescs := rfl
@[simp] theorem State.setLane_refusals (n : Nat) (x : Lane) : (s.setLane n x).refusals = s.refusals := rfl
@[simp] theorem State.setLane_groups (n : Nat) (x : Lane) : (s.setLane n x).groups = s.groups := rfl
@[simp] theorem State.setLane_poolA (n : Nat) (x : Lane) : (s.setLane n x).poolA = s.poolA := rfl
@[simp] theorem State.setLane_poolB (n : Nat) (x : Lane) : (s.setLane n x).poolB = s.poolB := rfl
@[simp] theorem State.setLane_engines (n : Nat) (x : Lane) : (s.setLane n x).engines = s.engines := rfl
@[simp] theorem State.setLane_mgt (n : Nat) (x : Lane) : (s.setLane n x).mgt = s.mgt := rfl
@[simp] theorem State.setLane_thm (n : Nat) (x : Lane) : (s.setLane n x).thm = s.thm := rfl
@[simp] theorem State.setLane_adc (n : Nat) (x : Lane) : (s.setLane n x).adc = s.adc := rfl
@[simp] theorem State.setLane_ports (n : Nat) (x : Lane) : (s.setLane n x).ports = s.ports := rfl
@[simp] theorem State.setLane_lineA (n : Nat) (x : Lane) : (s.setLane n x).lineA = s.lineA := rfl
@[simp] theorem State.setLane_lineB (n : Nat) (x : Lane) : (s.setLane n x).lineB = s.lineB := rfl
@[simp] theorem State.setLane_acqA (n : Nat) (x : Lane) : (s.setLane n x).acqA = s.acqA := rfl
@[simp] theorem State.setLane_acqB (n : Nat) (x : Lane) : (s.setLane n x).acqB = s.acqB := rfl
@[simp] theorem State.setLane_cnv (n : Nat) (x : Lane) : (s.setLane n x).cnv = s.cnv := rfl
@[simp] theorem State.setLane_tim (n : Nat) (x : Lane) : (s.setLane n x).tim = s.tim := rfl
@[simp] theorem State.setLane_freeN (n : Nat) (x : Lane) : (s.setLane n x).freeN = s.freeN := rfl
@[simp] theorem State.setLane_get (n : Nat) (x : Lane) (g : Fld) : (s.setLane n x).get g = s.get g := rfl

/-! ## setGroup -/

@[simp] theorem State.setGroup_pending (n : Nat) (x : Group) : (s.setGroup n x).pending = s.pending := rfl
@[simp] theorem State.setGroup_gradeX (n : Nat) (x : Group) : (s.setGroup n x).gradeX = s.gradeX := rfl
@[simp] theorem State.setGroup_flds (n : Nat) (x : Group) : (s.setGroup n x).flds = s.flds := rfl
@[simp] theorem State.setGroup_shadow (n : Nat) (x : Group) : (s.setGroup n x).shadow = s.shadow := rfl
@[simp] theorem State.setGroup_mem (n : Nat) (x : Group) : (s.setGroup n x).mem = s.mem := rfl
@[simp] theorem State.setGroup_evq (n : Nat) (x : Group) : (s.setGroup n x).evq = s.evq := rfl
@[simp] theorem State.setGroup_clk (n : Nat) (x : Group) : (s.setGroup n x).clk = s.clk := rfl
@[simp] theorem State.setGroup_polders (n : Nat) (x : Group) : (s.setGroup n x).polders = s.polders := rfl
@[simp] theorem State.setGroup_rails (n : Nat) (x : Group) : (s.setGroup n x).rails = s.rails := rfl
@[simp] theorem State.setGroup_rst (n : Nat) (x : Group) : (s.setGroup n x).rst = s.rst := rfl
@[simp] theorem State.setGroup_mtp (n : Nat) (x : Group) : (s.setGroup n x).mtp = s.mtp := rfl
@[simp] theorem State.setGroup_cip (n : Nat) (x : Group) : (s.setGroup n x).cip = s.cip := rfl
@[simp] theorem State.setGroup_carA (n : Nat) (x : Group) : (s.setGroup n x).carA = s.carA := rfl
@[simp] theorem State.setGroup_carB (n : Nat) (x : Group) : (s.setGroup n x).carB = s.carB := rfl
@[simp] theorem State.setGroup_frameClk (n : Nat) (x : Group) : (s.setGroup n x).frameClk = s.frameClk := rfl
@[simp] theorem State.setGroup_pairProt (n : Nat) (x : Group) : (s.setGroup n x).pairProt = s.pairProt := rfl
@[simp] theorem State.setGroup_tribs (n : Nat) (x : Group) : (s.setGroup n x).tribs = s.tribs := rfl
@[simp] theorem State.setGroup_policies (n : Nat) (x : Group) : (s.setGroup n x).policies = s.policies := rfl
@[simp] theorem State.setGroup_refset (n : Nat) (x : Group) : (s.setGroup n x).refset = s.refset := rfl
@[simp] theorem State.setGroup_powerDescs (n : Nat) (x : Group) : (s.setGroup n x).powerDescs = s.powerDescs := rfl
@[simp] theorem State.setGroup_refusals (n : Nat) (x : Group) : (s.setGroup n x).refusals = s.refusals := rfl
@[simp] theorem State.setGroup_lanes (n : Nat) (x : Group) : (s.setGroup n x).lanes = s.lanes := rfl
@[simp] theorem State.setGroup_poolA (n : Nat) (x : Group) : (s.setGroup n x).poolA = s.poolA := rfl
@[simp] theorem State.setGroup_poolB (n : Nat) (x : Group) : (s.setGroup n x).poolB = s.poolB := rfl
@[simp] theorem State.setGroup_engines (n : Nat) (x : Group) : (s.setGroup n x).engines = s.engines := rfl
@[simp] theorem State.setGroup_mgt (n : Nat) (x : Group) : (s.setGroup n x).mgt = s.mgt := rfl
@[simp] theorem State.setGroup_thm (n : Nat) (x : Group) : (s.setGroup n x).thm = s.thm := rfl
@[simp] theorem State.setGroup_adc (n : Nat) (x : Group) : (s.setGroup n x).adc = s.adc := rfl
@[simp] theorem State.setGroup_ports (n : Nat) (x : Group) : (s.setGroup n x).ports = s.ports := rfl
@[simp] theorem State.setGroup_lineA (n : Nat) (x : Group) : (s.setGroup n x).lineA = s.lineA := rfl
@[simp] theorem State.setGroup_lineB (n : Nat) (x : Group) : (s.setGroup n x).lineB = s.lineB := rfl
@[simp] theorem State.setGroup_acqA (n : Nat) (x : Group) : (s.setGroup n x).acqA = s.acqA := rfl
@[simp] theorem State.setGroup_acqB (n : Nat) (x : Group) : (s.setGroup n x).acqB = s.acqB := rfl
@[simp] theorem State.setGroup_cnv (n : Nat) (x : Group) : (s.setGroup n x).cnv = s.cnv := rfl
@[simp] theorem State.setGroup_tim (n : Nat) (x : Group) : (s.setGroup n x).tim = s.tim := rfl
@[simp] theorem State.setGroup_freeN (n : Nat) (x : Group) : (s.setGroup n x).freeN = s.freeN := rfl
@[simp] theorem State.setGroup_get (n : Nat) (x : Group) (g : Fld) : (s.setGroup n x).get g = s.get g := rfl

/-! ## setSource -/

@[simp] theorem State.setSource_pending (n : Nat) (x : Source) : (s.setSource n x).pending = s.pending := rfl
@[simp] theorem State.setSource_gradeX (n : Nat) (x : Source) : (s.setSource n x).gradeX = s.gradeX := rfl
@[simp] theorem State.setSource_flds (n : Nat) (x : Source) : (s.setSource n x).flds = s.flds := rfl
@[simp] theorem State.setSource_shadow (n : Nat) (x : Source) : (s.setSource n x).shadow = s.shadow := rfl
@[simp] theorem State.setSource_mem (n : Nat) (x : Source) : (s.setSource n x).mem = s.mem := rfl
@[simp] theorem State.setSource_clk (n : Nat) (x : Source) : (s.setSource n x).clk = s.clk := rfl
@[simp] theorem State.setSource_polders (n : Nat) (x : Source) : (s.setSource n x).polders = s.polders := rfl
@[simp] theorem State.setSource_rails (n : Nat) (x : Source) : (s.setSource n x).rails = s.rails := rfl
@[simp] theorem State.setSource_rst (n : Nat) (x : Source) : (s.setSource n x).rst = s.rst := rfl
@[simp] theorem State.setSource_mtp (n : Nat) (x : Source) : (s.setSource n x).mtp = s.mtp := rfl
@[simp] theorem State.setSource_cip (n : Nat) (x : Source) : (s.setSource n x).cip = s.cip := rfl
@[simp] theorem State.setSource_carA (n : Nat) (x : Source) : (s.setSource n x).carA = s.carA := rfl
@[simp] theorem State.setSource_carB (n : Nat) (x : Source) : (s.setSource n x).carB = s.carB := rfl
@[simp] theorem State.setSource_frameClk (n : Nat) (x : Source) : (s.setSource n x).frameClk = s.frameClk := rfl
@[simp] theorem State.setSource_pairProt (n : Nat) (x : Source) : (s.setSource n x).pairProt = s.pairProt := rfl
@[simp] theorem State.setSource_tribs (n : Nat) (x : Source) : (s.setSource n x).tribs = s.tribs := rfl
@[simp] theorem State.setSource_policies (n : Nat) (x : Source) : (s.setSource n x).policies = s.policies := rfl
@[simp] theorem State.setSource_refset (n : Nat) (x : Source) : (s.setSource n x).refset = s.refset := rfl
@[simp] theorem State.setSource_powerDescs (n : Nat) (x : Source) : (s.setSource n x).powerDescs = s.powerDescs := rfl
@[simp] theorem State.setSource_refusals (n : Nat) (x : Source) : (s.setSource n x).refusals = s.refusals := rfl
@[simp] theorem State.setSource_lanes (n : Nat) (x : Source) : (s.setSource n x).lanes = s.lanes := rfl
@[simp] theorem State.setSource_groups (n : Nat) (x : Source) : (s.setSource n x).groups = s.groups := rfl
@[simp] theorem State.setSource_poolA (n : Nat) (x : Source) : (s.setSource n x).poolA = s.poolA := rfl
@[simp] theorem State.setSource_poolB (n : Nat) (x : Source) : (s.setSource n x).poolB = s.poolB := rfl
@[simp] theorem State.setSource_engines (n : Nat) (x : Source) : (s.setSource n x).engines = s.engines := rfl
@[simp] theorem State.setSource_mgt (n : Nat) (x : Source) : (s.setSource n x).mgt = s.mgt := rfl
@[simp] theorem State.setSource_thm (n : Nat) (x : Source) : (s.setSource n x).thm = s.thm := rfl
@[simp] theorem State.setSource_adc (n : Nat) (x : Source) : (s.setSource n x).adc = s.adc := rfl
@[simp] theorem State.setSource_ports (n : Nat) (x : Source) : (s.setSource n x).ports = s.ports := rfl
@[simp] theorem State.setSource_lineA (n : Nat) (x : Source) : (s.setSource n x).lineA = s.lineA := rfl
@[simp] theorem State.setSource_lineB (n : Nat) (x : Source) : (s.setSource n x).lineB = s.lineB := rfl
@[simp] theorem State.setSource_acqA (n : Nat) (x : Source) : (s.setSource n x).acqA = s.acqA := rfl
@[simp] theorem State.setSource_acqB (n : Nat) (x : Source) : (s.setSource n x).acqB = s.acqB := rfl
@[simp] theorem State.setSource_cnv (n : Nat) (x : Source) : (s.setSource n x).cnv = s.cnv := rfl
@[simp] theorem State.setSource_tim (n : Nat) (x : Source) : (s.setSource n x).tim = s.tim := rfl
@[simp] theorem State.setSource_freeN (n : Nat) (x : Source) : (s.setSource n x).freeN = s.freeN := rfl
@[simp] theorem State.setSource_get (n : Nat) (x : Source) (g : Fld) : (s.setSource n x).get g = s.get g := rfl

/-! ## setMem -/

@[simp] theorem State.setMem_pending (m : Mem) : (s.setMem m).pending = s.pending := rfl
@[simp] theorem State.setMem_gradeX (m : Mem) : (s.setMem m).gradeX = s.gradeX := rfl
@[simp] theorem State.setMem_flds (m : Mem) : (s.setMem m).flds = s.flds := rfl
@[simp] theorem State.setMem_shadow (m : Mem) : (s.setMem m).shadow = s.shadow := rfl
@[simp] theorem State.setMem_evq (m : Mem) : (s.setMem m).evq = s.evq := rfl
@[simp] theorem State.setMem_clk (m : Mem) : (s.setMem m).clk = s.clk := rfl
@[simp] theorem State.setMem_polders (m : Mem) : (s.setMem m).polders = s.polders := rfl
@[simp] theorem State.setMem_rails (m : Mem) : (s.setMem m).rails = s.rails := rfl
@[simp] theorem State.setMem_rst (m : Mem) : (s.setMem m).rst = s.rst := rfl
@[simp] theorem State.setMem_mtp (m : Mem) : (s.setMem m).mtp = s.mtp := rfl
@[simp] theorem State.setMem_cip (m : Mem) : (s.setMem m).cip = s.cip := rfl
@[simp] theorem State.setMem_carA (m : Mem) : (s.setMem m).carA = s.carA := rfl
@[simp] theorem State.setMem_carB (m : Mem) : (s.setMem m).carB = s.carB := rfl
@[simp] theorem State.setMem_frameClk (m : Mem) : (s.setMem m).frameClk = s.frameClk := rfl
@[simp] theorem State.setMem_pairProt (m : Mem) : (s.setMem m).pairProt = s.pairProt := rfl
@[simp] theorem State.setMem_tribs (m : Mem) : (s.setMem m).tribs = s.tribs := rfl
@[simp] theorem State.setMem_policies (m : Mem) : (s.setMem m).policies = s.policies := rfl
@[simp] theorem State.setMem_refset (m : Mem) : (s.setMem m).refset = s.refset := rfl
@[simp] theorem State.setMem_powerDescs (m : Mem) : (s.setMem m).powerDescs = s.powerDescs := rfl
@[simp] theorem State.setMem_refusals (m : Mem) : (s.setMem m).refusals = s.refusals := rfl
@[simp] theorem State.setMem_lanes (m : Mem) : (s.setMem m).lanes = s.lanes := rfl
@[simp] theorem State.setMem_groups (m : Mem) : (s.setMem m).groups = s.groups := rfl
@[simp] theorem State.setMem_poolA (m : Mem) : (s.setMem m).poolA = s.poolA := rfl
@[simp] theorem State.setMem_poolB (m : Mem) : (s.setMem m).poolB = s.poolB := rfl
@[simp] theorem State.setMem_engines (m : Mem) : (s.setMem m).engines = s.engines := rfl
@[simp] theorem State.setMem_mgt (m : Mem) : (s.setMem m).mgt = s.mgt := rfl
@[simp] theorem State.setMem_thm (m : Mem) : (s.setMem m).thm = s.thm := rfl
@[simp] theorem State.setMem_adc (m : Mem) : (s.setMem m).adc = s.adc := rfl
@[simp] theorem State.setMem_ports (m : Mem) : (s.setMem m).ports = s.ports := rfl
@[simp] theorem State.setMem_lineA (m : Mem) : (s.setMem m).lineA = s.lineA := rfl
@[simp] theorem State.setMem_lineB (m : Mem) : (s.setMem m).lineB = s.lineB := rfl
@[simp] theorem State.setMem_acqA (m : Mem) : (s.setMem m).acqA = s.acqA := rfl
@[simp] theorem State.setMem_acqB (m : Mem) : (s.setMem m).acqB = s.acqB := rfl
@[simp] theorem State.setMem_cnv (m : Mem) : (s.setMem m).cnv = s.cnv := rfl
@[simp] theorem State.setMem_tim (m : Mem) : (s.setMem m).tim = s.tim := rfl
@[simp] theorem State.setMem_freeN (m : Mem) : (s.setMem m).freeN = s.freeN := rfl
@[simp] theorem State.setMem_get (m : Mem) (g : Fld) : (s.setMem m).get g = s.get g := rfl

/-! ## setCar -/

@[simp] theorem State.setCar_pending (c : Nat) (x : Carrier) : (s.setCar c x).pending = s.pending := by unfold State.setCar; split <;> rfl
@[simp] theorem State.setCar_gradeX (c : Nat) (x : Carrier) : (s.setCar c x).gradeX = s.gradeX := by unfold State.setCar; split <;> rfl
@[simp] theorem State.setCar_flds (c : Nat) (x : Carrier) : (s.setCar c x).flds = s.flds := by unfold State.setCar; split <;> rfl
@[simp] theorem State.setCar_shadow (c : Nat) (x : Carrier) : (s.setCar c x).shadow = s.shadow := by unfold State.setCar; split <;> rfl
@[simp] theorem State.setCar_mem (c : Nat) (x : Carrier) : (s.setCar c x).mem = s.mem := by unfold State.setCar; split <;> rfl
@[simp] theorem State.setCar_evq (c : Nat) (x : Carrier) : (s.setCar c x).evq = s.evq := by unfold State.setCar; split <;> rfl
@[simp] theorem State.setCar_clk (c : Nat) (x : Carrier) : (s.setCar c x).clk = s.clk := by unfold State.setCar; split <;> rfl
@[simp] theorem State.setCar_polders (c : Nat) (x : Carrier) : (s.setCar c x).polders = s.polders := by unfold State.setCar; split <;> rfl
@[simp] theorem State.setCar_rails (c : Nat) (x : Carrier) : (s.setCar c x).rails = s.rails := by unfold State.setCar; split <;> rfl
@[simp] theorem State.setCar_rst (c : Nat) (x : Carrier) : (s.setCar c x).rst = s.rst := by unfold State.setCar; split <;> rfl
@[simp] theorem State.setCar_mtp (c : Nat) (x : Carrier) : (s.setCar c x).mtp = s.mtp := by unfold State.setCar; split <;> rfl
@[simp] theorem State.setCar_cip (c : Nat) (x : Carrier) : (s.setCar c x).cip = s.cip := by unfold State.setCar; split <;> rfl
@[simp] theorem State.setCar_frameClk (c : Nat) (x : Carrier) : (s.setCar c x).frameClk = s.frameClk := by unfold State.setCar; split <;> rfl
@[simp] theorem State.setCar_pairProt (c : Nat) (x : Carrier) : (s.setCar c x).pairProt = s.pairProt := by unfold State.setCar; split <;> rfl
@[simp] theorem State.setCar_tribs (c : Nat) (x : Carrier) : (s.setCar c x).tribs = s.tribs := by unfold State.setCar; split <;> rfl
@[simp] theorem State.setCar_policies (c : Nat) (x : Carrier) : (s.setCar c x).policies = s.policies := by unfold State.setCar; split <;> rfl
@[simp] theorem State.setCar_refset (c : Nat) (x : Carrier) : (s.setCar c x).refset = s.refset := by unfold State.setCar; split <;> rfl
@[simp] theorem State.setCar_powerDescs (c : Nat) (x : Carrier) : (s.setCar c x).powerDescs = s.powerDescs := by unfold State.setCar; split <;> rfl
@[simp] theorem State.setCar_refusals (c : Nat) (x : Carrier) : (s.setCar c x).refusals = s.refusals := by unfold State.setCar; split <;> rfl
@[simp] theorem State.setCar_lanes (c : Nat) (x : Carrier) : (s.setCar c x).lanes = s.lanes := by unfold State.setCar; split <;> rfl
@[simp] theorem State.setCar_groups (c : Nat) (x : Carrier) : (s.setCar c x).groups = s.groups := by unfold State.setCar; split <;> rfl
@[simp] theorem State.setCar_poolA (c : Nat) (x : Carrier) : (s.setCar c x).poolA = s.poolA := by unfold State.setCar; split <;> rfl
@[simp] theorem State.setCar_poolB (c : Nat) (x : Carrier) : (s.setCar c x).poolB = s.poolB := by unfold State.setCar; split <;> rfl
@[simp] theorem State.setCar_engines (c : Nat) (x : Carrier) : (s.setCar c x).engines = s.engines := by unfold State.setCar; split <;> rfl
@[simp] theorem State.setCar_mgt (c : Nat) (x : Carrier) : (s.setCar c x).mgt = s.mgt := by unfold State.setCar; split <;> rfl
@[simp] theorem State.setCar_thm (c : Nat) (x : Carrier) : (s.setCar c x).thm = s.thm := by unfold State.setCar; split <;> rfl
@[simp] theorem State.setCar_adc (c : Nat) (x : Carrier) : (s.setCar c x).adc = s.adc := by unfold State.setCar; split <;> rfl
@[simp] theorem State.setCar_ports (c : Nat) (x : Carrier) : (s.setCar c x).ports = s.ports := by unfold State.setCar; split <;> rfl
@[simp] theorem State.setCar_lineA (c : Nat) (x : Carrier) : (s.setCar c x).lineA = s.lineA := by unfold State.setCar; split <;> rfl
@[simp] theorem State.setCar_lineB (c : Nat) (x : Carrier) : (s.setCar c x).lineB = s.lineB := by unfold State.setCar; split <;> rfl
@[simp] theorem State.setCar_acqA (c : Nat) (x : Carrier) : (s.setCar c x).acqA = s.acqA := by unfold State.setCar; split <;> rfl
@[simp] theorem State.setCar_acqB (c : Nat) (x : Carrier) : (s.setCar c x).acqB = s.acqB := by unfold State.setCar; split <;> rfl
@[simp] theorem State.setCar_cnv (c : Nat) (x : Carrier) : (s.setCar c x).cnv = s.cnv := by unfold State.setCar; split <;> rfl
@[simp] theorem State.setCar_tim (c : Nat) (x : Carrier) : (s.setCar c x).tim = s.tim := by unfold State.setCar; split <;> rfl
@[simp] theorem State.setCar_freeN (c : Nat) (x : Carrier) : (s.setCar c x).freeN = s.freeN := by unfold State.setCar; split <;> rfl
@[simp] theorem State.setCar_get (c : Nat) (x : Carrier) (g : Fld) : (s.setCar c x).get g = s.get g := by unfold State.setCar; split <;> rfl

/-! ## setPool -/

@[simp] theorem State.setPool_pending (c : Nat) (x : Pool) : (s.setPool c x).pending = s.pending := by unfold State.setPool; split <;> rfl
@[simp] theorem State.setPool_gradeX (c : Nat) (x : Pool) : (s.setPool c x).gradeX = s.gradeX := by unfold State.setPool; split <;> rfl
@[simp] theorem State.setPool_flds (c : Nat) (x : Pool) : (s.setPool c x).flds = s.flds := by unfold State.setPool; split <;> rfl
@[simp] theorem State.setPool_shadow (c : Nat) (x : Pool) : (s.setPool c x).shadow = s.shadow := by unfold State.setPool; split <;> rfl
@[simp] theorem State.setPool_mem (c : Nat) (x : Pool) : (s.setPool c x).mem = s.mem := by unfold State.setPool; split <;> rfl
@[simp] theorem State.setPool_evq (c : Nat) (x : Pool) : (s.setPool c x).evq = s.evq := by unfold State.setPool; split <;> rfl
@[simp] theorem State.setPool_clk (c : Nat) (x : Pool) : (s.setPool c x).clk = s.clk := by unfold State.setPool; split <;> rfl
@[simp] theorem State.setPool_polders (c : Nat) (x : Pool) : (s.setPool c x).polders = s.polders := by unfold State.setPool; split <;> rfl
@[simp] theorem State.setPool_rails (c : Nat) (x : Pool) : (s.setPool c x).rails = s.rails := by unfold State.setPool; split <;> rfl
@[simp] theorem State.setPool_rst (c : Nat) (x : Pool) : (s.setPool c x).rst = s.rst := by unfold State.setPool; split <;> rfl
@[simp] theorem State.setPool_mtp (c : Nat) (x : Pool) : (s.setPool c x).mtp = s.mtp := by unfold State.setPool; split <;> rfl
@[simp] theorem State.setPool_cip (c : Nat) (x : Pool) : (s.setPool c x).cip = s.cip := by unfold State.setPool; split <;> rfl
@[simp] theorem State.setPool_carA (c : Nat) (x : Pool) : (s.setPool c x).carA = s.carA := by unfold State.setPool; split <;> rfl
@[simp] theorem State.setPool_carB (c : Nat) (x : Pool) : (s.setPool c x).carB = s.carB := by unfold State.setPool; split <;> rfl
@[simp] theorem State.setPool_frameClk (c : Nat) (x : Pool) : (s.setPool c x).frameClk = s.frameClk := by unfold State.setPool; split <;> rfl
@[simp] theorem State.setPool_pairProt (c : Nat) (x : Pool) : (s.setPool c x).pairProt = s.pairProt := by unfold State.setPool; split <;> rfl
@[simp] theorem State.setPool_tribs (c : Nat) (x : Pool) : (s.setPool c x).tribs = s.tribs := by unfold State.setPool; split <;> rfl
@[simp] theorem State.setPool_policies (c : Nat) (x : Pool) : (s.setPool c x).policies = s.policies := by unfold State.setPool; split <;> rfl
@[simp] theorem State.setPool_refset (c : Nat) (x : Pool) : (s.setPool c x).refset = s.refset := by unfold State.setPool; split <;> rfl
@[simp] theorem State.setPool_powerDescs (c : Nat) (x : Pool) : (s.setPool c x).powerDescs = s.powerDescs := by unfold State.setPool; split <;> rfl
@[simp] theorem State.setPool_refusals (c : Nat) (x : Pool) : (s.setPool c x).refusals = s.refusals := by unfold State.setPool; split <;> rfl
@[simp] theorem State.setPool_lanes (c : Nat) (x : Pool) : (s.setPool c x).lanes = s.lanes := by unfold State.setPool; split <;> rfl
@[simp] theorem State.setPool_groups (c : Nat) (x : Pool) : (s.setPool c x).groups = s.groups := by unfold State.setPool; split <;> rfl
@[simp] theorem State.setPool_engines (c : Nat) (x : Pool) : (s.setPool c x).engines = s.engines := by unfold State.setPool; split <;> rfl
@[simp] theorem State.setPool_mgt (c : Nat) (x : Pool) : (s.setPool c x).mgt = s.mgt := by unfold State.setPool; split <;> rfl
@[simp] theorem State.setPool_thm (c : Nat) (x : Pool) : (s.setPool c x).thm = s.thm := by unfold State.setPool; split <;> rfl
@[simp] theorem State.setPool_adc (c : Nat) (x : Pool) : (s.setPool c x).adc = s.adc := by unfold State.setPool; split <;> rfl
@[simp] theorem State.setPool_ports (c : Nat) (x : Pool) : (s.setPool c x).ports = s.ports := by unfold State.setPool; split <;> rfl
@[simp] theorem State.setPool_lineA (c : Nat) (x : Pool) : (s.setPool c x).lineA = s.lineA := by unfold State.setPool; split <;> rfl
@[simp] theorem State.setPool_lineB (c : Nat) (x : Pool) : (s.setPool c x).lineB = s.lineB := by unfold State.setPool; split <;> rfl
@[simp] theorem State.setPool_acqA (c : Nat) (x : Pool) : (s.setPool c x).acqA = s.acqA := by unfold State.setPool; split <;> rfl
@[simp] theorem State.setPool_acqB (c : Nat) (x : Pool) : (s.setPool c x).acqB = s.acqB := by unfold State.setPool; split <;> rfl
@[simp] theorem State.setPool_cnv (c : Nat) (x : Pool) : (s.setPool c x).cnv = s.cnv := by unfold State.setPool; split <;> rfl
@[simp] theorem State.setPool_tim (c : Nat) (x : Pool) : (s.setPool c x).tim = s.tim := by unfold State.setPool; split <;> rfl
@[simp] theorem State.setPool_freeN (c : Nat) (x : Pool) : (s.setPool c x).freeN = s.freeN := by unfold State.setPool; split <;> rfl
@[simp] theorem State.setPool_get (c : Nat) (x : Pool) (g : Fld) : (s.setPool c x).get g = s.get g := by unfold State.setPool; split <;> rfl

/-! ## setLine -/

@[simp] theorem State.setLine_pending (c : Nat) (x : Line) : (s.setLine c x).pending = s.pending := by unfold State.setLine; split <;> rfl
@[simp] theorem State.setLine_gradeX (c : Nat) (x : Line) : (s.setLine c x).gradeX = s.gradeX := by unfold State.setLine; split <;> rfl
@[simp] theorem State.setLine_flds (c : Nat) (x : Line) : (s.setLine c x).flds = s.flds := by unfold State.setLine; split <;> rfl
@[simp] theorem State.setLine_shadow (c : Nat) (x : Line) : (s.setLine c x).shadow = s.shadow := by unfold State.setLine; split <;> rfl
@[simp] theorem State.setLine_mem (c : Nat) (x : Line) : (s.setLine c x).mem = s.mem := by unfold State.setLine; split <;> rfl
@[simp] theorem State.setLine_evq (c : Nat) (x : Line) : (s.setLine c x).evq = s.evq := by unfold State.setLine; split <;> rfl
@[simp] theorem State.setLine_clk (c : Nat) (x : Line) : (s.setLine c x).clk = s.clk := by unfold State.setLine; split <;> rfl
@[simp] theorem State.setLine_polders (c : Nat) (x : Line) : (s.setLine c x).polders = s.polders := by unfold State.setLine; split <;> rfl
@[simp] theorem State.setLine_rails (c : Nat) (x : Line) : (s.setLine c x).rails = s.rails := by unfold State.setLine; split <;> rfl
@[simp] theorem State.setLine_rst (c : Nat) (x : Line) : (s.setLine c x).rst = s.rst := by unfold State.setLine; split <;> rfl
@[simp] theorem State.setLine_mtp (c : Nat) (x : Line) : (s.setLine c x).mtp = s.mtp := by unfold State.setLine; split <;> rfl
@[simp] theorem State.setLine_cip (c : Nat) (x : Line) : (s.setLine c x).cip = s.cip := by unfold State.setLine; split <;> rfl
@[simp] theorem State.setLine_carA (c : Nat) (x : Line) : (s.setLine c x).carA = s.carA := by unfold State.setLine; split <;> rfl
@[simp] theorem State.setLine_carB (c : Nat) (x : Line) : (s.setLine c x).carB = s.carB := by unfold State.setLine; split <;> rfl
@[simp] theorem State.setLine_frameClk (c : Nat) (x : Line) : (s.setLine c x).frameClk = s.frameClk := by unfold State.setLine; split <;> rfl
@[simp] theorem State.setLine_pairProt (c : Nat) (x : Line) : (s.setLine c x).pairProt = s.pairProt := by unfold State.setLine; split <;> rfl
@[simp] theorem State.setLine_tribs (c : Nat) (x : Line) : (s.setLine c x).tribs = s.tribs := by unfold State.setLine; split <;> rfl
@[simp] theorem State.setLine_policies (c : Nat) (x : Line) : (s.setLine c x).policies = s.policies := by unfold State.setLine; split <;> rfl
@[simp] theorem State.setLine_refset (c : Nat) (x : Line) : (s.setLine c x).refset = s.refset := by unfold State.setLine; split <;> rfl
@[simp] theorem State.setLine_powerDescs (c : Nat) (x : Line) : (s.setLine c x).powerDescs = s.powerDescs := by unfold State.setLine; split <;> rfl
@[simp] theorem State.setLine_refusals (c : Nat) (x : Line) : (s.setLine c x).refusals = s.refusals := by unfold State.setLine; split <;> rfl
@[simp] theorem State.setLine_lanes (c : Nat) (x : Line) : (s.setLine c x).lanes = s.lanes := by unfold State.setLine; split <;> rfl
@[simp] theorem State.setLine_groups (c : Nat) (x : Line) : (s.setLine c x).groups = s.groups := by unfold State.setLine; split <;> rfl
@[simp] theorem State.setLine_poolA (c : Nat) (x : Line) : (s.setLine c x).poolA = s.poolA := by unfold State.setLine; split <;> rfl
@[simp] theorem State.setLine_poolB (c : Nat) (x : Line) : (s.setLine c x).poolB = s.poolB := by unfold State.setLine; split <;> rfl
@[simp] theorem State.setLine_engines (c : Nat) (x : Line) : (s.setLine c x).engines = s.engines := by unfold State.setLine; split <;> rfl
@[simp] theorem State.setLine_mgt (c : Nat) (x : Line) : (s.setLine c x).mgt = s.mgt := by unfold State.setLine; split <;> rfl
@[simp] theorem State.setLine_thm (c : Nat) (x : Line) : (s.setLine c x).thm = s.thm := by unfold State.setLine; split <;> rfl
@[simp] theorem State.setLine_adc (c : Nat) (x : Line) : (s.setLine c x).adc = s.adc := by unfold State.setLine; split <;> rfl
@[simp] theorem State.setLine_ports (c : Nat) (x : Line) : (s.setLine c x).ports = s.ports := by unfold State.setLine; split <;> rfl
@[simp] theorem State.setLine_acqA (c : Nat) (x : Line) : (s.setLine c x).acqA = s.acqA := by unfold State.setLine; split <;> rfl
@[simp] theorem State.setLine_acqB (c : Nat) (x : Line) : (s.setLine c x).acqB = s.acqB := by unfold State.setLine; split <;> rfl
@[simp] theorem State.setLine_cnv (c : Nat) (x : Line) : (s.setLine c x).cnv = s.cnv := by unfold State.setLine; split <;> rfl
@[simp] theorem State.setLine_tim (c : Nat) (x : Line) : (s.setLine c x).tim = s.tim := by unfold State.setLine; split <;> rfl
@[simp] theorem State.setLine_freeN (c : Nat) (x : Line) : (s.setLine c x).freeN = s.freeN := by unfold State.setLine; split <;> rfl
@[simp] theorem State.setLine_get (c : Nat) (x : Line) (g : Fld) : (s.setLine c x).get g = s.get g := by unfold State.setLine; split <;> rfl

/-! ## setAcq -/

@[simp] theorem State.setAcq_pending (c : Nat) (x : Acq) : (s.setAcq c x).pending = s.pending := by unfold State.setAcq; split <;> rfl
@[simp] theorem State.setAcq_gradeX (c : Nat) (x : Acq) : (s.setAcq c x).gradeX = s.gradeX := by unfold State.setAcq; split <;> rfl
@[simp] theorem State.setAcq_flds (c : Nat) (x : Acq) : (s.setAcq c x).flds = s.flds := by unfold State.setAcq; split <;> rfl
@[simp] theorem State.setAcq_shadow (c : Nat) (x : Acq) : (s.setAcq c x).shadow = s.shadow := by unfold State.setAcq; split <;> rfl
@[simp] theorem State.setAcq_mem (c : Nat) (x : Acq) : (s.setAcq c x).mem = s.mem := by unfold State.setAcq; split <;> rfl
@[simp] theorem State.setAcq_evq (c : Nat) (x : Acq) : (s.setAcq c x).evq = s.evq := by unfold State.setAcq; split <;> rfl
@[simp] theorem State.setAcq_clk (c : Nat) (x : Acq) : (s.setAcq c x).clk = s.clk := by unfold State.setAcq; split <;> rfl
@[simp] theorem State.setAcq_polders (c : Nat) (x : Acq) : (s.setAcq c x).polders = s.polders := by unfold State.setAcq; split <;> rfl
@[simp] theorem State.setAcq_rails (c : Nat) (x : Acq) : (s.setAcq c x).rails = s.rails := by unfold State.setAcq; split <;> rfl
@[simp] theorem State.setAcq_rst (c : Nat) (x : Acq) : (s.setAcq c x).rst = s.rst := by unfold State.setAcq; split <;> rfl
@[simp] theorem State.setAcq_mtp (c : Nat) (x : Acq) : (s.setAcq c x).mtp = s.mtp := by unfold State.setAcq; split <;> rfl
@[simp] theorem State.setAcq_cip (c : Nat) (x : Acq) : (s.setAcq c x).cip = s.cip := by unfold State.setAcq; split <;> rfl
@[simp] theorem State.setAcq_carA (c : Nat) (x : Acq) : (s.setAcq c x).carA = s.carA := by unfold State.setAcq; split <;> rfl
@[simp] theorem State.setAcq_carB (c : Nat) (x : Acq) : (s.setAcq c x).carB = s.carB := by unfold State.setAcq; split <;> rfl
@[simp] theorem State.setAcq_frameClk (c : Nat) (x : Acq) : (s.setAcq c x).frameClk = s.frameClk := by unfold State.setAcq; split <;> rfl
@[simp] theorem State.setAcq_pairProt (c : Nat) (x : Acq) : (s.setAcq c x).pairProt = s.pairProt := by unfold State.setAcq; split <;> rfl
@[simp] theorem State.setAcq_tribs (c : Nat) (x : Acq) : (s.setAcq c x).tribs = s.tribs := by unfold State.setAcq; split <;> rfl
@[simp] theorem State.setAcq_policies (c : Nat) (x : Acq) : (s.setAcq c x).policies = s.policies := by unfold State.setAcq; split <;> rfl
@[simp] theorem State.setAcq_refset (c : Nat) (x : Acq) : (s.setAcq c x).refset = s.refset := by unfold State.setAcq; split <;> rfl
@[simp] theorem State.setAcq_powerDescs (c : Nat) (x : Acq) : (s.setAcq c x).powerDescs = s.powerDescs := by unfold State.setAcq; split <;> rfl
@[simp] theorem State.setAcq_refusals (c : Nat) (x : Acq) : (s.setAcq c x).refusals = s.refusals := by unfold State.setAcq; split <;> rfl
@[simp] theorem State.setAcq_lanes (c : Nat) (x : Acq) : (s.setAcq c x).lanes = s.lanes := by unfold State.setAcq; split <;> rfl
@[simp] theorem State.setAcq_groups (c : Nat) (x : Acq) : (s.setAcq c x).groups = s.groups := by unfold State.setAcq; split <;> rfl
@[simp] theorem State.setAcq_poolA (c : Nat) (x : Acq) : (s.setAcq c x).poolA = s.poolA := by unfold State.setAcq; split <;> rfl
@[simp] theorem State.setAcq_poolB (c : Nat) (x : Acq) : (s.setAcq c x).poolB = s.poolB := by unfold State.setAcq; split <;> rfl
@[simp] theorem State.setAcq_engines (c : Nat) (x : Acq) : (s.setAcq c x).engines = s.engines := by unfold State.setAcq; split <;> rfl
@[simp] theorem State.setAcq_mgt (c : Nat) (x : Acq) : (s.setAcq c x).mgt = s.mgt := by unfold State.setAcq; split <;> rfl
@[simp] theorem State.setAcq_thm (c : Nat) (x : Acq) : (s.setAcq c x).thm = s.thm := by unfold State.setAcq; split <;> rfl
@[simp] theorem State.setAcq_adc (c : Nat) (x : Acq) : (s.setAcq c x).adc = s.adc := by unfold State.setAcq; split <;> rfl
@[simp] theorem State.setAcq_ports (c : Nat) (x : Acq) : (s.setAcq c x).ports = s.ports := by unfold State.setAcq; split <;> rfl
@[simp] theorem State.setAcq_lineA (c : Nat) (x : Acq) : (s.setAcq c x).lineA = s.lineA := by unfold State.setAcq; split <;> rfl
@[simp] theorem State.setAcq_lineB (c : Nat) (x : Acq) : (s.setAcq c x).lineB = s.lineB := by unfold State.setAcq; split <;> rfl
@[simp] theorem State.setAcq_cnv (c : Nat) (x : Acq) : (s.setAcq c x).cnv = s.cnv := by unfold State.setAcq; split <;> rfl
@[simp] theorem State.setAcq_tim (c : Nat) (x : Acq) : (s.setAcq c x).tim = s.tim := by unfold State.setAcq; split <;> rfl
@[simp] theorem State.setAcq_freeN (c : Nat) (x : Acq) : (s.setAcq c x).freeN = s.freeN := by unfold State.setAcq; split <;> rfl
@[simp] theorem State.setAcq_get (c : Nat) (x : Acq) (g : Fld) : (s.setAcq c x).get g = s.get g := by unfold State.setAcq; split <;> rfl

/-! ## Reading back -/

/-- The field just written, reduced to its width. -/
@[simp] theorem State.get_set_same (f : Fld) (v : Nat) : (s.set f v).get f = v % 2 ^ f.width := by
  simp [State.get, State.set]

/-- Another field. -/
theorem State.get_set_ne {f g : Fld} (h : g.key ≠ f.key) (v : Nat) : (s.set f v).get g = s.get g := by
  simp [State.get, State.set, Assoc.get_put_ne _ h]

/-- Another field, after any of the updates that write one field. -/
theorem State.get_setB_ne {f g : Fld} (h : g.key ≠ f.key) (b : Bool) : (s.setB f b).get g = s.get g :=
  State.get_set_ne s h _

theorem State.get_setBit_ne {f g : Fld} (h : g.key ≠ f.key) (i : Nat) : (s.setBit f i).get g = s.get g :=
  State.get_set_ne s h _

theorem State.get_clrBit_ne {f g : Fld} (h : g.key ≠ f.key) (i : Nat) : (s.clrBit f i).get g = s.get g :=
  State.get_set_ne s h _

theorem State.get_bump_ne {f g : Fld} (h : g.key ≠ f.key) (n : Nat) : (s.bump f n).get g = s.get g :=
  State.get_set_ne s h _

/-- The polder, engine, lane, group or source just replaced. -/
@[simp] theorem State.pd_setPd (n : Nat) (p : Polder) : (s.setPd n p).pd n = p := by simp [State.pd, State.setPd]
@[simp] theorem State.eng_setEng (e : Nat) (x : Engine) : (s.setEng e x).eng e = x := by simp [State.eng, State.setEng]
@[simp] theorem State.lane_setLane (n : Nat) (x : Lane) : (s.setLane n x).lane n = x := by simp [State.lane, State.setLane]
@[simp] theorem State.group_setGroup (n : Nat) (x : Group) : (s.setGroup n x).group n = x := by
  simp [State.group, State.setGroup]
@[simp] theorem State.source_setSource (n : Nat) (x : Source) : (s.setSource n x).source n = x := by
  simp [State.source, State.setSource]
@[simp] theorem State.trib_setTrib (d n : Nat) (x : Trib) : (s.setTrib d n x).trib d n = x := by
  simp [State.trib, State.setTrib]
@[simp] theorem State.car_setCar (c : Nat) (x : Carrier) : (s.setCar c x).car c = x := by
  unfold State.car State.setCar; split <;> rfl
@[simp] theorem State.pool_setPool (c : Nat) (x : Pool) : (s.setPool c x).pool c = x := by
  unfold State.pool State.setPool; split <;> rfl
@[simp] theorem State.line_setLine (c : Nat) (x : Line) : (s.setLine c x).line c = x := by
  unfold State.line State.setLine; split <;> rfl
@[simp] theorem State.acq_setAcq (c : Nat) (x : Acq) : (s.setAcq c x).acq c = x := by
  unfold State.acq State.setAcq; split <;> rfl

/-- Another polder, engine, lane, group or source. -/
theorem State.pd_setPd_ne {m n : Nat} (h : m ≠ n) (p : Polder) : (s.setPd n p).pd m = s.pd m := Assoc.get_put_ne _ h _ _
theorem State.eng_setEng_ne {m n : Nat} (h : m ≠ n) (x : Engine) : (s.setEng n x).eng m = s.eng m := Assoc.get_put_ne _ h _ _
theorem State.lane_setLane_ne {m n : Nat} (h : m ≠ n) (x : Lane) : (s.setLane n x).lane m = s.lane m :=
  Assoc.get_put_ne _ h _ _
theorem State.group_setGroup_ne {m n : Nat} (h : m ≠ n) (x : Group) : (s.setGroup n x).group m = s.group m :=
  Assoc.get_put_ne _ h _ _
theorem State.source_setSource_ne {m n : Nat} (h : m ≠ n) (x : Source) : (s.setSource n x).source m = s.source m :=
  Assoc.get_put_ne _ h _ _
theorem State.trib_setTrib_ne {d n e m : Nat} (h : 2 * m + e ≠ 2 * n + d) (x : Trib) :
    (s.setTrib d n x).trib e m = s.trib e m := Assoc.get_put_ne _ h _ _

end Sys2Proof.Machine
end

