-- ==== Sys2Proof/Laws/Ops.lean ====
section
/-! SUPPORT. What each shared operation over registers, engines and events can do: the parts of the state that it leaves and the
fields that it may write. Each fact stands in a form that extends what is known of the state before it. -/

namespace Sys2Proof.Machine

open Reg

/-! ## The relations -/

/-- A part is the same as itself. -/
theorem Part.same_refl (p : Part) (s : State) : p.same s s := by cases p <;> rfl

/-- A part that is the same twice over is the same. -/
theorem Part.same_trans {p : Part} {s t u : State} (h : p.same s t) (k : p.same t u) : p.same s u := by
  cases p <;> exact Eq.trans k h

theorem Keeps.refl (l : List Part) (s : State) : Keeps l s s := fun p _ => p.same_refl s

theorem Keeps.trans {l : List Part} {s t u : State} (h : Keeps l s t) (k : Keeps l t u) : Keeps l s u :=
  fun p hp => Part.same_trans (h p hp) (k p hp)

/-- What leaves more leaves less. -/
theorem Keeps.mono {l m : List Part} {s t : State} (h : Keeps l s t) (k : ∀ p ∈ l, p ∈ m) : Keeps m s t :=
  fun p hp => h p (fun hl => hp (k p hl))

/-- A fold of updates that each leave some parts leaves them. -/
theorem Keeps.foldl {α : Type} {l : List Part} {s t : State} (h : Keeps l s t) {g : State → α → State}
    (hg : ∀ u a, Keeps l u (g u a)) (as : List α) : Keeps l s (as.foldl g t) := by
  induction as generalizing t with
  | nil => exact h
  | cons a r ih => exact ih (h.trans (hg _ a))

theorem KeepsFlds.refl (o : Nat → Bool) (s : State) : KeepsFlds o s s := fun _ _ => rfl

theorem KeepsFlds.trans {o : Nat → Bool} {s t u : State} (h : KeepsFlds o s t) (k : KeepsFlds o t u) : KeepsFlds o s u :=
  fun f hf => (k f hf).trans (h f hf)

/-- What leaves more fields leaves fewer. -/
theorem KeepsFlds.mono {o q : Nat → Bool} {s t : State} (h : KeepsFlds o s t) (k : ∀ n, o n = true → q n = true) :
    KeepsFlds q s t := fun f hf => h f (by
  cases ho : o f.key with
  | false => rfl
  | true => rw [k _ ho] at hf; exact Bool.noConfusion hf)

theorem KeepsFlds.foldl {α : Type} {o : Nat → Bool} {s t : State} (h : KeepsFlds o s t) {g : State → α → State} (as : List α)
    (hg : ∀ u a, a ∈ as → KeepsFlds o u (g u a)) : KeepsFlds o s (as.foldl g t) := by
  induction as generalizing t with
  | nil => exact h
  | cons a r ih => exact ih (h.trans (hg _ a List.mem_cons_self)) (fun u b hb => hg u b (List.mem_cons_of_mem _ hb))

/-- Either of two updates. -/
theorem Keeps.ite {l : List Part} {s t u : State} {c : Prop} [Decidable c] (h : Keeps l s t) (k : Keeps l s u) :
    Keeps l s (if c then t else u) := by split <;> assumption

theorem KeepsFlds.ite {o : Nat → Bool} {s t u : State} {c : Prop} [Decidable c] (h : KeepsFlds o s t) (k : KeepsFlds o s u) :
    KeepsFlds o s (if c then t else u) := by split <;> assumption

/-- An update that leaves `flds` leaves every field. -/
theorem KeepsFlds.of_keeps {o : Nat → Bool} {l : List Part} {s t u : State} (h : KeepsFlds o s t) (k : Keeps l t u)
    (hl : Part.flds ∉ l) : KeepsFlds o s u :=
  h.trans (fun f _ => by simp only [State.get, show u.flds = t.flds from k .flds hl])

/-! ## Writing one field -/

/-- Writing a field changes the fields only. -/
theorem Keeps.set {l : List Part} {s t : State} (h : Keeps l s t) (hl : Part.flds ∈ l) (f : Fld) (v : Nat) :
    Keeps l s (t.set f v) :=
  h.trans (fun p hp => by cases p <;> first | rfl | exact absurd hl hp)

/-- Writing a field leaves the others. -/
theorem KeepsFlds.set {o : Nat → Bool} {s t : State} (h : KeepsFlds o s t) {f : Fld} (hf : o f.key = true) (v : Nat) :
    KeepsFlds o s (t.set f v) :=
  h.trans (fun g hg => State.get_set_ne t (fun e => by rw [e, hf] at hg; exact Bool.noConfusion hg) v)

/-! ## Performance counters (R556 to R560) -/

/-- Adding to a counter changes fields only. -/
theorem State.keeps_pmcAdd (s : State) (k n : Nat) : Keeps [.flds] s (s.pmcAdd k n) := by
  unfold State.pmcAdd
  dsimp only
  split
  · exact ((Keeps.refl _ s).set (by simp) _ _).set (by simp) _ _
  · split <;> exact (((Keeps.refl _ s).set (by simp) _ _).set (by simp) _ _).set (by simp) _ _

/-- Adding to a counter leaves the fields outside the performance counters. -/
theorem State.keepsFlds_pmcAdd (s : State) (k n : Nat) (hk : k < 64) : KeepsFlds ofPmc s (s.pmcAdd k n) := by
  have h1 : ofPmc (PMC_CNTLO_COUNT k).key = true := by simp [ofPmc, Fld.key, PMC_CNTLO_COUNT, adr_PMC_CNTLO]; omega
  have h2 : ofPmc (PMC_CNTHI_COUNT k).key = true := by simp [ofPmc, Fld.key, PMC_CNTHI_COUNT, adr_PMC_CNTHI]; omega
  unfold State.pmcAdd
  dsimp only
  split
  · exact ((KeepsFlds.refl _ s).set h1 _).set h2 _
  · split
    · exact (((KeepsFlds.refl _ s).set h1 _).set h2 _).set (by decide) _
    · exact (((KeepsFlds.refl _ s).set h1 _).set h2 _).set (by decide) _

/-- A signal changes fields only. -/
theorem Keeps.pmc {l : List Part} {s t : State} (h : Keeps l s t) (hl : Part.flds ∈ l) (a b n : Nat) :
    Keeps l s (t.pmc a b n) := by
  unfold State.pmc
  split
  · exact h
  · exact h.foldl (fun u k => (u.keeps_pmcAdd k n).mono (by simpa using hl)) _

/-- A signal leaves the fields outside the performance counters. -/
theorem KeepsFlds.pmc {o : Nat → Bool} {s t : State} (h : KeepsFlds o s t) (ho : ∀ k, ofPmc k = true → o k = true) (a b n : Nat) :
    KeepsFlds o s (t.pmc a b n) := by
  unfold State.pmc
  split
  · exact h
  · exact h.foldl _ (fun u k hk =>
      (u.keepsFlds_pmcAdd k n (List.mem_range.mp (List.mem_filter.mp hk).1)).mono ho)

/-! ## Replacing a part -/

theorem Keeps.setEng {l : List Part} {s t : State} (h : Keeps l s t) (hl : Part.engines ∈ l) (e : Nat) (x : Engine) :
    Keeps l s (t.setEng e x) := h.trans (fun p hp => by cases p <;> first | rfl | exact absurd hl hp)
theorem Keeps.setSource {l : List Part} {s t : State} (h : Keeps l s t) (hl : Part.evq ∈ l) (n : Nat) (x : Source) :
    Keeps l s (t.setSource n x) := h.trans (fun p hp => by cases p <;> first | rfl | exact absurd hl hp)
theorem Keeps.setPd {l : List Part} {s t : State} (h : Keeps l s t) (hl : Part.polders ∈ l) (n : Nat) (x : Polder) :
    Keeps l s (t.setPd n x) := h.trans (fun p hp => by cases p <;> first | rfl | exact absurd hl hp)
theorem Keeps.setTrib {l : List Part} {s t : State} (h : Keeps l s t) (hl : Part.tribs ∈ l) (d n : Nat) (x : Trib) :
    Keeps l s (t.setTrib d n x) := h.trans (fun p hp => by cases p <;> first | rfl | exact absurd hl hp)
theorem Keeps.setLane {l : List Part} {s t : State} (h : Keeps l s t) (hl : Part.lanes ∈ l) (n : Nat) (x : Lane) :
    Keeps l s (t.setLane n x) := h.trans (fun p hp => by cases p <;> first | rfl | exact absurd hl hp)
theorem Keeps.setGroup {l : List Part} {s t : State} (h : Keeps l s t) (hl : Part.groups ∈ l) (n : Nat) (x : Group) :
    Keeps l s (t.setGroup n x) := h.trans (fun p hp => by cases p <;> first | rfl | exact absurd hl hp)
theorem Keeps.setMem {l : List Part} {s t : State} (h : Keeps l s t) (hl : Part.mem ∈ l) (m : Mem) :
    Keeps l s (t.setMem m) := h.trans (fun p hp => by cases p <;> first | rfl | exact absurd hl hp)
theorem Keeps.setCar {l : List Part} {s t : State} (h : Keeps l s t) (ha : Part.carA ∈ l) (hb : Part.carB ∈ l) (c : Nat)
    (x : Carrier) : Keeps l s (t.setCar c x) := h.trans (fun p hp => by
  unfold State.setCar
  split <;> cases p <;> first | rfl | exact absurd ha hp | exact absurd hb hp)
theorem Keeps.setPool {l : List Part} {s t : State} (h : Keeps l s t) (ha : Part.poolA ∈ l) (hb : Part.poolB ∈ l) (c : Nat)
    (x : Pool) : Keeps l s (t.setPool c x) := h.trans (fun p hp => by
  unfold State.setPool
  split <;> cases p <;> first | rfl | exact absurd ha hp | exact absurd hb hp)
theorem Keeps.setLine {l : List Part} {s t : State} (h : Keeps l s t) (ha : Part.lineA ∈ l) (hb : Part.lineB ∈ l) (c : Nat)
    (x : Line) : Keeps l s (t.setLine c x) := h.trans (fun p hp => by
  unfold State.setLine
  split <;> cases p <;> first | rfl | exact absurd ha hp | exact absurd hb hp)
theorem Keeps.setAcq {l : List Part} {s t : State} (h : Keeps l s t) (ha : Part.acqA ∈ l) (hb : Part.acqB ∈ l) (c : Nat)
    (x : Acq) : Keeps l s (t.setAcq c x) := h.trans (fun p hp => by
  unfold State.setAcq
  split <;> cases p <;> first | rfl | exact absurd ha hp | exact absurd hb hp)

/-! ## Engines (R86, R87) -/

/-- Retiring changes fields and engines only. -/
theorem Keeps.retireEng {l : List Part} {s t : State} (h : Keeps l s t) (hf : Part.flds ∈ l) (he : Part.engines ∈ l) (e : Nat) :
    Keeps l s (t.retireEng e) := by
  have key (x : Engine) (k : Nat) (c : State → Bool) : Keeps l s
      (if c ((t.setEng e x).pmc 0x20 e k) then ((t.setEng e x).pmc 0x20 e k).set (SLU_ENG_STATUS_STATE e) 4
        else (t.setEng e x).pmc 0x20 e k) := by
    split
    · exact ((h.setEng he e x).pmc hf _ _ _).set hf _ _
    · exact (h.setEng he e x).pmc hf _ _ _
  unfold State.retireEng
  dsimp only
  exact key _ _ (fun u => _ && u.get (SLU_ENG_STATUS_STATE e) == 2)

/-- Retiring leaves the fields outside the performance counters, but for the engine's state. -/
theorem KeepsFlds.retireEng {o : Nat → Bool} {s t : State} (h : KeepsFlds o s t) (ho : ∀ k, ofPmc k = true → o k = true)
    {e : Nat} (he : o (SLU_ENG_STATUS_STATE e).key = true) : KeepsFlds o s (t.retireEng e) := by
  have key (x : Engine) (k : Nat) (c : State → Bool) : KeepsFlds o s
      (if c ((t.setEng e x).pmc 0x20 e k) then ((t.setEng e x).pmc 0x20 e k).set (SLU_ENG_STATUS_STATE e) 4
        else (t.setEng e x).pmc 0x20 e k) := by
    have h' := (h.of_keeps ((Keeps.refl [.engines] t).setEng (by simp) e x) (by simp)).pmc ho 0x20 e k
    split
    · exact h'.set he _
    · exact h'
  unfold State.retireEng
  dsimp only
  exact key _ _ (fun u => _ && u.get (SLU_ENG_STATUS_STATE e) == 2)

/-- The end of a wait changes fields and engines only. -/
theorem Keeps.finishWait {l : List Part} {s t : State} (h : Keeps l s t) (hf : Part.flds ∈ l) (he : Part.engines ∈ l) (w : Wait)
    (res : Nat) : Keeps l s (t.finishWait w res) := by
  unfold State.finishWait
  refine h.foldl (fun u e => ?_) _
  split
  · exact ((Keeps.refl l u).setEng he _ _).retireEng hf he _
  · exact .refl _ _

/-- The end of a wait leaves the fields that posting leaves. -/
theorem KeepsFlds.finishWait {o : Nat → Bool} {s t : State} (h : KeepsFlds o s t) (ho : ∀ k, ofEvents k = true → o k = true)
    (w : Wait) (res : Nat) : KeepsFlds o s (t.finishWait w res) := by
  unfold State.finishWait
  refine h.foldl _ (fun u e he => ?_)
  split
  · refine ((KeepsFlds.refl o u).of_keeps ((Keeps.refl [.engines] u).setEng (by simp) _ _) (by simp)).retireEng
      (fun k hk => ho k (by simp [ofEvents, hk])) (ho _ ?_)
    simp only [List.mem_cons, List.not_mem_nil, or_false] at he
    obtain rfl | rfl | rfl | rfl := he <;> decide
  · exact .refl _ _

/-! ## Events (R536 to R539) -/

/-- Discarding an event. -/
theorem Keeps.dropEvent {l : List Part} {s t : State} (h : Keeps l s t) (hf : Part.flds ∈ l) (hq : Part.evq ∈ l) (src : Nat)
    (x : Source) : Keeps l s (t.dropEvent src x) :=
  (((h.setSource hq src _).set hf _ _).set hf _ _).pmc hf _ _ _

theorem KeepsFlds.dropEvent {o : Nat → Bool} {s t : State} (h : KeepsFlds o s t) (ho : ∀ k, ofEvents k = true → o k = true)
    (src : Nat) (x : Source) : KeepsFlds o s (t.dropEvent src x) :=
  (((h.of_keeps ((Keeps.refl [.evq] t).setSource (by simp) src _) (by simp)).set (ho _ (by decide)) _).set
    (ho _ (by decide)) _).pmc (fun k hk => ho k (by simp [ofEvents, hk])) _ _ _

/-- Writing an event to the queue. -/
theorem Keeps.writeEvent {l : List Part} {s t : State} (h : Keeps l s t) (hf : Part.flds ∈ l) (hq : Part.evq ∈ l)
    (src time code step seq hd : Nat) (lost : Bool) (it : List Nat) : Keeps l s (t.writeEvent src time code step seq hd lost it) := by
  unfold State.writeEvent
  dsimp only
  split
  · exact h.trans (fun p hp => by cases p <;> first | rfl | exact absurd hq hp)
  · exact h.dropEvent hf hq _ _

theorem KeepsFlds.writeEvent {o : Nat → Bool} {s t : State} (h : KeepsFlds o s t) (ho : ∀ k, ofEvents k = true → o k = true)
    (src time code step seq hd : Nat) (lost : Bool) (it : List Nat) : KeepsFlds o s (t.writeEvent src time code step seq hd lost it) := by
  unfold State.writeEvent
  dsimp only
  split
  · exact h.trans (fun f _ => rfl)
  · exact h.dropEvent ho _ _

/-- Producing an event. -/
theorem Keeps.produce {l : List Part} {s t : State} (h : Keeps l s t) (hf : Part.flds ∈ l) (hq : Part.evq ∈ l)
    (src code hd : Nat) (it : List Nat) : Keeps l s (t.produce src code hd it) := by
  unfold State.produce
  dsimp only
  split
  · exact (h.setSource hq _ _).writeEvent hf hq _ _ _ _ _ _ _ _
  · split
    · exact h.setSource hq _ _
    · exact h.dropEvent hf hq _ _

theorem KeepsFlds.produce {o : Nat → Bool} {s t : State} (h : KeepsFlds o s t) (ho : ∀ k, ofEvents k = true → o k = true)
    (src code hd : Nat) (it : List Nat) : KeepsFlds o s (t.produce src code hd it) := by
  have hs (x : Source) : KeepsFlds o s (t.setSource src x) :=
    h.of_keeps ((Keeps.refl [.evq] t).setSource (by simp) src x) (by simp)
  unfold State.produce
  dsimp only
  split
  · exact (hs _).writeEvent ho _ _ _ _ _ _ _ _
  · split
    · exact hs _
    · exact h.dropEvent ho _ _

/-- Posting an event changes the fields, the queue and the engines only. -/
theorem Keeps.post {l : List Part} {s t : State} (h : Keeps l s t) (hf : Part.flds ∈ l) (hq : Part.evq ∈ l)
    (he : Part.engines ∈ l) (src code hd : Nat) (it : List Nat) : Keeps l s (t.post src code hd it) := by
  unfold State.post
  exact (h.produce hf hq _ _ _ _).finishWait hf he _ _

/-- The fields that posting an event may write. -/
theorem KeepsFlds.post {o : Nat → Bool} {s t : State} (h : KeepsFlds o s t) (ho : ∀ k, ofEvents k = true → o k = true)
    (src code hd : Nat) (it : List Nat) : KeepsFlds o s (t.post src code hd it) := by
  unfold State.post
  exact (h.produce ho _ _ _ _).finishWait ho _ _

/-- The record that posting an event puts into the queue. -/
theorem State.posted_post (s : State) (src code h : Nat) (l : List Nat) : Posted s (s.post src code h l) src code h l := by
  intro hm hr
  have e : (s.post src code h l).evq = (s.produce src code h (s.itemsOf h l)).evq :=
    ((Keeps.refl [.flds, .engines] _).finishWait (by simp) (by simp) _ _) .evq (by simp)
  rw [e]
  unfold State.produce
  simp only [hm, ↓reduceIte]
  unfold State.writeEvent
  rw [if_pos (by simpa [State.setSource] using hr)]
  simp [State.setSource, State.source]

end Sys2Proof.Machine
end

