-- ==== Sys2Proof/Laws/Engine.lean ====
section
/-! SUPPORT. Instructions of an engine: what a start that meets no fault does, what retiring and completing leave of an engine. -/

namespace Sys2Proof.Machine

open Reg

/-- What leaves the engines leaves each of them. -/
theorem Keeps.eng {l : List Part} {s t : State} (h : Keeps l s t) (hl : Part.engines ∉ l) (e : Nat) : t.eng e = s.eng e := by
  simp only [State.eng, show t.engines = s.engines from h .engines hl]

/-- Reading a register after a write. -/
theorem Engine.reg_setReg (x : Engine) (r v q : Nat) :
    (x.setReg r v).reg q = if q = r ∧ q ≠ 0 then v % 2 ^ 64 else x.reg q := by
  unfold Engine.setReg Engine.reg
  by_cases hq : q = 0
  · simp [hq]
  · by_cases hr : r = 0
    · simp [hr, hq]
    · by_cases h : q = r
      · subst h; simp [hq]
      · simp [hr, hq, h, Assoc.get_put_ne _ h]

/-- Retiring leaves an engine but for what is in flight and what is noted as done. -/
theorem State.retireEng_eng (s : State) (e : Nat) :
    ∃ es done, (s.retireEng e).eng e = { s.eng e with entries := es, doneMask := done } := by
  have key (x : Engine) (k : Nat) (c : State → Bool) :
      (if c ((s.setEng e x).pmc 0x20 e k) then ((s.setEng e x).pmc 0x20 e k).set (SLU_ENG_STATUS_STATE e) 4
        else (s.setEng e x).pmc 0x20 e k).eng e = x := by
    have h : ((s.setEng e x).pmc 0x20 e k).eng e = x := by
      rw [((Keeps.refl [.flds] _).pmc (by simp) _ _ _).eng (by simp), State.eng_setEng]
    split
    · rw [((Keeps.refl [.flds] _).set (by simp) _ _).eng (by simp), h]
    · exact h
  unfold State.retireEng
  dsimp only
  exact ⟨_, _, key _ _ (fun u => _ && u.get (SLU_ENG_STATUS_STATE e) == 2)⟩

/-- Retiring leaves the other engines. -/
theorem State.retireEng_eng_ne (s : State) {e k : Nat} (h : k ≠ e) : (s.retireEng e).eng k = s.eng k := by
  have key (x : Engine) (n : Nat) (c : State → Bool) :
      (if c ((s.setEng e x).pmc 0x20 e n) then ((s.setEng e x).pmc 0x20 e n).set (SLU_ENG_STATUS_STATE e) 4
        else (s.setEng e x).pmc 0x20 e n).eng k = s.eng k := by
    have h : ((s.setEng e x).pmc 0x20 e n).eng k = s.eng k := by
      rw [((Keeps.refl [.flds] _).pmc (by simp) _ _ _).eng (by simp), State.eng_setEng_ne _ h]
    split
    · rw [((Keeps.refl [.flds] _).set (by simp) _ _).eng (by simp), h]
    · exact h
  unfold State.retireEng
  dsimp only
  exact key _ _ (fun u => _ && u.get (SLU_ENG_STATUS_STATE e) == 2)

/-- Settling a fence leaves its word. -/
theorem settleFences_word (faults : List FaultNote) : ∀ (before l : List Entry) {x : Entry}, x ∈ settleFences faults before l →
    ∃ y ∈ l, x.word = y.word := by
  intro before l
  induction l generalizing before with
  | nil => intro x h; cases h
  | cons a t ih =>
    intro x h
    rcases List.mem_cons.mp h with h | h
    · refine ⟨a, List.mem_cons_self, ?_⟩
      subst h
      split <;> rfl
    · obtain ⟨y, hy, e⟩ := ih _ h
      exact ⟨y, List.mem_cons_of_mem _ hy, e⟩

/-- The state of a running engine whose oldest instruction is no HALT stays. -/
theorem State.retireEng_state (s : State) (e : Nat) (h : ∀ en ∈ (s.eng e).entries, opOf en.word ≠ 0x01) (f : Fld)
    (hf : ofPmc f.key = false) : (s.retireEng e).get f = s.get f := by
  have pd (b : List FaultNote) : ∀ (l : List Entry) (d : List Nat) (k : Nat) (x : Entry), x ∈ (popDone b l d k).1 → x ∈ l := by
    intro l
    induction l with
    | nil => intro d k x hx; simp [popDone] at hx
    | cons a t ih =>
      intro d k x hx
      unfold popDone at hx
      split at hx
      · exact List.mem_cons_of_mem _ (ih _ _ _ hx)
      · exact hx
  have key (x : Engine) (n : Nat) (g : State → State) : ((s.setEng e x).pmc 0x20 e n).get f = s.get f :=
    ((KeepsFlds.refl ofPmc s).of_keeps ((Keeps.refl [.engines] s).setEng (by simp) e x) (by simp)).pmc (fun _ h => h) 0x20 e n f hf
  unfold State.retireEng
  dsimp only
  split
  · rename_i y ys hy
    obtain ⟨z, hz, ez⟩ := settleFences_word _ _ _ (pd _ _ _ _ y (by rw [hy]; exact List.mem_cons_self))
    have : opOf y.word ≠ 0x01 := by rw [ez]; exact h z hz
    simp [this, key _ _ id]
  · simp [key _ _ id]

/-- A start that meets no fault puts the word in flight (R85). -/
theorem Starts.startNext {s : State} {e op : Nat} (h : Starts s e op) :
    s.startNext e = (.started (s.eng e).next, s.pushEntry e ((s.eng e).entryOf (s.eng e).next (s.nextWord e)
      (if copiesWords op then s.argWords (s.nextWord e) else []))) := by
  obtain ⟨h1, h2, h3, h4, h5, -⟩ := h
  unfold State.startNext
  have hw : s.wordData ((s.eng e).codeAddr (s.eng e).next) = s.nextWord e := rfl
  rw [if_pos h1]
  simp only [hw, h2, h5, Nat.not_le.mpr h3, h4, decide_false, Bool.false_eq_true, if_false]

/-- The entry put in flight. -/
theorem State.pushEntry_eng (s : State) (e : Nat) (en : Entry) :
    (s.pushEntry e en).eng e = { s.eng e with entries := (s.eng e).entries ++ [en], pc := en.pc + 1
                                              skipWords := (s.eng e).skipLeft.filter (fun q => decide (en.pc < q)) } := by
  unfold State.pushEntry
  dsimp only
  split
  · rw [((Keeps.refl [.flds] _).pmc (by simp) _ _ _).eng (by simp), State.eng_setEng]
  · exact State.eng_setEng _ _ _

theorem State.pushEntry_eng_ne (s : State) {e k : Nat} (h : k ≠ e) (en : Entry) : (s.pushEntry e en).eng k = s.eng k := by
  unfold State.pushEntry
  dsimp only
  split
  · rw [((Keeps.refl [.flds] _).pmc (by simp) _ _ _).eng (by simp), State.eng_setEng_ne _ h]
  · exact State.eng_setEng_ne _ h _

theorem Keeps.pushEntry {l : List Part} {s t : State} (h : Keeps l s t) (hf : Part.flds ∈ l) (he : Part.engines ∈ l) (e : Nat)
    (en : Entry) : Keeps l s (t.pushEntry e en) := by
  unfold State.pushEntry
  dsimp only
  split
  · exact (h.setEng he _ _).pmc hf _ _ _
  · exact h.setEng he _ _

theorem KeepsFlds.pushEntry {o : Nat → Bool} {s t : State} (h : KeepsFlds o s t) (ho : ∀ k, ofPmc k = true → o k = true) (e : Nat)
    (en : Entry) : KeepsFlds o s (t.pushEntry e en) := by
  have hs (x : Engine) : KeepsFlds o s (t.setEng e x) := h.of_keeps ((Keeps.refl [.engines] t).setEng (by simp) e x) (by simp)
  unfold State.pushEntry
  dsimp only
  split
  · exact (hs _).pmc ho _ _ _
  · exact hs _

/-- The entry just put in flight is found at its place, if no other stands there. -/
theorem State.pushEntry_find (s : State) (e : Nat) (en : Entry) (h : ∀ x ∈ (s.eng e).entries, x.pc ≠ en.pc) :
    ((s.pushEntry e en).eng e).entries.find? (fun x => x.pc == en.pc) = some en := by
  rw [State.pushEntry_eng]
  simp only
  rw [List.find?_append, List.find?_eq_none.mpr (by simpa using h)]
  simp

/-- A data or control instruction that starts without a fault has its effect on the state with its entry in flight. -/
theorem Starts.runNext {s : State} {e op : Nat} (h : Starts s e op) (f : State → Entry → State) :
    s.runNext op e f = f (s.pushEntry e ((s.eng e).entryOf (s.eng e).next (s.nextWord e)
      (if copiesWords op then s.argWords (s.nextWord e) else [])))
      ((s.eng e).entryOf (s.eng e).next (s.nextWord e) (if copiesWords op then s.argWords (s.nextWord e) else [])) := by
  unfold State.runNext
  rw [if_neg (by simpa using h.2.1), h.startNext]
  dsimp only
  have := State.pushEntry_find s e ((s.eng e).entryOf (s.eng e).next (s.nextWord e)
    (if copiesWords op then s.argWords (s.nextWord e) else [])) h.2.2.2.2.2
  dsimp only [Engine.entryOf] at this ⊢
  rw [this]

/-- The first entry at a place or with a HALT's word, if it is no HALT, is the first at the place. -/
theorem find_place {l : List Entry} {p : Nat} {en : Entry}
    (h : l.find? (fun x => x.pc == p || opOf x.word == 0x01) = some en) (ho : opOf en.word ≠ 0x01) :
    l.find? (fun x => x.pc == p) = some en := by
  induction l with
  | nil => simp at h
  | cons x xs ih =>
    rw [List.find?_cons] at h ⊢
    by_cases hp : x.pc = p
    · simpa [hp] using h
    · by_cases hx : opOf x.word = 0x01
      · simp only [hx, beq_self_eq_true, Bool.or_true] at h
        cases h
        exact absurd hx ho
      · have e : (x.pc == p) = false := by simpa using hp
        have e' : (opOf x.word == 0x01) = false := by simpa using hx
        simp only [e, e', Bool.or_false] at h ⊢
        exact ih h

/-- An object instruction whose effect is taken now acts on the state with its entry in flight, and settles what it came to. -/
theorem Takes.runObject {s u : State} {op e p : Nat} {en : Entry} (h : Takes s op e p en u) (ho : op ≠ 0x01)
    (f : State → Entry → Nat → Res × State) :
    s.runObject op e p f = ((f u en (namedHandle en.word en.a)).2).settle e p en.word (namedHandle en.word en.a)
      (f u en (namedHandle en.word en.a)).1 := by
  unfold State.runObject
  rcases h with ⟨-, -, ⟨h1, h2, h3, -, -, rfl⟩ | ⟨h1, h2, h3, h4⟩⟩
  · simp [find_place h1 (h2 ▸ ho), h2, h3]
  · have hn : (s.eng e).entries.find? (fun x => x.pc == p) = none :=
      List.find?_eq_none.mpr (by rw [← h2]; simpa using h1.2.2.2.2.2)
    have hw : s.wordData ((s.eng e).codeAddr p) = s.nextWord e := by rw [← h2]; rfl
    have ht : s.startTo e p 64 = (true, u) := by
      unfold State.startTo
      have hs := h1.startNext
      rw [h2] at hs
      simp only [h2, Nat.lt_irrefl, if_false, ne_eq, not_true_eq_false, false_and]
      rw [hs, h3, h4]
      simp
    have he : (u.eng e).entries.find? (fun x => x.pc == p) = some en := by
      have hp : en.pc = p := by rw [h4]; rfl
      rw [h3, ← hp]
      exact State.pushEntry_find s e en (by rw [hp, ← h2]; exact h1.2.2.2.2.2)
    simp only [hn, hw, h1.2.1, ht, he, ne_eq, not_true_eq_false, if_false]

/-- The entry whose effect is taken is in flight at its place. -/
theorem Takes.find {s u : State} {op e p : Nat} {en : Entry} (h : Takes s op e p en u) (ho : op ≠ 0x01) :
    (u.eng e).entries.find? (fun x => x.pc == p) = some en := by
  rcases h with ⟨-, -, ⟨h1, h2, -, -, -, rfl⟩ | ⟨h1, h2, h3, h4⟩⟩
  · exact find_place h1 (h2 ▸ ho)
  · have hp : en.pc = p := by rw [h4]; rfl
    rw [h3, ← hp]
    exact State.pushEntry_find s e en (by rw [hp, ← h2]; exact h1.2.2.2.2.2)

/-- Its word has the opcode. -/
theorem Takes.op {s u : State} {op e p : Nat} {en : Entry} (h : Takes s op e p en u) : opOf en.word = op := by
  rcases h with ⟨-, -, ⟨-, h2, -⟩ | ⟨h1, h2, h3, h4⟩⟩
  · exact h2
  · rw [h4]; exact h1.2.1

/-- Completing changes fields and engines only. -/
theorem Keeps.complete {l : List Part} {s t : State} (h : Keeps l s t) (hf : Part.flds ∈ l) (he : Part.engines ∈ l)
    (e pc v : Nat) : Keeps l s (t.complete e pc v) := by
  unfold State.complete
  dsimp only
  split
  · exact h
  · exact (h.setEng he _ _).retireEng hf he _

theorem State.complete_eng_ne (s : State) {e k : Nat} (h : k ≠ e) (pc v : Nat) : (s.complete e pc v).eng k = s.eng k := by
  unfold State.complete
  dsimp only
  split
  · rfl
  · rw [State.retireEng_eng_ne _ h, State.eng_setEng_ne _ h]

/-- The engine after an instruction completes: its result in w[D], its place and image as before. -/
theorem State.complete_eng (s : State) (e pc v : Nat) {en : Entry}
    (h : (s.eng e).entries.find? (fun x => x.pc == pc) = some en) :
    ∃ es done, (s.complete e pc v).eng e =
      { (if writesD (opOf en.word) then (s.eng e).setReg (dOf en.word) v else s.eng e) with entries := es, doneMask := done } := by
  unfold State.complete
  simp only [h]
  obtain ⟨es, done, he⟩ := State.retireEng_eng (s.setEng e ((if writesD (opOf en.word) then (s.eng e).setReg (dOf en.word) v else
    s.eng e).mapEntry pc (fun en => { en with taken := true, accepted := true, completed := true, waits := [] }))) e
  refine ⟨es, done, ?_⟩
  rw [he, State.eng_setEng]
  rfl

/-- Completing leaves the fields outside the performance counters, but for the engine's state. -/
theorem KeepsFlds.complete {o : Nat → Bool} {s t : State} (h : KeepsFlds o s t) (ho : ∀ k, ofPmc k = true → o k = true)
    {e : Nat} (he : o (SLU_ENG_STATUS_STATE e).key = true) (pc v : Nat) : KeepsFlds o s (t.complete e pc v) := by
  unfold State.complete
  dsimp only
  split
  · exact h
  · exact (h.of_keeps ((Keeps.refl [.engines] t).setEng (by simp) _ _) (by simp)).retireEng ho he

/-- The working registers after an instruction that writes w[D] completes. -/
theorem State.complete_writes (s : State) (e pc v : Nat) {en : Entry}
    (h : (s.eng e).entries.find? (fun x => x.pc == pc) = some en) (hd : writesD (opOf en.word) = true) :
    Writes s (s.complete e pc v) e (dOf en.word) (v % 2 ^ 64) := by
  obtain ⟨es, done, he⟩ := s.complete_eng e pc v h
  intro q
  rw [he, if_pos hd]
  exact Engine.reg_setReg (s.eng e) (dOf en.word) v q

/-- The working registers after an instruction that writes none completes. -/
theorem State.complete_reg (s : State) (e pc v : Nat) {en : Entry}
    (h : (s.eng e).entries.find? (fun x => x.pc == pc) = some en) (hd : writesD (opOf en.word) = false) (q : Nat) :
    ((s.complete e pc v).eng e).reg q = (s.eng e).reg q := by
  obtain ⟨es, done, he⟩ := s.complete_eng e pc v h
  rw [he, if_neg (by simp [hd])]
  rfl

/-- Completing leaves the place and the image of the engine. -/
theorem State.complete_pc (s : State) (e pc v : Nat) {en : Entry}
    (h : (s.eng e).entries.find? (fun x => x.pc == pc) = some en) :
    ((s.complete e pc v).eng e).pc = (s.eng e).pc ∧ ((s.complete e pc v).eng e).bank = (s.eng e).bank := by
  obtain ⟨es, done, he⟩ := s.complete_eng e pc v h
  rw [he]
  split
  · unfold Engine.setReg; split <;> exact ⟨rfl, rfl⟩
  · exact ⟨rfl, rfl⟩

/-- Completing leaves the fields outside the performance counters, where no HALT is in flight. -/
theorem State.complete_get (s : State) (e pc v : Nat) (h : ∀ en ∈ (s.eng e).entries, opOf en.word ≠ 0x01) :
    KeepsFlds ofPmc s (s.complete e pc v) := by
  unfold State.complete
  dsimp only
  split
  · exact .refl _ _
  · rename_i en hen
    intro f hf
    rw [State.retireEng_state _ _ _ f hf]
    · rfl
    · rw [State.eng_setEng]
      intro x hx
      have : x ∈ ((if writesD (opOf en.word) = true then (s.eng e).setReg (dOf en.word) v else s.eng e).mapEntry pc
          (fun en => { en with taken := true, accepted := true, completed := true, waits := [] })).entries := hx
      simp only [Engine.mapEntry, List.mem_map] at this
      obtain ⟨y, hy, rfl⟩ := this
      have hy' : y ∈ (s.eng e).entries := by
        split at hy
        · unfold Engine.setReg at hy; split at hy <;> exact hy
        · exact hy
      split
      · exact h y hy'
      · exact h y hy'

end Sys2Proof.Machine
end

