-- ==== Sys2Proof/Laws/Memory.lean ====
section
/-! SUPPORT. The bytes of the banks: a read after a write, and that every operation keeps the canonical form. -/

namespace Sys2Proof.Machine.Memory

/-- The byte just written is read. -/
@[simp] theorem read_write_same (m : List Host.Cell) (a : Nat) (v : Byte) : read (write m a v) a = v := by
  unfold read write
  split
  · rename_i h; simp [h]
  · simp

/-- A write leaves every other byte. -/
theorem read_write_ne (m : List Host.Cell) {a b : Nat} (h : b ≠ a) (v : Byte) : read (write m a v) b = read m b := by
  unfold read write
  split
  · exact Assoc.get_drop_ne _ h m
  · exact Assoc.get_put_ne _ h v m

/-- The canonical form, spelled out. -/
theorem wf_iff (m : List Host.Cell) : wf m = true ↔ Assoc.rising m = true ∧ ∀ c ∈ m, c.2 ≠ blank := by
  simp [wf]

/-- A write keeps the canonical form. -/
theorem wf_write {m : List Host.Cell} (h : wf m = true) (a : Nat) (v : Byte) : wf (write m a v) = true := by
  rw [wf_iff] at h ⊢
  unfold write
  split
  · exact ⟨Assoc.rising_drop a h.1, fun c hc => h.2 c (Assoc.mem_of_mem_drop hc)⟩
  · rename_i hv
    refine ⟨Assoc.rising_put a v h.1, fun c hc => ?_⟩
    rcases Assoc.mem_put hc with rfl | hc
    · exact hv
    · exact h.2 c hc

/-- Dropping entries keeps the canonical form. -/
theorem wf_filter {m : List Host.Cell} (h : wf m = true) (p : Host.Cell → Bool) : wf (m.filter p) = true := by
  rw [wf_iff] at h ⊢
  exact ⟨Assoc.rising_filter p h.1, fun c hc => h.2 c ((List.mem_filter.mp hc).1)⟩

/-- Storing a word keeps the canonical form. -/
theorem wf_writeWord {m : List Host.Cell} (h : wf m = true) (w v : Nat) : wf (writeWord m w v) = true := by
  unfold writeWord
  generalize List.range 8 = l
  induction l generalizing m with
  | nil => exact h
  | cons j t ih => exact ih (wf_write h _ _)

/-- Zeroing words keeps the canonical form. -/
theorem wf_zeroWords {m : List Host.Cell} (h : wf m = true) (a b : Nat) : wf (zeroWords m a b) = true :=
  wf_filter h _

/-- A word store leaves every byte outside the word. -/
theorem read_writeWord_ne (m : List Host.Cell) (w v : Nat) {a : Nat} (h : a / 8 ≠ w) :
    read (writeWord m w v) a = read m a := by
  unfold writeWord
  have hl : ∀ j ∈ List.range 8, j < 8 := fun j hj => List.mem_range.mp hj
  revert hl
  generalize List.range 8 = l
  induction l generalizing m with
  | nil => intro _; rfl
  | cons j t ih =>
    intro hl
    have hj := hl j List.mem_cons_self
    simp only [List.foldl_cons]
    rw [ih _ (fun i hi => hl i (List.mem_cons_of_mem _ hi)), read_write_ne]
    unfold wordByte
    omega

end Sys2Proof.Machine.Memory

namespace Sys2Proof.Machine

/-- Storing a word keeps the canonical form. -/
theorem State.storeWord_wf {s : State} (h : Memory.wf s.mem.bytes = true) (w v : Nat) (p : Bool) :
    Memory.wf (s.storeWord w v p).mem.bytes = true := Memory.wf_writeWord h w v

end Sys2Proof.Machine
end

