-- ==== Sys2Proof/Laws/Needs.lean ====
section
/-! SUPPORT. What a need that begins can do (R24, R459): wakes of polders, the events they post, and what waits for them. -/

namespace Sys2Proof.Machine

open Reg

theorem ofNeeds_events {k : Nat} (h : ofEvents k = true) : ofNeeds k = true := by simp [ofNeeds, h]

/-- The lanes of a quad change fields and lanes only. -/
theorem Keeps.quadLanes {l : List Part} {s t : State} (h : Keeps l s t) (hf : Part.flds ∈ l) (hl : Part.lanes ∈ l) (n st : Nat) :
    Keeps l s (t.quadLanes n st) := by
  unfold State.quadLanes
  split
  · refine h.foldl (fun u a => ?_) _
    simp only [State.zero, List.foldl_cons, List.foldl_nil]
    exact ((((((Keeps.refl l u).setLane hl _ _).set hf _ _).set hf _ _).set hf _ _).set hf _ _).set hf _ _
  · exact h

theorem KeepsFlds.quadLanes {s t : State} (h : KeepsFlds ofNeeds s t) (n st : Nat) :
    KeepsFlds ofNeeds s (t.quadLanes n st) := by
  unfold State.quadLanes
  split
  · rename_i hn
    refine h.foldl _ (fun u a ha => ?_)
    have ha : a < 28 := by
      simp only [List.mem_map, List.mem_range] at ha
      obtain ⟨i, hi, rfl⟩ := ha
      omega
    simp only [State.zero, List.foldl_cons, List.foldl_nil]
    have k (f : Fld) (h1 : f.addr = adr_HLN_LANE_STATUS a) (h2 : f.lo < 32) : ofNeeds f.key = true := by
      simp only [ofNeeds, Fld.key, h1, adr_HLN_LANE_STATUS, Bool.or_eq_true, Bool.and_eq_true, beq_iff_eq]
      right; omega
    exact ((((((KeepsFlds.refl _ u).of_keeps ((Keeps.refl [.lanes] u).setLane (by simp) _ _) (by simp)).set (k _ rfl (Nat.le_of_ble_eq_true rfl)) _).set (k _ rfl (Nat.le_of_ble_eq_true rfl)) _).set (k _ rfl (Nat.le_of_ble_eq_true rfl)) _).set
      (k _ rfl (Nat.le_of_ble_eq_true rfl)) _).set (k _ rfl (Nat.le_of_ble_eq_true rfl)) _
  · exact h

/-- A polder changes its state: its STATE field follows. -/
theorem Keeps.setPState {l : List Part} {s t : State} (h : Keeps l s t) (hf : Part.flds ∈ l) (hp : Part.polders ∈ l) (n : Nat)
    (st : PState) : Keeps l s (t.setPState n st) := (h.setPd hp _ _).set hf _ _

theorem KeepsFlds.setPd {o : Nat → Bool} {s t : State} (h : KeepsFlds o s t) (n : Nat) (p : Polder) :
    KeepsFlds o s (t.setPd n p) := h.of_keeps ((Keeps.refl [.polders] t).setPd (by simp) n p) (by simp)

/-- A polder's field is among those of needs. -/
theorem pd_key {f : Fld} {a n : Nat} (hn : n < 40) (h1 : f.addr = 0x20000 + a + 0x10 * n) (ha : a < 0x10) (h2 : f.lo < 32) :
    ofNeeds f.key = true := by
  have : f.key / 0x200000 = 0x02 := by unfold Fld.key; omega
  simp [ofNeeds, this]

theorem KeepsFlds.setPState {s t : State} (h : KeepsFlds ofNeeds s t) {n : Nat} (hn : n < 40) (st : PState) :
    KeepsFlds ofNeeds s (t.setPState n st) :=
  (h.setPd _ _).set (pd_key (a := 0) hn rfl (by omega) (Nat.le_of_ble_eq_true rfl)) _

/-- A wake begins (R459, R462). -/
theorem Keeps.beginWake {l : List Part} {s t : State} (h : Keeps l s t) (hf : Part.flds ∈ l) (hq : Part.evq ∈ l)
    (he : Part.engines ∈ l) (hp : Part.polders ∈ l) (hl : Part.lanes ∈ l) (n src replay : Nat) : Keeps l s (t.beginWake n src replay) := by
  have tail (st : PState) (u v : State) (hu : Keeps l s u) (hv : Keeps l s v) : Keeps l s
      (if replay = 0 then (if src < 16 then u else v).post srcPWR 0x02 (hPolder n) [src]
        else (((if src < 16 then u else v).post srcPWR 0x02 (hPolder n) [src]).setB (PWR_PD_EVENT_REPLAY n) true).post srcPWR 0x03
          (hPolder n) [replay]) :=
    .ite ((hu.ite hv).post hf hq he _ _ _ _) ((((hu.ite hv).post hf hq he _ _ _ _).set hf _ _).post hf hq he _ _ _ _)
  unfold State.beginWake
  dsimp only
  refine .ite h ?_
  split
  · exact h
  · exact h
  · exact h
  · refine tail (.waking true) _ _ (Keeps.set ?_ hf _ _) ?_
    all_goals
      refine Keeps.set ?_ hf _ _
      refine Keeps.set ?_ hf _ _
      refine Keeps.set ?_ hf _ _
      exact ((h.setPd hp _ _).quadLanes hf hl _ _).setPState hf hp _ _

/-- The fields that a wake may write. -/
theorem KeepsFlds.beginWake {s t : State} (h : KeepsFlds ofNeeds s t) {n : Nat} (hn : n < 40) (src replay : Nat) :
    KeepsFlds ofNeeds s (t.beginWake n src replay) := by
  have ev : ∀ k, ofEvents k = true → ofNeeds k = true := fun _ => ofNeeds_events
  have k8 (f : Fld) (h1 : f.addr = 0x20000 + 8 + 0x10 * n) (h2 : f.lo < 32) : ofNeeds f.key = true :=
    pd_key hn h1 (by omega) h2
  have tail (u v : State) (hu : KeepsFlds ofNeeds s u) (hv : KeepsFlds ofNeeds s v) : KeepsFlds ofNeeds s
      (if replay = 0 then (if src < 16 then u else v).post srcPWR 0x02 (hPolder n) [src]
        else (((if src < 16 then u else v).post srcPWR 0x02 (hPolder n) [src]).setB (PWR_PD_EVENT_REPLAY n) true).post srcPWR 0x03
          (hPolder n) [replay]) :=
    .ite ((hu.ite hv).post ev _ _ _ _)
      ((((hu.ite hv).post ev _ _ _ _).set (k8 _ rfl (Nat.le_of_ble_eq_true rfl)) _).post ev _ _ _ _)
  unfold State.beginWake
  dsimp only
  refine .ite h ?_
  split
  · exact h
  · exact h
  · exact h
  · refine tail _ _ (KeepsFlds.set ?_ (k8 _ rfl (Nat.le_of_ble_eq_true rfl)) _) ?_
    all_goals
      refine KeepsFlds.set ?_ (pd_key (a := 0xC) hn rfl (by omega) (Nat.le_of_ble_eq_true rfl)) _
      refine KeepsFlds.set ?_ (by decide) _
      refine KeepsFlds.set ?_ (by decide) _
      exact ((h.setPd _ _).quadLanes _ _).setPState hn _

/-- A reason to wake. -/
theorem Keeps.wake {l : List Part} {s t : State} (h : Keeps l s t) (hf : Part.flds ∈ l) (hq : Part.evq ∈ l)
    (he : Part.engines ∈ l) (hp : Part.polders ∈ l) (hl : Part.lanes ∈ l) (n src : Nat) : Keeps l s (t.wake n src) := by
  unfold State.wake
  dsimp only
  split
  · exact h
  · exact h
  · exact .ite h (h.setPd hp _ _)
  · exact h.beginWake hf hq he hp hl _ _ _

theorem KeepsFlds.wake {s t : State} (h : KeepsFlds ofNeeds s t) {n : Nat} (hn : n < 40) (src : Nat) :
    KeepsFlds ofNeeds s (t.wake n src) := by
  unfold State.wake
  dsimp only
  split
  · exact h
  · exact h
  · exact .ite h (h.setPd _ _)
  · exact h.beginWake hn _ _

/-- A POWER completes where its polder has the state chosen for it. -/
theorem Keeps.powerDone {l : List Part} {s t : State} (h : Keeps l s t) (hf : Part.flds ∈ l) (he : Part.engines ∈ l) (n : Nat) :
    Keeps l s (t.powerDone n) := by
  unfold State.powerDone
  dsimp only
  split
  · exact .ite (h.finishWait hf he _ _) h
  · exact .ite (h.finishWait hf he _ _) h
  · exact .ite (h.finishWait hf he _ _) h
  · exact h

theorem KeepsFlds.powerDone {o : Nat → Bool} {s t : State} (h : KeepsFlds o s t) (ho : ∀ k, ofEvents k = true → o k = true)
    (n : Nat) : KeepsFlds o s (t.powerDone n) := by
  unfold State.powerDone
  dsimp only
  split
  · exact .ite (h.finishWait ho _ _) h
  · exact .ite (h.finishWait ho _ _) h
  · exact .ite (h.finishWait ho _ _) h
  · exact h

/-- The core is seen busy or idle. -/
theorem Keeps.seeBusy {l : List Part} {s t : State} (h : Keeps l s t) (hf : Part.flds ∈ l) (hm : Part.mgt ∈ l) :
    Keeps l s t.seeBusy := by
  unfold State.seeBusy
  dsimp only
  exact (Keeps.ite (h.pmc hf _ _ _) h).trans (fun p hp => by cases p <;> first | rfl | exact absurd hm hp)

theorem KeepsFlds.seeBusy {o : Nat → Bool} {s t : State} (h : KeepsFlds o s t) (ho : ∀ k, ofPmc k = true → o k = true) :
    KeepsFlds o s t.seeBusy := by
  unfold State.seeBusy
  dsimp only
  exact (KeepsFlds.ite (h.pmc ho _ _ _) h).trans (fun f _ => rfl)

/-- The polders are numbered below 40. -/
theorem lt_of_mem_polderList {n : Nat} (h : n ∈ polderList) : n < 40 := by
  simp only [polderList, List.mem_append, List.mem_range, List.mem_map] at h
  omega

/-- Needs that may have begun: nothing but polders, events, what waits for them, and the core's note of being busy. -/
theorem Keeps.refreshNeeds {l : List Part} {s t : State} (h : Keeps l s t) (hf : Part.flds ∈ l) (hq : Part.evq ∈ l)
    (he : Part.engines ∈ l) (hp : Part.polders ∈ l) (hl : Part.lanes ∈ l) (hm : Part.mgt ∈ l) : Keeps l s t.refreshNeeds := by
  unfold State.refreshNeeds
  refine (h.foldl (fun u n => ?_) _).seeBusy hf hm
  exact .ite (.ite (((Keeps.refl l u).setPd hp _ _).powerDone hf he _) ((Keeps.refl l u).wake hf hq he hp hl _ _)) (.refl l u)

theorem KeepsFlds.refreshNeeds {s t : State} (h : KeepsFlds ofNeeds s t) : KeepsFlds ofNeeds s t.refreshNeeds := by
  have ev : ∀ k, ofEvents k = true → ofNeeds k = true := fun _ => ofNeeds_events
  unfold State.refreshNeeds
  refine (h.foldl _ (fun u n hn => ?_)).seeBusy (fun k hk => ev k (by simp [ofEvents, hk]))
  exact .ite (.ite (((KeepsFlds.refl _ u).setPd _ _).powerDone ev _) ((KeepsFlds.refl _ u).wake (lt_of_mem_polderList hn) _))
    (.refl _ u)

end Sys2Proof.Machine
end

