-- ==== Sys2Proof/Laws/PerInstr.lean ====
section
/-! SUPPORT. Families of statements about every command, one lemma per constructor. -/

namespace Sys2Proof.Laws.Checked

open Sys2Proof

/-- The commands whose operands WellFormed checks. -/
def listed : Instr → Bool
  | .rsCodeword _ _ _ => true
  | .calibrationRunEnd _ _ => true
  | .qualificationSecond _ => true
  | .modelAdvance _ => true
  | .criticalStateError _ => true
  | .bringUp _ => true
  | .flashLoadEnd _ => true
  | .hkaSample _ => true
  | .spiUndefinedCommand _ => true
  | _ => false

/-- A command that is not listed is well formed whatever its operands. -/
def Statement (i : Instr) : Prop := listed i = true ∨ i.wf = true

theorem registerWrite (a : W32) (v : W32) : Statement (.registerWrite a v) := .inr rfl
theorem nop (e : Fin 4) : Statement (.nop e) := .inr rfl
theorem halt (e : Fin 4) : Statement (.halt e) := .inr rfl
theorem jmp (e : Fin 4) : Statement (.jmp e) := .inr rfl
theorem br (e : Fin 4) : Statement (.br e) := .inr rfl
theorem call (e : Fin 4) : Statement (.call e) := .inr rfl
theorem ret (e : Fin 4) : Statement (.ret e) := .inr rfl
theorem wait (e : Fin 4) : Statement (.wait e) := .inr rfl
theorem waitExpiry (e : Fin 4) : Statement (.waitExpiry e) := .inr rfl
theorem movi (e : Fin 4) : Statement (.movi e) := .inr rfl
theorem movih (e : Fin 4) : Statement (.movih e) := .inr rfl
theorem addi (e : Fin 4) : Statement (.addi e) := .inr rfl
theorem add (e : Fin 4) : Statement (.add e) := .inr rfl
theorem sub (e : Fin 4) : Statement (.sub e) := .inr rfl
theorem and (e : Fin 4) : Statement (.and e) := .inr rfl
theorem or (e : Fin 4) : Statement (.or e) := .inr rfl
theorem xor (e : Fin 4) : Statement (.xor e) := .inr rfl
theorem shl (e : Fin 4) : Statement (.shl e) := .inr rfl
theorem shr (e : Fin 4) : Statement (.shr e) := .inr rfl
theorem ld (e : Fin 4) : Statement (.ld e) := .inr rfl
theorem st (e : Fin 4) : Statement (.st e) := .inr rfl
theorem rdreg (e : Fin 4) (p : BitVec 18) : Statement (.rdreg e p) := .inr rfl
theorem wrreg (e : Fin 4) (p : BitVec 18) : Statement (.wrreg e p) := .inr rfl
theorem bind (e : Fin 4) (p : BitVec 18) : Statement (.bind e p) := .inr rfl
theorem enable (e : Fin 4) (p : BitVec 18) : Statement (.enable e p) := .inr rfl
theorem disable (e : Fin 4) (p : BitVec 18) : Statement (.disable e p) := .inr rfl
theorem disableAbort (e : Fin 4) (p : BitVec 18) : Statement (.disableAbort e p) := .inr rfl
theorem unbind (e : Fin 4) (p : BitVec 18) : Statement (.unbind e p) := .inr rfl
theorem protectClear (e : Fin 4) (p : BitVec 18) : Statement (.protectClear e p) := .inr rfl
theorem protectLockout (e : Fin 4) (p : BitVec 18) : Statement (.protectLockout e p) := .inr rfl
theorem protectForceA (e : Fin 4) (p : BitVec 18) : Statement (.protectForceA e p) := .inr rfl
theorem protectForceB (e : Fin 4) (p : BitVec 18) : Statement (.protectForceB e p) := .inr rfl
theorem protectManualA (e : Fin 4) (p : BitVec 18) : Statement (.protectManualA e p) := .inr rfl
theorem protectManualB (e : Fin 4) (p : BitVec 18) : Statement (.protectManualB e p) := .inr rfl
theorem pin (e : Fin 4) (p : BitVec 18) : Statement (.pin e p) := .inr rfl
theorem query (e : Fin 4) (p : BitVec 18) : Statement (.query e p) := .inr rfl
theorem relane (e : Fin 4) (p : BitVec 18) : Statement (.relane e p) := .inr rfl
theorem keyimp (e : Fin 4) (p : BitVec 18) : Statement (.keyimp e p) := .inr rfl
theorem keyUnwrap : Statement (.keyUnwrap) := .inr rfl
theorem keystage (e : Fin 4) (p : BitVec 18) : Statement (.keystage e p) := .inr rfl
theorem keyroll (e : Fin 4) (p : BitVec 18) : Statement (.keyroll e p) := .inr rfl
theorem keyzero (e : Fin 4) (p : BitVec 18) : Statement (.keyzero e p) := .inr rfl
theorem refset (e : Fin 4) (p : BitVec 18) : Statement (.refset e p) := .inr rfl
theorem realign (e : Fin 4) (p : BitVec 18) : Statement (.realign e p) := .inr rfl
theorem timerd (e : Fin 4) (p : BitVec 18) : Statement (.timerd e p) := .inr rfl
theorem mretire (e : Fin 4) (p : BitVec 18) : Statement (.mretire e p) := .inr rfl
theorem mtest (e : Fin 4) (p : BitVec 18) : Statement (.mtest e p) := .inr rfl
theorem power (e : Fin 4) (p : BitVec 18) : Statement (.power e p) := .inr rfl
theorem evpost (e : Fin 4) (p : BitVec 18) : Statement (.evpost e p) := .inr rfl
theorem evwait (e : Fin 4) : Statement (.evwait e) := .inr rfl
theorem evwaitTimeout (e : Fin 4) : Statement (.evwaitTimeout e) := .inr rfl
theorem fenceAll (e : Fin 4) : Statement (.fenceAll e) := .inr rfl
theorem fenceObj (e : Fin 4) : Statement (.fenceObj e) := .inr rfl
theorem fenceIo (e : Fin 4) : Statement (.fenceIo e) := .inr rfl
theorem faultRecord (e : Fin 4) : Statement (.faultRecord e) := .inr rfl
theorem sluLoadGo (k : Fin 4) : Statement (.sluLoadGo k) := .inr rfl
theorem verificationEnd (k : Fin 4) : Statement (.verificationEnd k) := .inr rfl
theorem windowWrite (word : BitVec 19) (v : W32) : Statement (.windowWrite word v) := .inr rfl
theorem start (e : Fin 4) (bank : Fin 4) : Statement (.start e bank) := .inr rfl
theorem stop (e : Fin 4) : Statement (.stop e) := .inr rfl
theorem kill (e : Fin 4) : Statement (.kill e) := .inr rfl
theorem engineDrained (e : Fin 4) : Statement (.engineDrained e) := .inr rfl
theorem sync : Statement (.sync) := .inr rfl
theorem pmSecond : Statement (.pmSecond) := .inr rfl
theorem pmRollup : Statement (.pmRollup) := .inr rfl
theorem allocationInterval : Statement (.allocationInterval) := .inr rfl
theorem sfInterval : Statement (.sfInterval) := .inr rfl
theorem signalPresent (l : Fin 28) : Statement (.signalPresent l) := .inr rfl
theorem signalLost (l : Fin 28) : Statement (.signalLost l) := .inr rfl
theorem laneLock (l : Fin 28) (m : LaneMeas) : Statement (.laneLock l m) := .inr rfl
theorem adaptTimeout (l : Fin 28) : Statement (.adaptTimeout l) := .inr rfl
theorem laneUnlock (l : Fin 28) (m : LaneMeas) : Statement (.laneUnlock l m) := .inr rfl
theorem laneRestart (l : Fin 28) : Statement (.laneRestart l) := .inr rfl
theorem markerLock (l : Fin 28) (logical : Fin 8) (skew : Nat) : Statement (.markerLock l logical skew) := .inr rfl
theorem markerLockLost (l : Fin 28) : Statement (.markerLockLost l) := .inr rfl
theorem rsCodeword (l : Fin 28) (info parity : List (Fin 4)) : Statement (.rsCodeword l info parity) := .inl rfl
theorem hostCell (g : Fin 28) : Statement (.hostCell g) := .inr rfl
theorem prbsGenen (l : Fin 28) (pat : Fin 8) : Statement (.prbsGenen l pat) := .inr rfl
theorem prbsClr (l : Fin 28) : Statement (.prbsClr l) := .inr rfl
theorem prbsSync (x : LaneLevels) : Statement (.prbsSync x) := .inr rfl
theorem prbsSyncLoss (l : Fin 28) (levels : List (Fin 4)) (last : Fin 4) : Statement (.prbsSyncLoss l levels last) := .inr rfl
theorem prbsSaturation (l : Fin 28) (levels : List (Fin 4)) : Statement (.prbsSaturation l levels) := .inr rfl
theorem hlnThreshWrite (v : W32) : Statement (.hlnThreshWrite v) := .inr rfl
theorem txeqWrite (l : Fin 28) (v : W32) : Statement (.txeqWrite l v) := .inr rfl
theorem transmitFrame : Statement (.transmitFrame) := .inr rfl
theorem superframeBoundary : Statement (.superframeBoundary) := .inr rfl
theorem sealBoundary (n : Fin 1024) : Statement (.sealBoundary n) := .inr rfl
theorem defragMove (c : Fin 2) : Statement (.defragMove c) := .inr rfl
theorem cmselWrite (v : W32) : Statement (.cmselWrite v) := .inr rfl
theorem receiveUnit (n : Fin 1024) : Statement (.receiveUnit n) := .inr rfl
theorem tagVerdict (n : Fin 1024) : Statement (.tagVerdict n) := .inr rfl
theorem areaZeroed (n : Fin 1024) : Statement (.areaZeroed n) := .inr rfl
theorem keywarn (k : Fin 2048) : Statement (.keywarn k) := .inr rfl
theorem keySpent (k : Fin 2048) : Statement (.keySpent k) := .inr rfl
theorem counterLimit (n : Fin 1024) : Statement (.counterLimit n) := .inr rfl
theorem rootInjection (wrap : Fin 8) (target : Fin 8) : Statement (.rootInjection wrap target) := .inr rfl
theorem kekLoad (wrap : Fin 8) (target : Fin 8) : Statement (.kekLoad wrap target) := .inr rfl
theorem kekOperationEnd (verified : Bool) : Statement (.kekOperationEnd verified) := .inr rfl
theorem provision (confirm : BitVec 16) : Statement (.provision confirm) := .inr rfl
theorem deploy (confirm : BitVec 16) : Statement (.deploy confirm) := .inr rfl
theorem retire (confirm : BitVec 16) : Statement (.retire confirm) := .inr rfl
theorem renew (confirm : BitVec 16) : Statement (.renew confirm) := .inr rfl
theorem lcsTransitionEnd (ok : Bool) : Statement (.lcsTransitionEnd ok) := .inr rfl
theorem tamperTrigger (cause : Fin 4) : Statement (.tamperTrigger cause) := .inr rfl
theorem tamperZeroed : Statement (.tamperZeroed) := .inr rfl
theorem tamperCountWrite : Statement (.tamperCountWrite) := .inr rfl
theorem ksselWrite (v : W32) : Statement (.ksselWrite v) := .inr rfl
theorem receiveFrame (c : Fin 2) (arrival : Nat) : Statement (.receiveFrame c arrival) := .inr rfl
theorem holdoffExpiry (g : Fin 1025) (c : Fin 2) : Statement (.holdoffExpiry g c) := .inr rfl
theorem wtrExpiry (g : Fin 1025) : Statement (.wtrExpiry g) := .inr rfl
theorem commitPoint (n : Fin 1024) : Statement (.commitPoint n) := .inr rfl
theorem ddUnknown : Statement (.ddUnknown) := .inr rfl
theorem blockArrival (c : Fin 2) (zeros : BitVec 30720) : Statement (.blockArrival c zeros) := .inr rfl
theorem decodingPass (c : Fin 2) (th : Fin 16) (window : List (BitVec 30720)) (e16 : BitVec 30720) (e32 : BitVec 30720) : Statement (.decodingPass c th window e16 e32) := .inr rfl
theorem blockDelivery (c : Fin 2) : Statement (.blockDelivery c) := .inr rfl
theorem fecCtlClr (c : Fin 2) : Statement (.fecCtlClr c) := .inr rfl
theorem fecSdWrite (c : Fin 2) (v : W32) : Statement (.fecSdWrite c v) := .inr rfl
theorem histselWrite (c : Fin 2) (v : W32) : Statement (.histselWrite c v) := .inr rfl
theorem pilotBlock (c : Fin 2) (x : PilotMeas) : Statement (.pilotBlock c x) := .inr rfl
theorem dispersionTracking (c : Fin 2) (residual : Int) : Statement (.dispersionTracking c residual) := .inr rfl
theorem bulkDgdUpdate (c : Fin 2) (delay : Int) : Statement (.bulkDgdUpdate c delay) := .inr rfl
theorem eqRestart (c : Fin 2) : Statement (.eqRestart c) := .inr rfl
theorem eqFreeze (c : Fin 2) : Statement (.eqFreeze c) := .inr rfl
theorem eqUnfreeze (c : Fin 2) : Statement (.eqUnfreeze c) := .inr rfl
theorem eqDdEntry (c : Fin 2) : Statement (.eqDdEntry c) := .inr rfl
theorem eqreinit (c : Fin 2) : Statement (.eqreinit c) := .inr rfl
theorem lsteerPeriod (c : Fin 2) (f : Int) : Statement (.lsteerPeriod c f) := .inr rfl
theorem xiSearch (c : Fin 2) (snr : Nat) : Statement (.xiSearch c snr) := .inr rfl
theorem fillsync (c : Fin 2) : Statement (.fillsync c) := .inr rfl
theorem monitorUpdate (c : Fin 2) (m : MonitorMeas) : Statement (.monitorUpdate c m) := .inr rfl
theorem tapselWrite (c : Fin 2) (v : W32) : Statement (.tapselWrite c v) := .inr rfl
theorem dspControlWrite (c : Fin 2) (reg : Fin 3) (v : W32) : Statement (.dspControlWrite c reg v) := .inr rfl
theorem sweepEnd (c : Fin 2) (lane : Fin 5) (x : SweepMeas) : Statement (.sweepEnd c lane x) := .inr rfl
theorem confirmStart (c : Fin 2) : Statement (.confirmStart c) := .inr rfl
theorem settleEnd (c : Fin 2) : Statement (.settleEnd c) := .inr rfl
theorem pilotPass (c : Fin 2) : Statement (.pilotPass c) := .inr rfl
theorem fillHold (c : Fin 2) : Statement (.fillHold c) := .inr rfl
theorem fillTimeout (c : Fin 2) : Statement (.fillTimeout c) := .inr rfl
theorem blockWindow (c : Fin 2) (zeros : Nat) (pick : Fin 1024) : Statement (.blockWindow c zeros pick) := .inr rfl
theorem checkEnd (c : Fin 2) (zeros : Nat) : Statement (.checkEnd c zeros) := .inr rfl
theorem rejectExpiry (c : Fin 2) : Statement (.rejectExpiry c) := .inr rfl
theorem lossOfPilots (c : Fin 2) : Statement (.lossOfPilots c) := .inr rfl
theorem setupCheck (c : Fin 2) : Statement (.setupCheck c) := .inr rfl
theorem acqRestart (c : Fin 2) : Statement (.acqRestart c) := .inr rfl
theorem preempt (c : Fin 2) : Statement (.preempt c) := .inr rfl
theorem acqThreshWrite (v : W32) : Statement (.acqThreshWrite v) := .inr rfl
theorem startupEnd (c : Fin 2) : Statement (.startupEnd c) := .inr rfl
theorem pairStart (st : Fin 4) : Statement (.pairStart st) := .inr rfl
theorem calibrationRunEnd (st : Fin 4) (x : CalStats) : Statement (.calibrationRunEnd st x) := .inl rfl
theorem correctionStep (st : Fin 4) : Statement (.correctionStep st) := .inr rfl
theorem store_ : Statement (.store_) := .inr rfl
theorem storeJob : Statement (.storeJob) := .inr rfl
theorem storeInvalidated : Statement (.storeInvalidated) := .inr rfl
theorem storeWritten : Statement (.storeWritten) := .inr rfl
theorem storeVerified (right : Bool) : Statement (.storeVerified right) := .inr rfl
theorem storeCommitted : Statement (.storeCommitted) := .inr rfl
theorem mapWrite (c : Fin 2) (v : W32) : Statement (.mapWrite c v) := .inr rfl
theorem tabselWrite (c : Fin 2) (v : W32) : Statement (.tabselWrite c v) := .inr rfl
theorem binselWrite (v : W32) : Statement (.binselWrite v) := .inr rfl
theorem qualificationSecond (x : RefSecond) : Statement (.qualificationSecond x) := .inl rfl
theorem los (i : Fin 4) : Statement (.los i) := .inr rfl
theorem refActive (i : Fin 4) : Statement (.refActive i) := .inr rfl
theorem bandwidthStep : Statement (.bandwidthStep) := .inr rfl
theorem sampleEligible : Statement (.sampleEligible) := .inr rfl
theorem pulldone : Statement (.pulldone) := .inr rfl
theorem ringLinkUp : Statement .ringLinkUp := .inr rfl
theorem ringLinkDown (x : RingHeard) : Statement (.ringLinkDown x) := .inr rfl
theorem wicketOpen : Statement (.wicketOpen) := .inr rfl
theorem wicketClose : Statement (.wicketClose) := .inr rfl
theorem ringSync (m : RingIn) (at_ : Nat) : Statement (.ringSync m at_) := .inr rfl
theorem ringState (m : RingIn) : Statement (.ringState m) := .inr rfl
theorem ringDelay (m : RingIn) : Statement (.ringDelay m) := .inr rfl
theorem stateSend : Statement (.stateSend) := .inr rfl
theorem peerTimeout (p : Fin 16) : Statement (.peerTimeout p) := .inr rfl
theorem timOutWrite (v : W32) : Statement (.timOutWrite v) := .inr rfl
theorem scrubRead (b : Fin 192) (word : BitVec 16) (upset : BitVec 73) : Statement (.scrubRead b word upset) := .inr rfl
theorem testBlock (b : Fin 192) (fails : BitVec 73) : Statement (.testBlock b fails) := .inr rfl
theorem bucketLeak (b : Fin 192) : Statement (.bucketLeak b) := .inr rfl
theorem bistStart (b : Fin 192) : Statement (.bistStart b) := .inr rfl
theorem clearDone (b : Fin 192) : Statement (.clearDone b) := .inr rfl
theorem memClaim (b : BitVec 8) : Statement (.memClaim b) := .inr rfl
theorem memRelease (b : BitVec 8) : Statement (.memRelease b) := .inr rfl
theorem accWrite (b : BitVec 8) (word : BitVec 16) (poison : Bool) (coll : Bool) : Statement (.accWrite b word poison coll) := .inr rfl
theorem accRead (b : BitVec 8) (word : BitVec 16) (upset : BitVec 73) : Statement (.accRead b word upset) := .inr rfl
theorem logWrite : Statement (.logWrite) := .inr rfl
theorem logClr : Statement (.logClr) := .inr rfl
theorem injArm (v : W32) : Statement (.injArm v) := .inr rfl
theorem logselWrite (v : W32) : Statement (.logselWrite v) := .inr rfl
theorem railGood (r : Fin 6) (late : Bool) : Statement (.railGood r late) := .inr rfl
theorem railFall (r : Fin 6) : Statement (.railFall r) := .inr rfl
theorem railReturn (r : Fin 6) : Statement (.railReturn r) := .inr rfl
theorem vaonFail : Statement (.vaonFail) := .inr rfl
theorem aonMonitor (ok : Bool) : Statement (.aonMonitor ok) := .inr rfl
theorem dwellExpiry (n : Fin 40) : Statement (.dwellExpiry n) := .inr rfl
theorem entryEnd (n : Fin 40) (px : Nat) (po : Nat) : Statement (.entryEnd n px po) := .inr rfl
theorem wake (n : Fin 40) (src : BitVec 8) : Statement (.wake n src) := .inr rfl
theorem wakeEnd (n : Fin 40) : Statement (.wakeEnd n) := .inr rfl
theorem wholdExpiry (n : Fin 40) : Statement (.wholdExpiry n) := .inr rfl
theorem i2cAddressMatch : Statement (.i2cAddressMatch) := .inr rfl
theorem pwrTimerWrite (v : W32) : Statement (.pwrTimerWrite v) := .inr rfl
theorem timer : Statement (.timer) := .inr rfl
theorem xoInStop : Statement (.xoInStop) := .inr rfl
theorem xoInReturn : Statement (.xoInReturn) := .inr rfl
theorem modelAdvance (x : ModelTick) : Statement (.modelAdvance x) := .inl rfl
theorem thermalEvaluation : Statement (.thermalEvaluation) := .inr rfl
theorem stepUp : Statement (.stepUp) := .inr rfl
theorem stepRelease : Statement (.stepRelease) := .inr rfl
theorem trip : Statement (.trip) := .inr rfl
theorem tripClear : Statement (.tripClear) := .inr rfl
theorem reinstate (mask : BitVec 12) : Statement (.reinstate mask) := .inr rfl
theorem reinstateEnd (d : Fin 12) : Statement (.reinstateEnd d) := .inr rfl
theorem powerOnReset : Statement (.powerOnReset) := .inr rfl
theorem resetN : Statement (.resetN) := .inr rfl
theorem vcoreLow : Statement (.vcoreLow) := .inr rfl
theorem vioLow : Statement (.vioLow) := .inr rfl
theorem hostcold (key : BitVec 16) : Statement (.hostcold key) := .inr rfl
theorem hostwarm (key : BitVec 16) : Statement (.hostwarm key) := .inr rfl
theorem criticalStateError (u : Fin 8) : Statement (.criticalStateError u) := .inl rfl
theorem lockout : Statement (.lockout) := .inr rfl
theorem bringUp (x : BringUp) : Statement (.bringUp x) := .inl rfl
theorem warmBringUp (failing : List (Fin 192)) : Statement (.warmBringUp failing) := .inr rfl
theorem noxo : Statement (.noxo) := .inr rfl
theorem release : Statement (.release) := .inr rfl
theorem flashLoadEnd (x : FlashLoad) : Statement (.flashLoadEnd x) := .inl rfl
theorem hkaGo : Statement (.hkaGo) := .inr rfl
theorem hkaConfigWrite (scan : Bool) (v : W32) : Statement (.hkaConfigWrite scan v) := .inr rfl
theorem hkaSample (bits : List Bool) : Statement (.hkaSample bits) := .inl rfl
theorem conversionEnd : Statement (.conversionEnd) := .inr rfl
theorem hkaDataRead : Statement (.hkaDataRead) := .inr rfl
theorem write (addr : Option W32) (word : Option W32) : Statement (.write addr word) := .inr rfl
theorem read (addr : Option W32) (cut : Bool) : Statement (.read addr cut) := .inr rfl
theorem writeinc (addr : Option W32) (words : List W32) (cut : Bool) : Statement (.writeinc addr words cut) := .inr rfl
theorem readinc (addr : Option W32) (n : Nat) (cut : Bool) : Statement (.readinc addr n cut) := .inr rfl
theorem status : Statement (.status) := .inr rfl
theorem post : Statement (.post) := .inr rfl
theorem ack : Statement (.ack) := .inr rfl
theorem version : Statement (.version) := .inr rfl
theorem pmget : Statement (.pmget) := .inr rfl
theorem pmlast : Statement (.pmlast) := .inr rfl
theorem pop : Statement (.pop) := .inr rfl
theorem i2cWrite (index : Byte) (v : W32) : Statement (.i2cWrite index v) := .inr rfl
theorem i2cRead (index : Byte) : Statement (.i2cRead index) := .inr rfl
theorem idcode : Statement (.idcode) := .inr rfl
theorem samplePreload (cells : List Bool) : Statement (.samplePreload cells) := .inr rfl
theorem extest : Statement (.extest) := .inr rfl
theorem extestPulse : Statement (.extestPulse) := .inr rfl
theorem extestTrain : Statement (.extestTrain) := .inr rfl
theorem clamp : Statement (.clamp) := .inr rfl
theorem highz : Statement (.highz) := .inr rfl
theorem debug : Statement (.debug) := .inr rfl
theorem ciptest : Statement (.ciptest) := .inr rfl
theorem bypass : Statement (.bypass) := .inr rfl
theorem testLogicReset : Statement (.testLogicReset) := .inr rfl
theorem pmcClr (k : Fin 64) : Statement (.pmcClr k) := .inr rfl
theorem clrall : Statement (.clrall) := .inr rfl
theorem pmcSelWrite (k : Fin 64) (v : W32) : Statement (.pmcSelWrite k v) := .inr rfl
theorem hostTransmit (g : Fin 28) (skip : Fin 1024) : Statement (.hostTransmit g skip) := .inr rfl
theorem publishedSuperframeBoundary : Statement (.publishedSuperframeBoundary) := .inr rfl
theorem undefinedOpcode (e : Fin 4) : Statement (.undefinedOpcode e) := .inr rfl
theorem spiUndefinedCommand (code : Byte) : Statement (.spiUndefinedCommand code) := .inl rfl
theorem badcmd : Statement (.badcmd) := .inr rfl
theorem periodBoundary (st : Fin 4) : Statement (.periodBoundary st) := .inr rfl

end Sys2Proof.Laws.Checked
end

