-- ==== Sys2Proof/Laws/Place.lean ====
section
/-! SUPPORT. What a placement can do (R610): it succeeds exactly when the room suffices, takes banks of its own order only, and leaves
the room of another owner when no bank is FREE. -/

namespace Sys2Proof.Machine

open Reg

/-- Every stretch that placement takes lies in a bank it was offered. -/
theorem takeGaps_bank {role obj part : Nat} : ∀ {need : Nat} {l : List (Nat × Nat × Nat)} {a : Alloc}, a ∈ takeGaps role obj part need l →
    ∃ g ∈ l, a.bank = g.1 := by
  intro need l
  induction l generalizing need with
  | nil => intro a h; cases need <;> simp [takeGaps] at h
  | cons g t ih =>
    obtain ⟨b, st, k⟩ := g
    intro a h
    cases need with
    | zero => simp [takeGaps] at h
    | succ n =>
      simp only [takeGaps] at h
      split at h
      · simp only [List.mem_singleton] at h
        exact ⟨_, List.mem_cons_self, by rw [h]⟩
      · rcases List.mem_cons.mp h with h | h
        · exact ⟨_, List.mem_cons_self, by rw [h]⟩
        · obtain ⟨g, hg, e⟩ := ih h
          exact ⟨g, List.mem_cons_of_mem _ hg, e⟩

/-- Banks of the placement order are held or FREE. -/
theorem State.mem_placeOrder {s : State} {role b : Nat} (h : b ∈ s.placeOrder role) : b ∈ s.heldBanks role ∨ b ∈ s.freeBanks := by
  simp only [State.placeOrder] at h
  have hs (x) (hx : x ∈ ((s.freeBanks.mergeSort (fun x y => decide (Config.bankRank s.mem.placed x ≤ Config.bankRank s.mem.placed y))).take
      (s.mayTake role))) : x ∈ s.freeBanks := List.mem_mergeSort.mp (List.mem_of_mem_take hx)
  split at h
  · rcases List.mem_append.mp h with h | h
    · exact .inl (List.mem_mergeSort.mp h)
    · exact .inr (hs _ h)
  · rcases List.mem_append.mp h with h | h
    · exact .inr (hs _ h)
    · exact .inl (List.mem_mergeSort.mp h)

/-- What a placement does when the room suffices: stretches in banks of the order, whose owner becomes the role. -/
theorem State.place_some {s : State} {role obj need : Nat} (h : need ≤ s.roomFor role) : ∃ new : List Alloc,
    (∀ a ∈ new, a.bank ∈ s.placeOrder role)
    ∧ s.place role obj need = some (new.foldl (fun s a => s.setOwner a.bank role)
      (s.setMem { s.mem with allocs := s.mem.allocs ++ new, placed := s.mem.placed + 1 })) := by
  refine ⟨takeGaps role obj 0 need ((s.placeOrder role).flatMap (fun b => (s.gaps b).map (fun g => (b, g.1, g.2)))), ?_, ?_⟩
  · intro a ha
    obtain ⟨g, hg, e⟩ := takeGaps_bank ha
    simp only [List.mem_flatMap, List.mem_map] at hg
    obtain ⟨b, hb, x, _, rfl⟩ := hg
    rw [e]; exact hb
  · simp only [State.place, Nat.not_lt.mpr h, if_false, State.placeOn]

theorem owner_key_inj {a b : Nat} (h : (MEM_BANK_STATUS_OWNER a).key = (MEM_BANK_STATUS_OWNER b).key) : a = b := by
  simp only [Fld.key, MEM_BANK_STATUS_OWNER, adr_MEM_BANK_STATUS] at h
  omega

theorem owner_key_retpend (a b : Nat) : (MEM_BANK_STATUS_RETPEND b).key ≠ (MEM_BANK_STATUS_OWNER a).key := by
  simp only [Fld.key, MEM_BANK_STATUS_OWNER, MEM_BANK_STATUS_RETPEND, adr_MEM_BANK_STATUS]
  omega

theorem State.owner_setOwner (s : State) (a b o : Nat) :
    (s.setOwner a o).owner b = if b = a then o % 256 else s.owner b := by
  simp only [State.owner, State.setOwner, State.get, State.set]
  split
  · next h => subst h; exact Assoc.get_put_same _ _ _ _
  · next h => exact Assoc.get_put_ne _ (fun k => h (owner_key_inj k)) _ _

theorem State.retpend_setOwner (s : State) (a b o : Nat) :
    (s.setOwner a o).on (MEM_BANK_STATUS_RETPEND b) = s.on (MEM_BANK_STATUS_RETPEND b) := by
  simp only [State.on, State.setOwner, State.get, State.set]
  rw [Assoc.get_put_ne _ (owner_key_retpend a b)]

/-- Owners taken one by one: a bank outside the list keeps its owner, one in it has the role. -/
theorem State.foldl_setOwner (new : List Alloc) (role : Nat) : ∀ s : State,
    let t := new.foldl (fun s a => s.setOwner a.bank role) s
    t.mem = s.mem ∧ (∀ b, t.on (MEM_BANK_STATUS_RETPEND b) = s.on (MEM_BANK_STATUS_RETPEND b))
    ∧ ∀ b, t.owner b = if ∃ a ∈ new, a.bank = b then role % 256 else s.owner b := by
  induction new with
  | nil => intro s; simp
  | cons a l ih =>
    intro s
    obtain ⟨h1, h2, h3⟩ := ih (s.setOwner a.bank role)
    refine ⟨h1, fun b => (h2 b).trans (s.retpend_setOwner _ _ _), fun b => ?_⟩
    rw [List.foldl_cons, h3 b, State.owner_setOwner]
    by_cases hb : ∃ x ∈ l, x.bank = b
    · simp [hb]
    · by_cases ha : b = a.bank
      · simp [ha]
      · have : ¬ (a.bank = b) := fun e => ha e.symm
        simp [ha, this, hb]

/-- The room is a sum. -/
theorem State.roomFor_eq (s : State) (role : Nat) : s.roomFor role
    = (((s.heldBanks role ++ s.freeBanks.take (s.mayTake role)).flatMap s.gaps).map (fun g => g.2)).sum := by
  have (l : List (Nat × Nat)) (k : Nat) : l.foldl (fun k g => k + g.2) k = k + (l.map (fun g => g.2)).sum := by
    induction l generalizing k with
    | nil => simp
    | cons g t ih => simp [ih, Nat.add_assoc]
  simp only [State.roomFor]
  rw [this]; simp

/-- With no bank FREE, a placement for one owner leaves the room of another as it was. -/
theorem State.place_room {s : State} {role other obj need : Nat} (h : need ≤ s.roomFor role) (hf : s.freeBanks = [])
    (hr : role < 256) (ho : other ≠ role) : ∃ t, s.place role obj need = some t ∧ s.roomFor other ≤ t.roomFor other := by
  obtain ⟨new, hn, e⟩ := State.place_some (obj := obj) h
  refine ⟨_, e, ?_⟩
  have held (a) (ha : a ∈ new) : s.owner a.bank = role := by
    rcases State.mem_placeOrder (hn a ha) with k | k
    · have := (List.mem_filter.mp k).2
      simp only [Bool.and_eq_true, beq_iff_eq] at this
      exact this.1
    · rw [hf] at k; cases k
  obtain ⟨h1, h2, h3⟩ := State.foldl_setOwner new role
    (s.setMem { s.mem with allocs := s.mem.allocs ++ new, placed := s.mem.placed + 1 })
  have hown (b) : (new.foldl (fun s a => s.setOwner a.bank role)
      (s.setMem { s.mem with allocs := s.mem.allocs ++ new, placed := s.mem.placed + 1 })).owner b = s.owner b := by
    rw [h3 b]
    split
    · next k =>
      obtain ⟨a, ha, rfl⟩ := k
      rw [held a ha, Nat.mod_eq_of_lt hr]
    · rfl
  generalize ht : new.foldl (fun s a => s.setOwner a.bank role)
      (s.setMem { s.mem with allocs := s.mem.allocs ++ new, placed := s.mem.placed + 1 }) = t at *
  have hh : t.heldBanks other = s.heldBanks other := by
    simp only [State.heldBanks]
    refine List.filter_congr fun b _ => ?_
    rw [hown b, h2 b]; rfl
  have hg : ∀ b ∈ s.heldBanks other, t.gaps b = s.gaps b := by
    intro b hb
    have hb' : s.owner b = other := by
      have := (List.mem_filter.mp hb).2
      simp only [Bool.and_eq_true, beq_iff_eq] at this
      exact this.1
    have hz : new.filter (fun a => a.bank == b) = [] := by
      rw [List.filter_eq_nil_iff]
      intro a ha k
      have k := beq_iff_eq.mp k
      exact ho (by rw [← hb', ← k, held a ha])
    simp only [State.gaps, h1, State.setMem, List.filter_append, hz, List.append_nil]
  rw [State.roomFor_eq, State.roomFor_eq, hh, hf]
  simp only [List.take_nil, List.append_nil, List.flatMap_append, List.map_append, List.sum_append]
  have : (s.heldBanks other).flatMap t.gaps = (s.heldBanks other).flatMap s.gaps := by
    rw [List.flatMap_def, List.flatMap_def, List.map_congr_left hg]
  rw [this]
  exact Nat.le_add_right _ _

end Sys2Proof.Machine
end

