-- ==== Sys2Proof/Tests/Slice0.lean ====
section
/-! SUPPORT. Tests: ill-formed operands are refused, witnesses for the hypotheses of the statements, and a few single steps with results
from the spec. -/

namespace Sys2Proof.Tests

set_option maxRecDepth 100000
set_option Elab.async false

open Sys2Proof Sys2Proof.Machine Sys2Proof.Machine.Reg Host

/-! ## Helpers -/

/-- A state with some register fields put. -/
def State.puts (s : State) (l : List (Fld × Nat)) : State := l.foldl (fun s p => s.set p.1 p.2) s

/-- A device that is ready, with some register fields put. -/
def up (l : List (Fld × Nat)) : State := State.puts (State.reset.set GLB_STATUS_READY 1) l

/-- An engine's word at the start of a running image of 256 words, with registers. -/
def prog (w : Nat) (regs : List (Nat × Nat)) : State :=
  let s := up [(SLU_ENG_STATUS_STATE 0, 2)]
  ((s.storeWord (188 * 65536 + 1) (0x100 * 2 ^ 32 + 0x1000) false).storeWord (188 * 65536 + 8) w false).setEng 0 { regs := regs }

/-- An instruction word: opcode, flags, D, A and the low 40 bits (R38). -/
def word (op flags d a b : Nat) : Nat := op * 2 ^ 56 + flags * 2 ^ 48 + d * 2 ^ 44 + a * 2 ^ 40 + b

/-- An instruction in flight in engine 0 with its effect still due. -/
def entry (w a d : Nat) (desc : List Nat) : Entry :=
  { pc := 0, word := w, taken := false, accepted := false, completed := false, faulted := false, waits := [], a := a, d := d, desc := desc }

/-- A running engine 0 with one entry in flight, on top of a state. -/
def State.flying (s : State) (en : Entry) : State := (s.set (SLU_ENG_STATUS_STATE 0) 2).setEng 0 { pc := 1, entries := [en] }

/-- What a next state shows. -/
def next? (o : Machine.Outcome) (f : State → Bool) : Bool :=
  match o with
  | .next t => f t
  | _ => false

/-- The step faults. -/
def faults (o : Machine.Outcome) : Bool :=
  match o with
  | .fault .illFormed => true
  | _ => false

/-- A word is legal and names a handle that its opcode accepts. -/
def takesB (w a : Nat) : Bool := legal w && (!namesHandle (opOf w) || handleOk (opOf w) (namedHandle w a))

/-- Such an instruction in flight in engine 0 takes its effect now: the premise of the statements about instructions on objects. -/
theorem takes_flying (s : State) (w a d : Nat) (desc : List Nat) (h : takesB w a = true) :
    Takes (State.flying s (entry w a d desc)) (opOf w) (0 : Fin 4) 0 (entry w a d desc) (State.flying s (entry w a d desc)) := by
  simp only [takesB, Bool.and_eq_true, Bool.or_eq_true, Bool.not_eq_true'] at h
  refine ⟨h.1, fun hn => h.2.resolve_left (by simp [hn]), .inl ⟨?_, rfl, rfl, rfl, rfl, rfl⟩⟩
  have h : (State.flying s (entry w a d desc)).eng 0 = { pc := 1, entries := [entry w a d desc] } := by
    simp only [State.flying, State.eng, State.setEng]
    exact Assoc.get_put_same _ _ _ _
  show (((State.flying s (entry w a d desc)).eng 0).entries.find? _) = _
  rw [h]; rfl

theorem taken_all {s : State} {l : List Nat} (h : l.all (fun w => takesB w 0) = true) :
    ∀ w ∈ l, Takes (State.flying s (entry w 0 0 [])) (opOf w) (0 : Fin 4) 0 (entry w 0 0 []) (State.flying s (entry w 0 0 [])) :=
  fun w hw => takes_flying s w 0 0 [] (List.all_eq_true.mp h w hw)

/-- The checks of Starts, as a test. -/
def startsB (s : State) (e op : Nat) : Bool :=
  s.canStart e && opOf (s.nextWord e) == op && decide ((s.eng e).next < s.codeLen (s.eng e).bank)
    && !(s.wordPoison ((s.eng e).codeAddr (s.eng e).next)) && decide (s.startFault e (s.nextWord e) = none)
    && (s.eng e).entries.all (fun en => en.pc != (s.eng e).next)

theorem starts_of {s : State} {e op : Nat} (h : startsB s e op = true) : Starts s e op := by
  simp only [startsB, Bool.and_eq_true, beq_iff_eq, decide_eq_true_eq, Bool.not_eq_true', List.all_eq_true, bne_iff_ne] at h
  exact ⟨h.1.1.1.1.1, h.1.1.1.1.2, h.1.1.1.2, h.1.1.2, h.1.2, h.2⟩

/-- Each word of a list starts on engine 0. -/
theorem starts_all {l : List Nat} {regs : List (Nat × Nat)} (h : l.all (fun w => startsB (prog w regs) 0 (opOf w)) = true) :
    ∀ w ∈ l, Starts (prog w regs) 0 (opOf w) := fun w hw => starts_of (List.all_eq_true.mp h w hw)

/-- A carrier descriptor (R65): 120 GBd, 400 Gb/s, F20; a transmit or receive tributary (R68): 100 slots, channelised, carrier A, host
group 3 on lane 5, key slot 8, seal policy 0. -/
def carD : List Nat := [2 ^ 56 + 2 ^ 48, 240 * 2 ^ 48 + 4 * 2 ^ 40 + 2 ^ 26 + 100 * 2 ^ 16, 0, 0, 0, 0, 0, 0]
def tribD : List Nat := [2 * 2 ^ 56 + 2 ^ 48, 100 * 2 ^ 48, 3 * 2 ^ 59 + 5 * 2 ^ 54 + 2 ^ 50, 8 * 2 ^ 48, 0, 0, 0, 0]
def polD : List Nat := [3 * 2 ^ 56 + 2 ^ 48, 0, 0, 0, 0, 0, 0, 0]
def refD : List Nat := [4 * 2 ^ 56 + 2 ^ 48, 0, 0, 0, 0, 0, 0, 0]
def pdD : List Nat := [5 * 2 ^ 56 + 2 ^ 48, 2 ^ 32, 0, 0, 0, 0, 0, 0]
/-! ## Ill-formed operands (WellFormed) -/

theorem test_wf_spi_code : (Instr.spiUndefinedCommand 0x05).wf = false := by decide
theorem test_wf_critical_unit : (Instr.criticalStateError 0).wf = false := by decide
theorem test_wf_bring_up_diodes : (Instr.bringUp ⟨0, 0, true, [], [], List.replicate 11 0, []⟩).wf = false := by decide
theorem test_wf_flash_directory : (Instr.flashLoadEnd ⟨List.replicate 63 0, [[], [], [], []]⟩).wf = false := by decide
theorem test_wf_flash_images : (Instr.flashLoadEnd ⟨List.replicate 64 0, [[], [], []]⟩).wf = false := by decide
theorem test_wf_model_zones : (Instr.modelAdvance ⟨[], List.replicate 16 0, 0, List.replicate 12 none⟩).wf = false := by decide
theorem test_wf_second_inputs : (Instr.qualificationSecond ⟨[0, 0], 0⟩).wf = false := by decide
theorem test_wf_run_statistics : (Instr.calibrationRunEnd 0 ⟨[0], [], [], [], [], [], []⟩).wf = false := by decide
theorem test_wf_sample_bits : (Instr.hkaSample (List.replicate 129 true)).wf = false := by decide +kernel
theorem test_wf_codeword_levels : (Instr.rsCodeword 0 [] []).wf = false := by decide
theorem test_ill_formed_faults : faults (exec (.criticalStateError 0) State.reset) = true := by decide

/-! ## The block as a whole -/

/-- A command in front of an empty memory runs, and the reset state has the invariants that the statements keep. -/
theorem witness_step : next? (step { State.reset with pending := [.powerOnReset] }) (fun t => t.pending.isEmpty) = true := by decide +kernel
theorem witness_invariants : Memory.wf State.reset.mem.bytes = true ∧ State.reset.evq.recs.length ≤ 4096 ∧ State.reset.mgt.mail.length ≤ 16
    ∧ State.reset.mgt.seconds.length ≤ 8 ∧ (∀ q ∈ State.reset.tribList, q.2 < 1024)
    ∧ next? (step State.reset) (fun _ => true) = true := by decide +kernel

/-- RegisterWrites: a register whose polder is off, one that is on at the first and the last plain address, and an unassigned address. -/
theorem witness_register_writes :
    (let s := (up []).setPd 2 { st := .off }
     s.ready = true ∧ 0x80000 % 4 = 0 ∧ s.regOn 0x80000 = false)
    ∧ (∀ a ∈ [adr_GLB_SCRATCH, adr_HLN_LANE_EVENT 27], (up []).ready = true ∧ (up []).regOn a = true ∧ a ∈ plainRegs)
    ∧ ((up []).regOn 0x0FFC = true ∧ regFields 0x0FFC = []) := by decide +kernel

/-- R8: a bit written 1 in a W1C field is cleared, one written 0 stays; an RW field takes what is written. -/
theorem test_w1c : next? (exec (.registerWrite (BitVec.ofNat 32 (adr_HLN_LANE_EVENT 3)) 2)
    (up [(HLN_LANE_EVENT_LOSTSIG 3, 1), (HLN_LANE_EVENT_LOSTLOCK 3, 1)]))
    (fun t => t.get (HLN_LANE_EVENT_LOSTSIG 3) == 0 && t.get (HLN_LANE_EVENT_LOSTLOCK 3) == 1) = true := by decide +kernel
theorem test_scratch : next? (exec (.registerWrite (BitVec.ofNat 32 adr_GLB_SCRATCH) 0xDEADBEEF) (up []))
    (fun t => t.get GLB_SCRATCH_DATA == 0xDEADBEEF) = true := by decide +kernel

/-! ## Instructions of the engines -/

/-- ArithmeticResults and EventInstructions, EVWAIT: the words start. -/
theorem witness_data_words : ∀ w ∈ [word 0x10 1 15 0 (2 ^ 40 - 1), word 0x11 0 1 2 0xFFFFFF, word 0x12 0 1 2 (2 ^ 40 - 1)]
    ++ [0x13, 0x14, 0x15, 0x16, 0x17, 0x18, 0x19].map (fun op => word op 0 15 14 (13 * 2 ^ 36)) ++ [word 0x71 0 1 0 (0x10 * 2 ^ 32 + 1)],
    Starts (prog w []) 0 (opOf w) := starts_all (by decide +kernel)

/-- ControlTransfers: a branch at each condition, targets at the last word of the code, and a return to it. -/
theorem witness_control_words : ∀ w ∈ [word 0x00 0 0 0 0, word 0x01 0 0 0 0, word 0x02 0 0 0 0xFF, word 0x04 0 0 0 0xFF, word 0x05 0 0 0 0,
    word 0x06 0 0 0 0xFFFF] ++ (List.range 6).map (fun c => word 0x03 c 0 14 (13 * 2 ^ 36 + 0xFF)),
    Starts (prog w [(13, 2 ^ 64 - 1), (14, 1), (15, 0xFF)]) 0 (opOf w) := starts_all (by decide +kernel)
theorem witness_wait : (let en : Entry := { entry (word 0x06 0 0 0 5) 0 0 [] with waits := [.delay] }
    let s := State.flying (up []) en
    (s.eng 0).entries = [en] ∧ opOf en.word = 0x06 ∧ en.waits = [.delay] ∧ ∀ x ∈ (s.eng 0).entries, .delay ∈ x.waits → opOf x.word = 0x06) := by
  decide +kernel

/-- LoadAndStore at the first and the last word of the data area. -/
theorem witness_load_store : (∀ w ∈ [word 0x1A 0 1 2 0, word 0x1A 0 1 2 0xFF8, word 0x1B 0 1 2 0, word 0x1B 0 1 2 0xFF8],
    Starts (prog w [(2, 2112)]) 0 (opOf w))
    ∧ Assoc.get 0 (188 * 65536 + 264) (prog 0 []).mem.flips = 0 ∧ (prog 0 []).wordPoison (188 * 65536 + 264) = false :=
  ⟨starts_all (by decide +kernel), by decide +kernel, by decide +kernel⟩

/-- RegisterAndQueryInstructions, EventInstructions: in flight with the effect due. -/
theorem witness_register_words : ∀ w ∈ [word 0x1C 0 1 0 adr_GLB_SCRATCH, word 0x1D 1 1 2 adr_GLB_SCRATCH, word 0x26 0 1 0 (0x1000 * 2 ^ 24),
    word 0x42 0 15 0 0, word 0x70 0 0 1 0xFFFFFFFF],
    Takes (State.flying (up []) (entry w 0 0 [])) (opOf w) (0 : Fin 4) 0 (entry w 0 0 []) (State.flying (up []) (entry w 0 0 [])) :=
  taken_all (by decide +kernel)
theorem witness_rdreg_plain : (regFields adr_GLB_SCRATCH).all (fun r => r.acc != .rc) = true
    ∧ (State.flying (up []) (entry (word 0x1C 0 1 0 adr_GLB_SCRATCH) 0 0 [])).regOn adr_GLB_SCRATCH = true := by decide +kernel
theorem witness_evwait_timeout : (let en := entry (word 0x71 0 1 0 1) 0 0 []
    let s := State.flying (up []) en
    (s.eng 0).entries = [en] ∧ opOf en.word = 0x71 ∧ en.completed = false ∧ fieldOf en.word 0 32 ≠ 0
      ∧ (s.eng 0).entries.find? (fun x => opOf x.word == 0x71 && !x.completed) = some en
      ∧ (s.eng 0).entries.find? (fun x => x.pc == en.pc) = some en) := by decide +kernel

/-- A state in which a word starts behind an entry that has not completed. -/
def behind (w : Nat) (en : Entry) : State := (prog w []).setEng 0 { entries := [{ en with pc := 9 }] }

/-- Fences: with an entry of each kind ahead, one of them completed, and nothing in flight. HaltAndWait: a HALT behind an entry. -/
theorem witness_fences :
    Starts (behind (word 0x01 0 0 0 0) (entry (word 0x26 0 1 0 (0x1000 * 2 ^ 24)) 0 0 [])) 0 0x01 ∧
    Starts (prog (word 0x80 0 0 0 0) []) 0 0x80 ∧
    Starts (behind (word 0x80 0 0 0 0) { entry (word 0x26 0 1 0 (0x1000 * 2 ^ 24)) 0 0 [] with completed := true }) 0 0x80 ∧
    Starts (behind (word 0x80 0 0 0 0) (entry (word 0x26 0 1 0 (0x1000 * 2 ^ 24)) 0 0 [])) 0 0x80
    ∧ Starts (behind (word 0x81 0 0 0 (0x1000 * 2 ^ 24)) (entry (word 0x26 0 1 0 (0x1000 * 2 ^ 24)) 0 0 [])) 0 0x81
    ∧ Starts (behind (word 0x82 0 0 0 0) (entry (word 0x1C 0 1 0 adr_GLB_SCRATCH) 0 0 [])) 0 0x82
    ∧ (up []).ready = true ∧ (up []).regOn 0x20 = true
    ∧ (let h := entry (word 0x26 0 1 0 (0x1000 * 2 ^ 24)) 0 0 []
       h.completed = false ∧ isFence (opOf h.word) = false ∧ h.handle = some 0x1000 ∧ sameObject 0x1000 0x1000 = true
       ∧ namesHandle (opOf h.word) = true) :=
  ⟨starts_of (by decide +kernel), starts_of (by decide +kernel), starts_of (by decide +kernel), starts_of (by decide +kernel),
    starts_of (by decide +kernel), starts_of (by decide +kernel), by decide +kernel⟩

/-- R44: a shift by w[B][5:0], and a sum modulo 2^64. -/
theorem test_shl : next? (exec (.shl 0) (prog (word 0x18 0 1 2 (3 * 2 ^ 36)) [(2, 3), (3, 127)])) (fun t => (t.eng 0).reg 1 == 2 ^ 63) = true := by
  decide +kernel
theorem test_add : next? (exec (.add 0) (prog (word 0x13 0 1 2 (3 * 2 ^ 36)) [(2, 2 ^ 64 - 1), (3, 2)])) (fun t => (t.eng 0).reg 1 == 1) = true := by
  decide +kernel
/-- R45: MOVI without S zero-extends; w0 stays 0 (R42). -/
theorem test_movi : next? (exec (.movi 0) (prog (word 0x10 0 1 0 (2 ^ 40 - 1)) [])) (fun t => (t.eng 0).reg 1 == 2 ^ 40 - 1) = true := by
  decide +kernel
theorem test_movi_w0 : next? (exec (.movi 0) (prog (word 0x10 0 0 0 7) [])) (fun t => (t.eng 0).reg 0 == 0) = true := by decide +kernel
/-- R41: LT compares as signed numbers. -/
theorem test_br : next? (exec (.br 0) (prog (word 0x03 2 0 2 (3 * 2 ^ 36 + 0x20)) [(2, 2 ^ 64 - 1), (3, 0)])) (fun t => (t.eng 0).pc == 0x20) = true := by
  decide +kernel

/-! ## Faults, control and the program store -/

/-- InstructionFaults: an undefined opcode at the head of the code, and a fault record with one fault, with and without a START that stands. -/
theorem witness_faults :
    (let s := prog (word 0x07 0 0 0 0) []
     s.canStart 0 = true ∧ formatOfOp (opOf (s.nextWord 0)) = none ∧ (s.eng 0).next < s.codeLen (s.eng 0).bank
     ∧ s.wordPoison ((s.eng 0).codeAddr (s.eng 0).next) = false)
    ∧ (∀ st ∈ [0, 1], (let f : FaultNote := ⟨2 ^ 18 - 1, 7, 0x0807, 0⟩
       let s := (up [(SLU_ENG_STATUS_STATE 0, 5), (SLU_ENG_CTL_START 0, st)]).setEng 0 { faults := [f] }
       s.engState 0 = 5 ∧ (s.eng 0).entries = [] ∧ s.on (SLU_ENG_FLT0_VALID 0) = false ∧ f ∈ (s.eng 0).faults ∧ f.pc < 2 ^ 18
       ∧ s.on (SLU_ENG_CTL_START 0) = (st == 1) ∧ ∀ g ∈ (s.eng 0).faults, g = f ∨ f.pc < g.pc)) := by decide +kernel
/-- R56: an undefined opcode faults ILLEGAL. -/
theorem test_illegal : next? (exec (.undefinedOpcode 0) (prog (word 0x07 0 0 0 0) []))
    (fun t => t.engState 0 == 5 && (t.eng 0).faults == [⟨0, 1, 0x0801, 0⟩]) = true := by decide +kernel

/-- EngineControl: in each state, with a VALID bank and one that is not, with a record and without, in debug halt, and drained. -/
theorem witness_engine_control :
    (∀ st ∈ [0, 1, 2, 3, 4, 5], ∀ valid ∈ [0, 1], ∀ rec ∈ [0, 1], ∀ halt ∈ [0, 1],
      (let s := up [(SLU_ENG_STATUS_STATE 3, st), (SLU_LOAD_STATUS_VALID, valid), (SLU_ENG_FLT0_VALID 3, rec), (GLB_STATUS_DEBUG, halt)]
       s.ready = true ∧ s.regOn (0x80100 + 0x10 * 3) = true ∧ s.on GLB_STATUS_DEBUG = (halt == 1) ∧ s.engState 3 = st
         ∧ s.bit SLU_LOAD_STATUS_VALID 0 = (valid == 1) ∧ s.on (SLU_ENG_FLT0_VALID 3) = (rec == 1) ∧ (s.eng 3).entries = [])) := by decide +kernel
/-- The header and code of an image of one NOP in store bank 3, with its CRC. -/
def image (crc : Nat) : State :=
  (((up [(SLU_LOAD_STATUS_BUSY, 8)]).storeWord (191 * 65536) (0x524E4A4E * 2 ^ 32 + 0x10000) false).storeWord (191 * 65536 + 1) (2 ^ 32) false).storeWord
    (191 * 65536 + 3) (crc * 2 ^ 32) false

/-- ProgramStore: verification of an image whose header, CRC and words are right, of one whose CRC is not, GO for a free, a busy and a
locked bank, and the window at its last word. (The CRC is the IEEE 802.3 CRC-32 of the 128 bytes, computed apart from the model.) -/
theorem witness_verification :
    (let s := image 1792428117
     let w (i : Nat) : Nat := readWord s.mem.bytes (191 * 65536 + i)
     s.bit SLU_LOAD_STATUS_BUSY 3 = true ∧ fieldOf (w 0) 32 32 = 0x524E4A4E ∧ fieldOf (w 0) 16 16 = 1 ∧ fieldOf (w 0) 0 16 = 0
     ∧ fieldOf (w 1) 32 32 = 1 ∧ fieldOf (w 1) 0 32 = 0 ∧ fieldOf (w 2) 32 32 < 1 ∧ fieldOf (w 2) 0 32 = 0 ∧ fieldOf (w 3) 0 32 = 0
     ∧ w 4 = 0 ∧ w 5 = 0 ∧ w 6 = 0 ∧ w 7 = 0 ∧ crc32 (s.crcBytes 3 128) = fieldOf (w 3) 32 32
     ∧ ∀ i, i < 16 → s.wordPoison (191 * 65536 + i) = false) := by decide +kernel
theorem witness_bad_image : (image 0).bit SLU_LOAD_STATUS_BUSY 3 = true
    ∧ crc32 ((image 0).crcBytes 3 128) ≠ fieldOf (readWord (image 0).mem.bytes (191 * 65536 + 3)) 32 32 := by decide +kernel
theorem witness_go_and_window :
    (let s := up []
     s.ready = true ∧ s.regOn 0x80000 = true ∧ s.bit SLU_LOAD_STATUS_BUSY 3 = false ∧ s.bankLocked 3 = false
     ∧ s.regOn (0x01000000 + 4 * 524287) = true ∧ s.rst.flashLoading = false ∧ Assoc.get 0 (188 * 65536 + 262143) s.mem.flips = 0)
    ∧ (image 0).bit SLU_LOAD_STATUS_BUSY 3 = true ∧ (image 0).bankLocked 3 = false
    ∧ (let s := (up [(SLU_ENG_STATUS_STATE 0, 2)]).setEng 0 { bank := 3 }
       s.bit SLU_LOAD_STATUS_BUSY 3 = false ∧ s.bankLocked 3 = true ∧ s.rst.flashLoading = false)
    ∧ (let s : State := { up [] with rst := { flashLoading := true } }
       s.rst.flashLoading = true ∧ s.ready = true ∧ s.regOn 0x01000000 = true) := by decide +kernel

/-- R78: an image that passes every check becomes VALID; one whose CRC fails gets ERR and LAST_ERR 4. -/
theorem test_verify : next? (exec (.verificationEnd 3) (image 1792428117)) (fun t => t.bit SLU_LOAD_STATUS_VALID 3) = true := by decide +kernel
theorem test_verify_crc : next? (exec (.verificationEnd 3) (image 0))
    (fun t => t.bit SLU_LOAD_STATUS_ERR 3 && t.get SLU_LOAD_STATUS_LAST_ERR == 4) = true := by decide +kernel
/-- R76: the window at offset 4 holds bits [63:32]. -/
theorem test_window : next? (exec (.windowWrite 1 0x11223344) (up [])) (fun t => readWord t.mem.bytes (188 * 65536) == 0x11223344 * 2 ^ 32) = true := by
  decide +kernel
/-! ## Instructions on objects -/

/-- A word that names a handle, on a state with that word in flight. -/
def named (s : State) (op flags h arg : Nat) (desc : List Nat := []) : State :=
  State.flying s (entry (word op flags 1 0 (h * 2 ^ 24 + arg)) 0 0 desc)
/-- Its handle, as the statements name it. -/
def handle (op flags h arg : Nat) : Nat := namedHandle (word op flags 1 0 (h * 2 ^ 24 + arg)) 0

theorem takes_named (s : State) (op flags h arg : Nat) (desc : List Nat) (hop : opOf (word op flags 1 0 (h * 2 ^ 24 + arg)) = op)
    (hw : takesB (word op flags 1 0 (h * 2 ^ 24 + arg)) 0 = true) :
    Takes (named s op flags h arg desc) op (0 : Fin 4) 0 (entry (word op flags 1 0 (h * 2 ^ 24 + arg)) 0 0 desc)
      (named s op flags h arg desc) := by
  have := takes_flying s (word op flags 1 0 (h * 2 ^ 24 + arg)) 0 0 desc hw
  rw [hop] at this
  exact this

/-- Both directions of tributary 7 BOUND, a key and a policy, carrier A BOUND or ENABLED. -/
def bound7 (c : OState) : State :=
  let s := ((up []).setTrib 0 7 { ost := .bound, desc := tribD }).setTrib 1 7 { ost := .bound, desc := tribD }
  { s with carA := { ost := c, desc := carD }, policies := [(0, polD)], cip := { s.cip with keys := [(8, ⟨5, 1, 0, 0, 0, false, false⟩)] }, mtp := { s.mtp with lcs := 1 } }

/-- The words of the witnesses below carry their opcode, are legal and name their handle. -/
theorem words_named : (∀ q ∈ [(0x20, [0x1000, 0x2007, 0x2407, 0x2807, 0x303F]), (0x21, [0x1000, 0x1001, 0x2007, 0x2407, 0x2807]),
    (0x22, [0x1000, 0x1001, 0x2007, 0x2407, 0x2807]), (0x23, [0x1000, 0x1001, 0x2007, 0x2407, 0x2807, 0x3000]), (0x24, [0x1000, 0x2407, 0x2807]),
    (0x25, [0x2007, 0x2407, 0x2807]), (0x27, [0x6003]), (0x30, [0x7008]), (0x31, [0x2007, 0x2407, 0x2807]), (0x32, [0x2007, 0x2407, 0x2807]),
    (0x33, [0x7008]), (0x40, [0x4000]), (0x41, [0]), (0x50, [0x80BA, 0x80BB]), (0x51, [0x80BA]), (0x60, [0x5008])],
    ∀ h ∈ q.2, ∀ fl ∈ [0, 0x80], takesB (word q.1 fl 1 0 (h * 2 ^ 24)) 0 = true ∧ opOf (word q.1 fl 1 0 (h * 2 ^ 24)) = q.1
      ∧ (namesHandle q.1 = false ∨ handle q.1 fl h 0 = h))
    ∧ (∀ q ∈ [(0x22, 1, 0x2007, 0), (0x22, 1, 0x2407, 0), (0x22, 1, 0x2807, 0), (0x24, 0, 0x1000, 1), (0x24, 0, 0x2807, 5), (0x24, 0, 0x2407, 6),
        (0x25, 0, 0x2007, 1), (0x27, 0, 0x6003, 27), (0x27, 0, 0x6003, 5), (0x31, 0, 0x2007, 8)],
      takesB (word q.1 q.2.1 1 0 (q.2.2.1 * 2 ^ 24 + q.2.2.2)) 0 = true ∧ handle q.1 q.2.1 q.2.2.1 q.2.2.2 = q.2.2.1) := by decide +kernel

/-- BindAndUnbind: carrier A without and with EN, a policy, and tributary 7 by all three handles, unbound or bound. -/
theorem witness_bind :
    (let u := named (up []) 0x20 0 0x1000 0 carD
     (u.car 0).active = false ∧ u.carInUse 0 = false ∧ cdEn carD = false ∧ carFieldsOk carD = true)
    ∧ (let d := carD.set 0 (2 ^ 56 + 2 ^ 48 + 2 ^ 47)
       let u := named { up [] with mem := { allocs := [⟨186, ownCONN, hCarrier 0, 0, 1, 0⟩] } } 0x20 0 0x1000 0 d
       (u.car 0).active = false ∧ u.carInUse 0 = false ∧ cdEn d = true ∧ u.on GLB_STATUS_LIMITED = false
         ∧ (u.setCar 0 { u.car 0 with ost := .bound, desc := d }).carCheck 0 d = 0
         ∧ u.mem.allocs.any (fun a => a.role == ownCONN && a.obj == hCarrier 0) = true)
    ∧ (∀ h ∈ [0x2007, 0x2407, 0x2807], (let u := named (up []) 0x20 0 h 0 tribD
       (∀ d ∈ dirsOf h, (u.trib d 7).active = false) ∧ tdEn tribD = false ∧ tribFieldsOk tribD = true))
    ∧ (let u := named (up []) 0x20 0 0x303F 0 polD
       u.polUsed 63 = false ∧ polFieldsOk polD = true) := by decide +kernel
theorem witness_unbind :
    (∀ o ∈ [OState.bound, OState.unbound], (let u := named { up [] with carA := { ost := o, desc := carD } } 0x23 0 0x1000 0
       (u.car 0).ost = o ∧ u.carInUse 0 = false))
    ∧ (∀ h ∈ [0x2007, 0x2407, 0x2807], ∀ d ∈ dirsOf h, ((named (bound7 .bound) 0x23 0 h 0).trib d 7).active = false
        ∧ ((named (up []) 0x23 0 h 0).trib d 7).ost = .unbound)
    ∧ (named (bound7 .bound) 0x23 0 0x3000 0).polUsed 0 = false := by decide +kernel

/-- EnablePlacesAndRuns: carrier A BOUND with its connection memory placed, and ENABLED; tributary 7 ENABLED in both directions. -/
theorem witness_enable_carrier :
    (let u := named { bound7 .bound with mem := { allocs := [⟨186, ownCONN, hCarrier 0, 0, 1, 0⟩] } } 0x21 0 0x1000 0
     (u.car 0).ost = .bound ∧ u.on GLB_STATUS_LIMITED = false ∧ u.carCheck 0 (u.car 0).desc = 0
       ∧ u.mem.allocs.any (fun a => a.role == ownCONN && a.obj == hCarrier 0) = true)
    ∧ ((named (bound7 .enabled) 0x21 0 0x1000 0).car 0).ost = .enabled ∧ ((named (bound7 .enabled) 0x21 0 0x1000 0).car 0).enabling = false
    ∧ (let u := named (((up []).setTrib 0 7 { ost := .enabled, desc := tribD }).setTrib 1 7 { ost := .enabled, desc := tribD }) 0x21 0 0x2007 0
       (∀ d ∈ dirsOf 0x2007, (u.trib d 7).ost = .bound ∨ (u.trib d 7).ost = .enabled)
         ∧ (enableTribs 7 ((dirsOf 0x2007).filter (fun d => (u.trib d 7).ost == .bound)) u).1 = 0) := by decide +kernel

/-- Two areas fit one after the other: no bank FREE, and each owner has the room. -/
theorem two_areas_fit {u : State} {obj a b k l : Nat} (hf : u.freeBanks = []) (h1 : k ≤ u.roomFor a) (h2 : l ≤ u.roomFor b)
    (ha : a < 256) (hab : b ≠ a) : (placeAll obj [(a, k), (b, l)] u).isSome = true := by
  obtain ⟨t, ht, hr⟩ := State.place_room (obj := obj) h1 hf ha hab
  obtain ⟨new, _, hu⟩ := State.place_some (obj := obj) (Nat.le_trans h2 hr)
  simp only [placeAll, ht, hu, Option.isSome_some]

/-- Each of banks 0 to 186 is used; tributary 7 is to be enabled in one direction. -/
def crowded (h : Nat) : State :=
  let s := bound7 .enabled
  named { s with flds := s.flds ++ (List.range 187).map (fun k =>
    ((MEM_BANK_STATUS_OWNER k).key, if k < 48 then ownRATE else if k < 96 then ownSEAL else if k < 100 then ownLOCK else ownHOST)) } 0x21 0 h 0

theorem crowded_room : (let u := crowded 0x2407
    u.freeBanks = [] ∧ 3145728 ≤ u.roomFor ownRATE ∧ 3145728 ≤ u.roomFor ownSEAL
      ∧ lockWords (u.ownUnits (u.trib 1 7).desc) ≤ u.roomFor ownLOCK) := by decide +kernel
theorem witness_enable_trib :
    (let u := crowded 0x2407
     dirsOf 0x2407 = [0] ∧ (u.trib 0 7).ost = .bound ∧ u.tribCheck 0 7 (u.trib 0 7).desc = 0)
    ∧ (let u := crowded 0x2807
       dirsOf 0x2807 = [1] ∧ (u.trib 1 7).ost = .bound ∧ u.tribCheck 1 7 (u.trib 1 7).desc = 0 ∧ u.tribGroup 7 = none) := by decide +kernel

theorem witness_enable_tx : (let u := crowded 0x2407
    placeAll (hTrib 0 7) (u.tribWords 0 7 (u.trib 0 7).desc) u).isSome = true := by
  obtain ⟨h4, h5, h6, _⟩ := crowded_room
  exact two_areas_fit h4 (Nat.le_trans (Nat.le_of_lt (Fin.isLt _)) h5) (Nat.le_trans (Nat.le_of_lt (Fin.isLt _)) h6) (by decide) (by decide)
theorem witness_enable_rx : (let u := crowded 0x2807
    placeAll (hTrib 1 7) (u.tribWords 1 7 (u.trib 1 7).desc) u).isSome = true := by
  obtain ⟨h4, h5, _, h6⟩ := crowded_room
  have e : (crowded 0x2807).tribWords 1 7 ((crowded 0x2807).trib 1 7).desc
      = [(ownLOCK, lockWords ((crowded 0x2807).ownUnits ((crowded 0x2807).trib 1 7).desc)),
        (ownRATE, (Config.rateWords 1 ((crowded 0x2807).tribSlots ((crowded 0x2807).trib 1 7).desc)).val)] := by
    simp only [State.tribWords, witness_enable_trib.2.2.2.2]
    rfl
  show (placeAll _ (State.tribWords _ _ _ _) _).isSome = true
  rw [e]
  exact two_areas_fit (u := crowded 0x2807) h4 h6 (Nat.le_trans (Nat.le_of_lt (Fin.isLt _)) h5) (by decide) (by decide)

/-- BindAndUnbind with EN 1, EnablePlacesAndRuns: a direction that passes the checks and whose words can be placed is enabled. -/
theorem enabled_of_placed {s : State} {d n : Nat} (hc : s.tribCheck d n (s.trib d n).desc = 0)
    (hp : (placeAll (hTrib d n) (s.tribWords d n (s.trib d n).desc) s).isSome = true) : (enableTribs n [d] s).1 = 0 := by
  have one (r : Nat × State) (h : r.1 = 0) :
      (match r with | (0, s') => ((0, s') : Nat × State) | (code, _) => (code, s)).1 = 0 := by
    obtain ⟨a, b⟩ := r
    cases h
    rfl
  refine one (s.enableTrib d n) ?_
  unfold State.enableTrib
  simp only [hc, ne_eq, not_true_eq_false, if_false]
  split
  · rfl
  · rename_i h
    rw [h] at hp
    exact absurd hp (by simp)
/-- BIND with EN 1 of the transmit direction of tributary 7, with each of banks 0 to 186 used. -/
def binding : State := { crowded 0x2407 with tribs := [] }
def tribEn : List Nat := tribD.set 0 (2 * 2 ^ 56 + 2 ^ 48 + 2 ^ 47)
theorem witness_bind_en : (binding.trib 0 7).active = false ∧ tdEn tribEn = true ∧ dirsOf 0x2407 = [0]
    ∧ (enableTribs 7 [0] (binding.holdDesc 0 7 tribEn)).1 = 0 := by
  have hr : (let u := binding.holdDesc 0 7 tribEn
      u.freeBanks = [] ∧ 3145728 ≤ u.roomFor ownRATE ∧ 3145728 ≤ u.roomFor ownSEAL ∧ u.tribCheck 0 7 (u.trib 0 7).desc = 0) := by decide +kernel
  obtain ⟨h1, h2, h3, h4⟩ := hr
  refine ⟨by decide +kernel, by decide +kernel, by decide +kernel, enabled_of_placed h4 ?_⟩
  generalize binding.holdDesc 0 7 tribEn = u at *
  exact two_areas_fit h1 (Nat.le_trans (Nat.le_of_lt (Fin.isLt _)) h2) (Nat.le_trans (Nat.le_of_lt (Fin.isLt _)) h3) (by decide) (by decide)

/-- DisableDrains: tributary 7 sending with a seal open, and carrier B ENABLED. -/
def sending7 : State :=
  let s := ((up []).setTrib 0 7 { ost := .enabled, desc := tribD, tx := { opened := some ⟨8, 5, 0, 1, 1, 0, 0, 78, 3, 0, false, false⟩ } })
  { s with carA := { ost := .enabled, desc := carD, tx := { running := true, page := [(0, 2 ^ 31 + 7 * 2 ^ 15)] } }, carB := { ost := .enabled, desc := carD },
           policies := [(0, polD)], cip := { s.cip with keys := [(8, ⟨5, 1, 0, 0, 0, false, false⟩)] } }
theorem witness_disable :
    (let u := named sending7 0x22 0 0x2407 0
     bitOf (word 0x22 0 1 0 (0x2407 * 2 ^ 24)) 48 = 0 ∧ dirsOf 0x2407 = [0] ∧ (u.trib 0 7).ost = .enabled ∧ (u.trib 0 7).stop ≠ 3
      ∧ (u.trib 0 7).tx.removing = false ∧ (u.trib 0 7).tx.opened.isSome = true ∧ u.tribSends 7 = true)
    ∧ (let u := named (sending7.setTrib 0 7 { ost := .enabled, desc := tribD }) 0x22 0 0x2407 0
       (u.trib 0 7).tx.opened = none ∧ (u.trib 0 7).stop ≠ 3 ∧ (u.trib 0 7).tx.removing = false ∧ (u.trib 0 7).ost = .enabled)
    ∧ bitOf (word 0x22 1 1 0 (0x2407 * 2 ^ 24)) 48 = 1 ∧ ((named sending7 0x22 1 0x2407 0).trib 0 7).active = true
    ∧ (∀ fl ∈ [0, 1], ∀ sl ∈ [[], [(⟨8, 5, 0, 1, 0, 0, 3, 3, 0, [], 0, [], .waiting, 0, 0, true, false, 0⟩ : RxSeal)]],
        (let u := named ((up []).setTrib 1 7 { ost := .enabled, desc := tribD, rx := { seals := sl } }) 0x22 fl 0x2807 0
         dirsOf 0x2807 = [1] ∧ (u.trib 1 7).ost = .enabled ∧ (u.trib 1 7).stop ≠ 3 ∧ (u.trib 1 7).rx.seals = sl ∧ (u.trib 1 7).rx.zeroing = []
           ∧ bitOf (word 0x22 fl 1 0 (0x2807 * 2 ^ 24)) 48 = fl))
    ∧ (let u := named (((up []).setTrib 0 7 { ost := .enabled, desc := tribD }).setTrib 1 7 { ost := .enabled, desc := tribD }) 0x22 0 0x2007 0
       dirsOf 0x2007 = [0, 1] ∧ (u.trib 0 7).ost = .enabled ∧ (u.trib 1 7).ost = .enabled)
    ∧ ((named sending7 0x22 0 0x1001 0).car 1).ost = .enabled ∧ (named sending7 0x22 0 0x1001 0).mem.flips = []
    ∧ ((named (bound7 .bound) 0x22 0 0x1000 0).car 0).ost = .bound
    ∧ (∀ d ∈ dirsOf 0x2007, ((named (bound7 .bound) 0x22 0 0x2007 0).trib d 7).ost = .bound) := by decide +kernel

/-- RefusalsReported: the reasons hold, with NF 0 on a running engine. -/
theorem witness_refusals :
    bitOf (word 0x21 0 1 0 (0x1001 * 2 ^ 24)) 55 = 0
    ∧ ((named (up []) 0x21 0 0x1001 0).car 1).ost = .unbound ∧ (named (up []) 0x21 0 0x1001 0).engState 0 = 2
    ∧ ((named sending7 0x23 0 0x1001 0).car 1).active = true
    ∧ argOf (word 0x24 0 1 0 (0x2407 * 2 ^ 24 + 6)) = 6 ∧ handle 0x24 0 0x2407 6 = 0x2407
    ∧ (∀ d ∈ dirsOf 0x2007, ((named sending7 0x32 0 0x2007 0).trib d 7).stop ≠ 3 ∧ (named sending7 0x32 0 0x2007 0).on (CIP_T_KEY_STV d 7) = false)
    ∧ ((named (up []) 0x41 0 0 0).carA.ost ≠ .enabled ∧ (named (up []) 0x41 0 0 0).carB.ost ≠ .enabled)
    ∧ 187 ≤ handle 0x50 0 0x80BB 0 % 0x1000 ∧ (named (up []) 0x27 0 0x6003 0).grpDesc 3 = none := by decide +kernel

/-- ProtectCommands: a protected receive tributary, BOUND and ENABLED, and each command code. -/
def protD : List Nat := tribD.set 1 (100 * 2 ^ 48 + 2 ^ 38)
theorem witness_protect : ∀ code ∈ [0, 1, 2, 3, 4, 5], ∀ o ∈ [OState.bound, OState.enabled],
    (let w := word 0x24 0 1 0 (0x2807 * 2 ^ 24 + code)
     let s := (up [(FRM_C_STATUS_SF 0, 0), (FRM_C_STATUS_SF 1, 0), (FRM_C_STATUS_SD 0, 0), (FRM_C_STATUS_SD 1, 0), (pgCMD 7, 2)]).setTrib 1 7
       { ost := o, desc := protD.set 1 (100 * 2 ^ 48 + 2 ^ 38 + 2 ^ 37), rx := { copyA := { slots := 100 }, copyB := { slots := 100 } } }
     let u := named s 0x24 0 0x2807 code
     opOf w = 0x24 ∧ argOf w = code ∧ namedHandle w 0 = 0x2807 ∧ dirsOf 0x2807 = [1] ∧ tdTprot (u.trib 1 7).desc = 1
       ∧ (u.trib 1 7).active = (o == .enabled) ∧ u.pgActive 7 = (o == .enabled) ∧ u.copyLevel 7 0 = 0 ∧ u.copyLevel 7 1 = 0
       ∧ (u.prot 7).enteredA = 0 ∧ (u.prot 7).enteredB = 0 ∧ 2 ≤ u.get (pgCMD 7) ∧ u.pgRevert 7 = true) := by decide +kernel
theorem witness_protect_others : (let u := named { up [] with carA := { ost := .enabled, desc := carD.set 4 (2 ^ 60 + 2 ^ 59) } } 0x24 0 0x1000 1
     cdCprot (u.car 0).desc ≠ 0)
    ∧ tdTprot ((named ((up []).setTrib 0 7 { ost := .enabled, desc := protD }) 0x24 0 0x2407 0).trib 0 7).desc = 1 := by decide +kernel

/-- PinAndRelane: a group of tributary 7 moves from lane 5 to the last lane that its one lane can take. -/
theorem witness_relane :
    (let w := word 0x27 0 1 0 (0x6003 * 2 ^ 24 + 27)
     let u := named (bound7 .bound) 0x27 0 0x6003 27
     opOf w = 0x27 ∧ namedHandle w 0 = 0x6003 ∧ argOf w % 32 = 27 ∧ u.grpDesc 3 = some tribD ∧ 27 + tdHlanes tribD ≤ 28 ∧ 27 ≠ tdHlane0 tribD
       ∧ u.lanesUsed 3 (lanesOf (withHlane0 tribD 27)) = false ∧ u.grpActive 3 = false
       ∧ 5 = tdHlane0 tribD ∧ u.lanesUsed 3 (lanesOf (withHlane0 tribD 5)) = false ∧ u.moveStands 7 = false)
    ∧ (let s : State := { up [] with carA := { tx := { page := [(0, 2 ^ 31 + 7 * 2 ^ 15)], standby := [(1, 2 ^ 31 + 7 * 2 ^ 15)] } } }
       (named s 0x25 0 0x2407 1).moveStands 7 = true ∧ bitOf (word 0x25 0 1 0 (0x2407 * 2 ^ 24 + 1)) 0 = 1 ∧ 0 ∈ dirsOf 0x2407) := by decide +kernel

/-- KeyInstructions: a queued unwrap that MGT serves, a slot to stage, a staged key of a transmit and of a receive tributary, a slot no
tributary uses. -/
theorem witness_keys :
    (let s := { up [] with mgt := { mail := [], unwraps := [⟨0, 0, 9, 0, []⟩] } }
     s.mgt.unwraps = ⟨0, 0, 9, 0, []⟩ :: [] ∧ s.mgtServes = true)
    ∧ (∀ h ∈ [0x2007, 0x2407, 0x2807], (let w := word 0x31 0 1 0 (h * 2 ^ 24 + 8)
       opOf w = 0x31 ∧ argOf w % 2048 = 8 ∧ namedHandle w 0 = h
       ∧ ∀ d ∈ dirsOf h, (named (bound7 .bound) 0x31 0 h 8).stageCheck d 7 8 = 0))
    ∧ (∀ h ∈ [0x2407, 0x2807, 0x2007], (let u := named (State.puts sending7 [(CIP_T_KEY_STV 0 7, 1), (CIP_T_KEY_STV 1 7, 1)]) 0x32 0 h 0
       (0 ∈ dirsOf h ↔ h ≠ 0x2807) ∧ ∀ d ∈ dirsOf h, (u.trib d 7).stop ≠ 3 ∧ u.on (CIP_T_KEY_STV d 7) = true))
    ∧ (let u := named (bound7 .bound) 0x33 0 0x7008 0
       handle 0x33 0 0x7008 0 % 0x1000 = 8 ∧ u.keyCurrent 8 = false ∧ u.keyStaged 8 = false ∧ (u.key 8).isSome = true) := by decide +kernel

/-- TimingMemoryPower: a consistent reference set, a carrier for REALIGN and the boundary that ends it, a polder that is needed and one that
must change, a FREE, a held and a host bank, and a test of a bank with and without one under way. -/
theorem witness_timing_memory_power :
    (let d := ((refD.set 1 (0x1FFF * 2 ^ 48)).set 2 (2 ^ 48)).set 3 (1 * 2 ^ 52 + 2 * 2 ^ 40)
     refFieldsOk d = true ∧ rsSoft d < rsHard d ∧ (∀ q, q < 4 → rsRank d q = 15 ∨ freqOk (rsFreq d q) = true))
    ∧ (named sending7 0x41 0 0 0).carA.ost = .enabled
    ∧ (let en := { entry (word 0x41 0 1 0 0) 0 0 [] with waits := [.realign] }
       let s := { State.flying (up []) en with frameClk := { runs := true } }
       (s.eng 0).entries = [en] ∧ opOf en.word = 0x41 ∧ en.waits = [.realign] ∧ s.frameClk.runs = true ∧ s.frameClk.fnum = 0
         ∧ s.frameClk.boundaryDone = false ∧ s.carA.enabling = false ∧ s.carB.enabling = false)
    ∧ (let u := named sending7 0x60 0 0x5008 0 pdD
       u.powerCheck 8 pdD = 0 ∧ u.needed 8 = true)
    ∧ (∀ o ∈ [0, 8, 3], (let u := named (up [(MEM_BANK_STATUS_OWNER 186, o)]) 0x50 0 0x80BA 0
       u.owner 186 = o ∧ u.on (MEM_BANK_STATUS_RETIRED 186) = false ∧ u.on (MEM_BANK_STATUS_RETPEND 186) = false
         ∧ (u.bankOwned 186 = false) ∧ u.mtp.log.length + u.mem.log.length < 256 ∧ handle 0x50 0 0x80BA 0 % 0x1000 = 186))
    ∧ (let u := named (up []) 0x51 0 0x80BA 0
       u.on (MEM_BANK_STATUS_RETIRED 186) = false ∧ ∀ x ∈ u.mem.tests, x.bank ≠ 186)
    ∧ (named { up [] with mem := { tests := [⟨186, 0, 65535, false, true, false⟩] } } 0x51 0 0x80BA 0).mem.tests.any (fun x => x.bank == 186) = true := by
  decide +kernel
/-- POWER: a polder in each state and the state that its descriptor chooses. -/
def powering (st : PState) : State := named ((up []).setPd 12 { st := st, dwelled := true }) 0x60 0 0x500C 0
def pdOf (hold ltol : Nat) : List Nat := [5 * 2 ^ 56 + 2 ^ 48, ltol * 2 ^ 32 + hold * 2 ^ 30, 0, 0, 0, 0, 0, 0]
theorem witness_power : ∀ st ∈ [PState.on, .ret, .off], ∀ q ∈ [(pdOf 1 0, 0), (pdOf 2 (2 ^ 32 - 1), 1), (pdOf 0 (2 ^ 32 - 1), 2)],
    (let u := powering st
     u.powerCheck 12 q.1 = 0 ∧ u.needed 12 = false ∧ (u.applyPolder 12 q.1).needed 12 = false ∧ (u.pd 12).st = st
       ∧ (u.applyPolder 12 q.1).choose 12 = q.2 ∧ u.barred 12 = false) := by decide +kernel

/-! ## Host lanes and groups -/

/-- LaneStates: each state a lane leaves, with the measurements that take it out at their limits. -/
theorem witness_lane_states :
    (∀ k ∈ [0, 1, 2, 3], (up [(HLN_LANE_STATUS_STATE 27, k)]).laneState 27 = k)
    ∧ (let m : LaneMeas := ⟨true, 120, 0, 0, 0, 0⟩
       let s := up [(HLN_LANE_STATUS_STATE 27, 2), (HLN_THRESH_LOCK_SNR, 120)]
       m.cdr = true ∧ s.get HLN_THRESH_LOCK_SNR ≤ m.snr.toNat)
    ∧ (let m : LaneMeas := ⟨true, 119, 0, 0, 0, 0⟩
       m.snr.toNat < (up [(HLN_THRESH_UNLOCK_SNR, 120)]).get HLN_THRESH_UNLOCK_SNR ∧ m.cdr = true
         ∧ m.snr.toNat < (up [(HLN_THRESH_LOCK_SNR, 120)]).get HLN_THRESH_LOCK_SNR
         ∧ (up [(HLN_THRESH_UNLOCK_SNR, 119)]).get HLN_THRESH_UNLOCK_SNR ≤ m.snr.toNat)
    ∧ (let s := up []
       s.ready = true ∧ s.regOn (0x100000 + 0x40 * 27) = true) := by decide +kernel
/-- R115: a lane that locks is LOCKED; R139: PRE and POST above their limits hold the limits. -/
theorem test_lane_lock : next? (exec (.laneLock 27 ⟨true, 255, 0, 0, 0, 0⟩) (up [(HLN_LANE_STATUS_STATE 27, 2)])) (fun t => t.laneState 27 == 3) = true := by
  decide +kernel
theorem test_txeq : next? (exec (.txeqWrite 27 0xFFFF) (up [])) (fun t => t.get (HLN_LANE_TXEQ_PRE 27) == 20 && t.get (HLN_LANE_TXEQ_POST 27) == 30) = true := by
  decide +kernel

/-- A host group of two lanes, 5 and 6, that a receive and a transmit tributary use, in a state, with both lanes LOCKED. -/
def pairD (client : Nat) : List Nat := [2 * 2 ^ 56 + 2 ^ 48, 100 * 2 ^ 48 + client * 2 ^ 44, 3 * 2 ^ 59 + 5 * 2 ^ 54 + 2 * 2 ^ 50, 8 * 2 ^ 48, 0, 0, 0, 0]
def group3 (client : Nat) (l : List (Fld × Nat)) : State :=
  let s := up ([(HLN_LANE_STATUS_STATE 5, 3), (HLN_LANE_STATUS_STATE 6, 3)] ++ l)
  { s with tribs := [(14, { ost := .enabled, desc := pairD client }), (15, { ost := .enabled, desc := pairD client })],
           lanes := [(5, { logical := 1, cands := [⟨263, 3, 1⟩] }), (6, { markerLock := true, missed := 4 })] }

/-- MarkerLocks: the last lock of a group of either format in ALIGN, with and without a candidate, and a lock lost in UP. -/
theorem witness_marker_locks : ∀ f ∈ [0, 1],
    (let s := group3 (2 * f) [(HLN_GRP_STATUS_STATE 3, 2), (HLN_GRP_STATUS_FORMAT 3, f)]
     s.laneGrp 5 = some 3 ∧ s.grpActive 3 = true ∧ s.jtagHold = false ∧ (∀ x ∈ s.grpLanes 3, s.laneLocked x = true) ∧ 5 ∈ s.grpLanes 3
       ∧ s.get (HLN_GRP_STATUS_STATE 3) = 2 ∧ (∀ x ∈ s.grpLanes 3, x ≠ 5 → (s.lane x).markerLock = true)
       ∧ s.get (HLN_GRP_STATUS_FORMAT 3) = f ∧ (s.lane 5).cands.find? (fun c => decide (3 ≤ c.hits)) = some ⟨263, 3, 1⟩
       ∧ (s.lane 5).markerLock = false ∧ (s.lane 5).missed < 4 ∧ s.laneGrp 0 = none ∧ (∀ c ∈ (s.lane 6).cands, c.hits < 3))
    ∧ (let s := group3 (2 * f) [(HLN_GRP_STATUS_STATE 3, 3), (HLN_GRP_STATUS_FORMAT 3, f)]
       s.laneGrp 6 = some 3 ∧ s.get (HLN_GRP_STATUS_STATE 3) = 3 ∧ (s.lane 6).markerLock = true ∧ 4 ≤ (s.lane 6).missed
         ∧ (∀ x ∈ s.laneGrps 6, x = 3 ∨ s.grpActive x = false)) := by decide +kernel
/-- R125: a skew of 21,250 is allowed, one more is not. -/
theorem test_skew : [(21250, 3), (21251, 2)].all (fun p => next? (exec (.markerLock 5 1 p.1) (group3 0 [(HLN_GRP_STATUS_STATE 3, 2)]))
    (fun t => t.get (HLN_GRP_STATUS_STATE 3) == p.2)) = true := by decide +kernel

/-- HostReceive: a group of either format in each state with a codeword's 2,720 levels, and a cell at a marker and inside a period whose
bits come from an uncorrectable codeword, whose HEC fails, or which is a good DATA cell of the tributary's channel. -/
theorem witness_host_receive :
    (∀ f ∈ [0, 2], ∀ k ∈ [1, 2, 3], (let s := group3 f [(HLN_GRP_STATUS_STATE 3, k), (HLN_GRP_STATUS_FORMAT 3, f)]
       s.laneGrp 5 = some 3 ∧ s.get (HLN_GRP_STATUS_STATE 3) = k ∧ s.get (HLN_GRP_STATUS_FORMAT 3) = f
         ∧ (List.replicate 2570 (0 : Fin 4)).length = 2570 ∧ (List.replicate 150 (0 : Fin 4)).length = 150))
    ∧ (∀ k ∈ [0, 1, 1284], ∀ unc ∈ [false, true], (let g := group3 0 [(HLN_GRP_STATUS_STATE 3, 3), (HLN_GRP_STATUS_FORMAT 3, 0)]
       let hec := Client.hec [0, 0, 0]
       let s := g.setLane 6 { markerLock := true, sinceMark := k, bits :=
         (List.replicate 24 (false, unc)) ++ ((List.range 8).map (fun i => (bitOf hec (7 - i) == 1, unc))) ++ List.replicate 1024 (false, unc) }
       (s.grpLanes 3).find? (fun x => (s.lane x).logical == (s.group 3).rxTurn) = some 6 ∧ s.get (HLN_GRP_STATUS_STATE 3) = 3
         ∧ s.get (HLN_GRP_STATUS_FORMAT 3) = 0 ∧ 1056 ≤ (s.lane 6).bits.length ∧ (s.lane 6).sinceMark = k
         ∧ ((s.lane 6).bits.take 1056).any (fun b => b.2) = unc
         ∧ (let head := natBE ((bytesOfBits (((s.lane 6).bits.take 1056).map (fun b => b.1))).take 4)
            fieldOf head 0 8 = hec ∧ fieldOf head 30 2 = 0 ∧ fieldOf head 20 10 = 0)
         ∧ (s.grpRunning 0 3).find? (fun n => tdChid (s.trib 0 n).desc == 0) = some 7 ∧ (s.trib 0 7).tx.buf.length < 64 * 129))
    ∧ (let s : State := { group3 0 [] with carA := { ost := .enabled, desc := carD } }
       (s.trib 0 7).tx.fill = .client ∧ s.txCarried 7 = true) := by decide +kernel

/-- HostSends: a group that sends, of either format, with its lanes' quad on and not, and one that does not send. -/
theorem witness_host_sends : (∀ f ∈ [0, 2], (let s := { group3 f [] with carA := { everEnabled := true } }
    s.htxOn 3 = true ∧ s.grpDesc 3 = some (pairD f) ∧ (∀ n ∈ s.grpRunning 1 3, (s.trib 1 n).ost ≠ .draining)
      ∧ tdEthernet (pairD f) = (f == 2) ∧ s.pdOn (hlnPolder 5) = true ∧ (s.setPd (hlnPolder 5) { st := .off }).pdOn (hlnPolder 5) = false))
    ∧ (up []).htxOn 3 = false := by decide +kernel

/-- TestPatterns: a lane that no group takes and one that a group takes; a checker that runs, in and out of sync, one level from sync, from
its loss, and from the counters' end; a level that is expected and one that is not. -/
theorem witness_test_patterns :
    (let s := group3 0 []
     s.ready = true ∧ s.regOn (0x100018 + 0x40 * 0) = true ∧ s.laneTaken 0 = false ∧ s.get (HLN_LANE_PRBS_CHKPAT 0) < 8
       ∧ s.get (HLN_LANE_PRBS_CHKEN 0) < 2 ∧ s.regOn (0x100018 + 0x40 * 5) = true ∧ s.laneTaken 5 = true)
    ∧ (∀ sync ∈ [0, 1], ∀ run ∈ [0, 1023], ∀ sat ∈ [0, 1], ∀ n ∈ [62, 63],
       (let g := up [(HLN_LANE_PRBS_CHKEN 27, 1), (HLN_LANE_STATUS_STATE 27, 3), (HLN_LANE_STATUS_PRBSSYNC 27, sync), (HLN_LANE_PRBS_SAT 27, sat),
         (HLN_LANE_BITHI_COUNT 27, 0xFFFF), (HLN_LANE_BITLO_COUNT 27, 2 ^ 32 - 3 + sync)]
        let s := g.setLane 27 { chk := { reg := 1, seen := 16, run := run, n := 2000, errs := List.replicate n 1999 } }
        s.prbsRuns 27 = true ∧ s.on (HLN_LANE_STATUS_PRBSSYNC 27) = (sync == 1) ∧ s.on (HLN_LANE_PRBS_SAT 27) = (sat == 1)
          ∧ s.get (HLN_LANE_BITHI_COUNT 27) * 2 ^ 32 + s.get (HLN_LANE_BITLO_COUNT 27) = 2 ^ 48 - 3 + sync
          ∧ (s.lane 27).chk.run = run ∧ 16 ≤ (s.lane 27).chk.seen ∧ (s.lane 27).chk.errs.length = n
          ∧ (∀ v : Fin 4, ∃ w : Fin 4, Client.levelsOf (s.demodulate 27 [w.val]).1 = [v.val])))
    ∧ (up []).prbsRuns 27 = false := by decide +kernel

/-- LaneRegisterWrites: both sides of R142, and equality. -/
theorem witness_lane_writes : (let s := up []
    s.ready = true ∧ s.regOn 0x102004 = true ∧ s.regOn (0x100014 + 0x40 * 27) = true)
    ∧ fieldOf 0x7878 8 8 ≤ fieldOf 0x7878 0 8 ∧ fieldOf 0x7877 0 8 < fieldOf 0x7877 8 8 := by decide +kernel

/-! ## Tributaries and the cipher -/

/-- FrameClock: before it runs, frame 255, frame 0 with the boundary due and taken, and inside a superframe. -/
theorem witness_frame_clock : (∀ b ∈ [false, true], (let s := { up [] with frameClk := ⟨true, 2 ^ 32 - 1, 0, b⟩ }
    s.frameClk.runs = true ∧ s.frameClk.fnum = 0 ∧ s.frameClk.boundaryDone = b ∧ s.carA.enabling = false ∧ s.carB.enabling = false
      ∧ s.mem.flips = []))
    ∧ ({ up [] with frameClk := ⟨true, 0, 255, true⟩ }).frameClk.fnum ≠ 0 ∧ (up []).frameClk.runs = false := by decide +kernel
/-- R144: 256 frames to a superframe. -/
theorem test_frame_wraps : next? (exec .transmitFrame { up [] with frameClk := ⟨true, 2 ^ 32 - 1, 255, true⟩ })
    (fun t => t.frameClk == ⟨true, 0, 0, false⟩) = true := by decide +kernel

/-- SealFollowsSeal: the last seal but one under the key and of the counter, one that announced a roll, in a tributary that drains, and in
one that is STOPPED. -/
def sealed (nkph : Nat) (drain : Bool) (stop : Nat) : State :=
  let s := (up [(CIP_T_KEY_CURRENT 0 7, 8), (CIP_T_KEY_STAGED 0 7, 9), (CIP_T_KEY_STV 0 7, 1), (CIP_T_CTRHI_CTR 0 7, 2 ^ 24 - 1),
      (CIP_T_CTRLO_CTR 0 7, 2 ^ 32 - 2)]).setTrib 0 7
    { ost := .enabled, desc := tribD, stop := stop, tx := { opened := some ⟨8, 5, 0, 1, 1, 0, nkph, 78, 78, 0, false, false⟩, drain := drain } }
  (s.setKey 8 ⟨5, 1, 0, 0, 2 ^ 40 - 1, true, false⟩).setKey 9 ⟨6, 1, 0, 0, 0, false, false⟩
def lastSeal : State := sealed 0 false 0
theorem witness_seal_follows : (∀ nkph ∈ [0, 1], ∀ drain ∈ [false, true], ∀ stop ∈ [0, 1], (let s := sealed nkph drain stop
    let x := s.trib 0 7
    let sl : TxSeal := ⟨8, 5, 0, 1, 1, 0, nkph, 78, 78, 0, false, false⟩
    let slot := if nkph = 1 then s.get (CIP_T_KEY_STAGED 0 7) else s.get (CIP_T_KEY_CURRENT 0 7)
    x.tx.opened = some sl ∧ sl.b ≤ sl.unit ∧ sl.void = false ∧ x.stop = stop ∧ x.tx.ctrEnd = false ∧ x.tx.drain = drain
      ∧ (sl.nkph = sl.kph ↔ nkph = 0) ∧ s.on (CIP_T_KEY_STV 0 7) = true
      ∧ s.key slot = some (if nkph = 1 then ⟨6, 1, 0, 0, 0, false, false⟩ else ⟨5, 1, 0, 0, 2 ^ 40 - 1, true, false⟩)
      ∧ s.ctr 0 7 = 2 ^ 56 - 2 ∧ slot < 2048 ∧ s.get (CIP_T_KEY_KPH 0 7) < 2)) := by decide +kernel

/-- DefragmentationMoves: tributary 7 in slots 0 and 5 is spread. -/
def spread7 (en : Nat) : State :=
  let p := [(0, 2 ^ 31 + 7 * 2 ^ 15), (5, 2 ^ 31 + 7 * 2 ^ 15 + 1)]
  let s := (up [(TRB_DEFRAG_EN, en)]).setTrib 0 7 { ost := .enabled, desc := tribD.set 1 (2 * 2 ^ 48) }
  { s with carA := { ost := .enabled, desc := carD.set 1 (240 * 2 ^ 48 + 2 * 2 ^ 40 + 2 ^ 26 + 100 * 2 ^ 16), tx := { page := p, standby := p, running := true } } }
theorem witness_defrag : (spread7 0).defragDue 0 = false ∧ (spread7 1).defragDue 0 = true
    ∧ (chooseMove (((pageTribs ((spread7 1).car 0).tx.page).mergeSort (fun a b => decide (a ≤ b))).filterMap
        (fun n => (spread7 1).moveOf 0 n))).any (fun m => m.trib == 7) = true := by decide +kernel

/-- ConnectionMemoryView and KeySlotView: the registers are reached; KeySlotView with an empty slot and one that is held. -/
theorem witness_views : (up []).ready = true ∧ (up []).regOn adr_TRB_CMSEL = true ∧ (up []).regOn adr_CIP_KSSEL = true
    ∧ (up []).key 0x7FF = none ∧ lastSeal.key 8 = some ⟨5, 1, 0, 0, 2 ^ 40 - 1, true, false⟩ := by decide +kernel
/-- R179: the entry of slot 5 in the transmit page in force. -/
theorem test_cmsel : next? (exec (.cmselWrite 5) (spread7 0)) (fun t => t.get TRB_CMDATA_ENTRY == 2 ^ 31 + 7 * 2 ^ 15 + 1) = true := by decide +kernel

/-- UnitsReceived: HUNT and TRACK with the smallest seal. -/
def receiving (st : Nat) : State :=
  let s := (up [(CIP_T_SEAL_RXSTATE 1 7, st), (CIP_T_SEAL_UNITS 1 7, 3), (CIP_T_KEY_CURRENT 1 7, 8)]).setTrib 1 7
    { ost := .enabled, desc := tribD, rx := { toCip := [List.replicate 16 ⟨0xA5, false, false⟩] } }
  s.setKey 8 ⟨5, 1, 0, 0, 0, false, false⟩
theorem witness_units : (∀ st ∈ [1, 2, 3], (let s := receiving st
    let r := (s.trib 1 7).rx
    let u : List RxByte := List.replicate 16 ⟨0xA5, false, false⟩
    r.toCip = u :: [] ∧ (s.trib 1 7).ost = .enabled ∧ s.rxState 7 = st ∧ (s.trib 1 7).stop = 0 ∧ r.seals = [] ∧ r.last = false
      ∧ s.on (CIP_T_SEAL_EARLY 1 7) = false ∧ r.areaAt ∉ r.zeroing ∧ s.mem.flips = [] ∧ s.mem.poison = [] ∧ u ≠ []
      ∧ (∀ b ∈ u, b.bad = false ∧ b.mem = false) ∧ 3 ≤ s.get (CIP_T_SEAL_UNITS 1 7)
      ∧ s.key (s.get (CIP_T_KEY_CURRENT 1 7)) = some ⟨5, 1, 0, 0, 0, false, false⟩)) := by decide +kernel

/-- A complete seal of three units that waits for its verdict, its tag given. -/
def waitingSeal (tag poison : Nat) : RxSeal :=
  ⟨8, 5, 0, 1, 0, 0, 3, 3, 0, [0, 0, 0, 1, 0, 0, 0, 0], tag, [⟨0, false⟩], .waiting, poison, 0, true, false, 0⟩
def verdict7 (tag poison fails : Nat) : State :=
  (up [(FRM_C_STATUS_SF 0, 0), (FRM_C_STATUS_SF 1, 0)]).setTrib 1 7
    { ost := .enabled, desc := tribD, rx := { seals := [waitingSeal tag poison], fails := fails, phaseKnown := true } }
theorem witness_verdict (tag poison fails : Nat) : (let r := ((verdict7 tag poison fails).trib 1 7).rx
    let sl := waitingSeal tag poison
    r.seals = [sl] ∧ sl.complete = true ∧ sl.verdict = .waiting ∧ sl.skip = false ∧ sl.poison = poison ∧ sl.released = 0 ∧ 3 ≤ sl.b
      ∧ (∀ a ∈ sl.area, a.bad = false) ∧ r.hasLast = false ∧ r.fails = fails ∧ r.phaseKnown = true ∧ sl.ctr < 2 ^ 56 ∧ sl.epoch < 2 ^ 24) := by
  simp [verdict7, waitingSeal, State.trib, State.setTrib, Assoc.get_put_same]
/-- Whatever the seal's tag should be (`right`, which does not depend on the tag it carries), it may carry that or another. -/
theorem witness_verdict_tags (right : Nat) : (waitingSeal right 0).tag = right ∧ right ≠ (waitingSeal (right + 1) 0).tag
    ∧ ((verdict7 0 0 0).trib 1 7).ost = .enabled ∧ (verdict7 0 0 0).on (CIP_T_SEAL_EARLY 1 7) = false
    ∧ hdrKph (waitingSeal 0 0).hdr = (verdict7 0 0 0).get (CIP_T_KEY_KPH 1 7) ∧ hdrNkph (waitingSeal 0 0).hdr = (verdict7 0 0 0).get (CIP_T_KEY_KPH 1 7)
    ∧ (verdict7 0 0 0).mem.flips = [] ∧ (verdict7 0 0 0).mem.poison = [] :=
  ⟨rfl, Nat.ne_of_lt (Nat.lt_succ_self _), by decide +kernel, by decide +kernel, by decide +kernel, by decide +kernel, by decide +kernel,
    by decide +kernel⟩
/-- AREA_ZEROED: an area to zero of an ENABLED and of a DRAINING tributary, and none. -/
theorem witness_area : (∀ o ∈ [OState.enabled, OState.draining], (let s := (up []).setTrib 1 7 { ost := o, desc := tribD, rx := { zeroing := [78] } }
    (s.trib 1 7).rx.zeroing = 78 :: [] ∧ (s.trib 1 7).ost = o ∧ (s.trib 1 7).rx.seals = []))
    ∧ ((up []).trib 1 7).rx.zeroing = [] := by decide +kernel

/-- KeyLimits: a key at its warning count, flagged or not, with a sealing tributary; a key at its limit, with a key staged and without, and one
below it; a counter at its end. -/
theorem witness_key_limits :
    (let s := ((up [(CIP_T_KEY_CURRENT 0 1023, 8), (CIP_T_KEY_STV 0 1023, 1)]).setTrib 0 1023 { ost := .enabled, desc := tribD }).setKey 8
       ⟨5, 1, 0, 0, 2 ^ 40 - 2 ^ 32, false, false⟩
     s.key 8 = some ⟨5, 1, 0, 0, 2 ^ 40 - 2 ^ 32, false, false⟩ ∧ s.sealsUnder 8 = [1023] ∧ s.on (CIP_T_KEY_STV 0 1023) = true)
    ∧ (∀ k ∈ [2 ^ 40 - 1, 2 ^ 40], (let s := (up []).setKey 8 ⟨5, 1, 0, 0, k, true, false⟩
       s.key 8 = some ⟨5, 1, 0, 0, k, true, false⟩ ∧ s.sealsUnder 8 = []))
    ∧ (∀ stv ∈ [0, 1], (let s := (((up [(CIP_T_KEY_CURRENT 0 1023, 8), (CIP_T_KEY_STAGED 0 1023, 9), (CIP_T_KEY_STV 0 1023, stv)]).setTrib 0 1023
         { ost := .enabled, desc := tribD }).setKey 8 ⟨5, 1, 0, 0, 2 ^ 40, true, false⟩).setKey 9 ⟨6, 1, 0, 0, 2 ^ 40 - 1, false, false⟩
       s.key 8 = some ⟨5, 1, 0, 0, 2 ^ 40, true, false⟩ ∧ s.sealsUnder 8 = [1023] ∧ (s.trib 0 1023).stop = 0
         ∧ (s.trib 0 1023).tx.starting = false ∧ (s.trib 0 1023).tx.opened = none ∧ (s.trib 0 1023).tx.ctrEnd = false
         ∧ s.on (CIP_T_KEY_STV 0 1023) = (stv == 1) ∧ s.get (CIP_T_KEY_STAGED 0 1023) < 2048
         ∧ s.key (s.get (CIP_T_KEY_STAGED 0 1023)) = some ⟨6, 1, 0, 0, 2 ^ 40 - 1, false, false⟩))
    ∧ (let s := (up []).setTrib 0 7 { ost := .enabled, desc := tribD, tx := { ctrEnd := true } }
       (s.trib 0 7).ost = .enabled ∧ (s.trib 0 7).stop = 0 ∧ (s.trib 0 7).tx.ctrEnd = true ∧ (s.trib 0 7).tx.starting = false
         ∧ (s.trib 0 7).tx.opened = none) := by decide +kernel
/-- R188: STOPPED with cause 2. -/
theorem test_counter_limit : next? (exec (.counterLimit 7) ((up []).setTrib 0 7 { ost := .enabled, desc := tribD, tx := { ctrEnd := true } }))
    (fun t => (t.trib 0 7).stop == 2) = true := by decide +kernel

/-- KeyEncryptionKeys: idle and busy, outside the write window, and each operation about to end. -/
def loading (lcs : Nat) (o : KekOp) (keys : List (Nat × Key)) (jobs : List MtpJob := []) : State :=
  let s := up [(CIP_KEKSTAT_BUSY, 1), (THM_STATUS_SEEDED, 1)]
  { s with mtp := { s.mtp with lcs := lcs }, cip := { s.cip with kek := some o, keys := keys }, mgt := { s.mgt with jobs := jobs } }
theorem witness_kek :
    (∀ seeded ∈ [0, 1], (let s := up [(THM_STATUS_SEEDED, seeded)]
     s.ready = true ∧ s.regOn 0x190080 = true ∧ s.on CIP_KEKSTAT_BUSY = false ∧ s.mtpWindow = (seeded == 1) ∧ s.mtp.lcs = 0 ∧ s.kekInUse 0 = false))
    ∧ (up [(CIP_KEKSTAT_BUSY, 1)]).on CIP_KEKSTAT_BUSY = true
    ∧ (∀ jobs ∈ [[], [MtpJob.root]], (let o : KekOp := ⟨true, 0, 0, List.replicate 64 1, true⟩
       let s := loading 0 o [] jobs
       s.cip.kek = some o ∧ o.plain = true ∧ s.class3Turn .root = (jobs == [MtpJob.root]) ∧ s.mtp.lcs = 0 ∧ o.inWindow = true ∧ s.mtpWindow = true
         ∧ s.kekInUse 0 = false ∧ s.on CIP_TAMPER_WIPED = false ∧ s.cip.wiping = false))
    ∧ (let o : KekOp := ⟨false, 7, 0, List.replicate 64 1, true⟩
       let s := loading 2 o [(0, ⟨5, 2, 0, 0, 0, false, false⟩)]
       s.cip.kek = some o ∧ s.mtp.lcs = 2 ∧ o.target ≠ 0 ∧ s.kekInUse 7 = false ∧ s.on CIP_EPOCH_EXHAUSTED = false ∧ s.kekIn o.wrap = some 5)
    ∧ (let o : KekOp := ⟨false, 7, 0, List.replicate 64 1, true⟩
       (loading 1 o []).kekIn o.wrap = none ∧ (loading 1 o []).mtp.lcs = 1) := by decide +kernel
/-- R198: a load under an empty slot ends with RESULT 2. -/
theorem test_kek_empty : next? (exec (.kekOperationEnd false) (loading 1 ⟨false, 7, 0, List.replicate 64 1, true⟩ []))
    (fun t => t.get CIP_KEKSTAT_RESULT == 2 && t.get CIP_KEKSTAT_BUSY == 0) = true := by decide +kernel

/-- LifeCycle: each transition from a state that allows it and from one that does not, and each end inside and outside the window. -/
def inState (lcs spent : Nat) (root : Option Nat) (o : Option LcsOp := none) (seeded : Nat := 0) (jobs : List MtpJob := [.lcs]) : State :=
  let s := up [(CIP_EPOCH_EXHAUSTED, spent), (THM_STATUS_SEEDED, seeded)]
  { s with mtp := { s.mtp with lcs := lcs, root := root }, cip := { s.cip with lcs := o }, mgt := { s.mgt with jobs := jobs } }
theorem witness_life_cycle :
    (∀ lcs ∈ [0, 1, 2, 3], ∀ spent ∈ [0, 1], ∀ root ∈ [none, some 5], (let s := inState lcs spent root
      s.ready = true ∧ s.regOn 0x190000 = true ∧ s.on CIP_LCS_BUSY = false ∧ s.mtp.lcs = lcs ∧ s.mtp.root = root
        ∧ s.on CIP_EPOCH_EXHAUSTED = (spent == 1)))
    ∧ (∀ req ∈ [1, 2, 3, 4], ∀ missed ∈ [false, true], (let s := inState 1 0 none (some ⟨req, 1, false, missed⟩) 1
       s.class3Turn .lcs = true ∧ s.cip.lcs = some ⟨req, 1, false, missed⟩ ∧ s.mtpWindow = true))
    ∧ (inState 1 0 none (some ⟨2, 1, false, false⟩) 0).mtpWindow = false ∧ (inState 1 0 none none 0 [.store, .lcs]).class3Turn .lcs = false := by
  decide +kernel
/-- R200: RETIRE erases the root. -/
theorem test_retire : next? (exec (.lcsTransitionEnd true) (inState 2 0 (some 5) (some ⟨3, 2, false, false⟩) 1))
    (fun t => t.mtp.lcs == 3 && t.mtp.root == none && t.get CIP_LCS_RESULT == 0) = true := by decide +kernel

/-- TamperResponse: an enabled tributary, a wipe under way with every cause, and the count's turn, inside and outside the write window. -/
theorem witness_tamper :
    (let s := lastSeal
     (s.trib 0 7).ost = .enabled ∧ (Assoc.find (2 * 7 + 0) s.tribs).isSome = true)
    ∧ (let s : State := { up [] with cip := { wiping := true, tamperCauses := 15 } }
       s.cip.wiping = true ∧ s.tribs = [] ∧ ∀ x, x < 4 → bitOf s.cip.tamperCauses x = 1)
    ∧ (up []).cip.wiping = false
    ∧ (let s := inState 1 0 none none 1 [.tamper]
       s.class3Turn .tamper = true ∧ s.mtpWindow = true) ∧ (up []).mtpWindow = false := by decide +kernel

/-! ## Framing, protection and the decoder pool -/

/-- A detection of a profile: 120 GBd, 200 Gb/s, F20. -/
def det (code : Nat) : Detection := ⟨⟨code, 240, 2, 1, 0⟩, 0, 0, 0, 200⟩
/-- Carrier B ENABLED and locked, with frame bytes received. -/
def framing (miss : Nat) (buf : List RxByte) : State :=
  let s := up [(FRM_C_ALIGN_SYNC 1, 1), (FRM_C_ALIGN_MISS 1, miss)]
  { s with carB := { ost := .enabled, desc := carD, rx := { buf := buf } }, acqB := { lock := some (det 4) } }
/-- FrameReception: a frame and seven bytes, headed by the alignment word or not, the latter with four missed in a row before. -/
theorem witness_frames : (∀ (miss : Nat) (head : List RxByte), frameLen ((framing miss (head ++ List.replicate 40000 ⟨0, false, false⟩)).rxRun 1).net + 7
        ≤ ((framing miss (head ++ List.replicate 40000 ⟨0, false, false⟩)).car 1).rx.buf.length)
    ∧ fawHead ((bytesBE 8 faw).map (fun b => ⟨b, false, false⟩) ++ List.replicate 40000 ⟨0, false, false⟩) = true
    ∧ fawHead (List.replicate 40000 ⟨0, false, false⟩) = false
    ∧ (let s := framing 4 []
       (s.car 1).ost = .enabled ∧ s.carLocked 1 = true ∧ s.get (FRM_C_ALIGN_SYNC 1) = 1 ∧ s.get (FRM_C_ALIGN_MISS 1) = 4
         ∧ (s.car 1).rx.cands = [] ∧ (∀ p ∈ s.tribList, p.2 < 1024) ∧ s.rxTribs = [] ∧ s.mem.flips = [] ∧ s.mem.poison = [])
    ∧ (let s := (framing 0 []).set (FRM_C_ALIGN_SYNC 1) 0
       let s : State := { s with carB := { s.carB with rx := { s.carB.rx with cands := [⟨0, 2⟩] } } }
       s.get (FRM_C_ALIGN_SYNC 1) = 0 ∧ (s.car 1).rx.cands = [⟨0, 2⟩] ∧ s.carLocked 1 = true ∧ (s.car 0).ost ≠ .enabled) := by
  refine ⟨fun miss head => ?_, by decide +kernel, by decide +kernel, by decide +kernel, by decide +kernel⟩
  have h1 : ((framing miss (head ++ List.replicate 40000 ⟨0, false, false⟩)).rxRun 1).net = 2 := rfl
  have h2 : ((framing miss (head ++ List.replicate 40000 ⟨0, false, false⟩)).car 1).rx.buf = head ++ List.replicate 40000 ⟨0, false, false⟩ := rfl
  rw [h1, h2, List.length_append, List.length_replicate]
  exact Nat.le_trans (by decide +kernel : frameLen 2 + 7 ≤ 40000) (Nat.le_add_left _ _)

/-- The pair with its hold-offs running, its wait-to-restore counting, and a group of tributary 1023. -/
def protD' : List Nat := tribD.set 1 (100 * 2 ^ 48 + 2 ^ 38 + 2 ^ 37)
def protecting (g : Nat) (p : Protect) (l : List (Fld × Nat)) : State :=
  let s := (up l).setTrib 1 1023 { ost := .enabled, desc := protD', prot := p,
                                   rx := { copyA := { slots := 100, seals := [(5, [[]])] }, copyB := { slots := 100 } } }
  if g = 1024 then { s with pairProt := p, carA := { ost := .enabled, desc := carD.set 4 (2 ^ 60 + 2 ^ 59) }, carB := { ost := .enabled, desc := carD.set 4 (2 ^ 61 + 2 ^ 59) } }
  else s
/-- ProtectionTimers: both kinds of group, each copy, and each clause of a commit point. -/
theorem witness_protection : ∀ g ∈ [1023, 1024],
    (let p : Protect := { holdA := true, holdB := true, levelA := 2, levelB := 1, want := 1 }
     let s := protecting g p [(FRM_C_STATUS_SF 0, 1), (FRM_C_STATUS_SF 1, 0), (FRM_C_STATUS_SD 1, 1)]
     s.pgActive g = true ∧ (s.prot g) = p ∧ s.copyLevel g 0 = 2 ∧ s.copyLevel g 1 = 1
       ∧ s.tribGroup 1023 = some g ∧ s.get (pgSEL g) ≠ (s.prot g).want ∧ (s.prot g).want < 2 ∧ (∀ q ∈ s.tribList, q.2 < 1024))
    ∧ (let s := protecting g {} [(FRM_C_STATUS_SF 0, 0), (FRM_C_STATUS_SF 1, 0), (FRM_C_STATUS_SD 0, 0), (FRM_C_STATUS_SD 1, 0), (pgWTR g, 1), (pgDDX g, 1)]
       s.pgActive g = true ∧ s.on (pgWTR g) = true ∧ s.get (pgCMD g) = 0 ∧ s.pgRevert g = true ∧ s.copyLevel g 0 = 0 ∧ s.copyLevel g 1 = 0
         ∧ (s.prot g).enteredA = 0 ∧ (s.prot g).enteredB = 0
         ∧ s.get (pgSEL g) = (s.prot g).want ∧ s.get (pgDDX g) = 1 ∧ (s.trib 1 1023).active = true ∧ (s.trib 1 1023).rx.lastId = none
         ∧ ((s.trib 1 1023).rx.copy (s.get (pgSEL g))).seals = (5, [[]]) :: [])
    ∧ (let s := protecting g {} [(pgDDX g, 1)]
       let s := s.setTribRx 1023 { (s.trib 1 1023).rx with lastId := some 5 }
       s.tribGroup 1023 = some g ∧ s.pgActive g = true ∧ s.get (pgSEL g) = (s.prot g).want ∧ s.get (pgDDX g) = 1 ∧ (s.trib 1 1023).active = true
         ∧ (s.trib 1 1023).rx.lastId = some 5 ∧ ((s.trib 1 1023).rx.copy (s.get (pgSEL g))).seals = (5, [[]]) :: []
         ∧ idAfter (idCircle (max 1 ((s.trib 1 1023).rx.copy (s.get (pgSEL g))).slots)) 5 5 = false) := by decide +kernel
/-- R258: the selector moves at the commit point. -/
theorem test_commit : next? (exec (.commitPoint 1023) (protecting 1023 { want := 1 } [])) (fun t => t.get (pgSEL 1023) == 1) = true := by decide +kernel

/-- DecoderBlocks: a window whose oldest block leaves with a block's LLRs come, a target with a pass to go, a block waiting for delivery, and
a carrier whose share is spent while the other needs its own. -/
def decoding (spent : Nat) (llrs : List Int) : State :=
  let b (t : Nat) : FecBlock := ⟨t, 0, 0, 5, 6, false, false, false⟩
  let s := up [(FEC_C_STATUS_LOCKED 1, 1)]
  { s with poolB := { window := (List.range 192).map b, next := 192, left := [b 1000], spent := spent }, carB := { ost := .enabled, desc := carD },
           lineB := { s.lineB with llrs := llrs } }
theorem witness_decoding : (let s := decoding 0 []
    let b : FecBlock := ⟨15, 0, 0, 5, 6, false, false, false⟩
    s.get (FEC_C_STATUS_LOCKED 1) = 1 ∧ (∀ b ∈ (s.pool 1).window, b.t < (s.pool 1).next) ∧ (s.pool 1).targetOf 15 = some b
      ∧ b.converged = false ∧ b.passes < b.cap ∧ (s.pool 1).left = ⟨1000, 0, 0, 5, 6, false, false, false⟩ :: []
      ∧ ((s.pool 1).window.find? (fun b => b.t + 192 == (s.pool 1).next)).isSome = true
      ∧ (up []).get (FEC_C_STATUS_LOCKED 0) ≠ 1) := by decide +kernel
theorem witness_llrs : (let s := decoding 0 (List.replicate 30720 0)
    30720 ≤ (s.line 1).llrs.length ∧ s.flds = (decoding 0 []).flds ∧ s.pool 1 = (decoding 0 []).pool 1) :=
  ⟨Nat.le_of_eq (List.length_replicate ..).symm, rfl, rfl⟩
theorem witness_pass : (decoding 0 []).mayPass 1 = true ∧ (decoding (2 ^ 40) []).mayPass 1 = false := by decide +kernel

/-- DecoderRegisters: a write of FEC_Cc_SD at its limits, with SDCLR equal to SDTHR, and just within; a bin; and an interval that ends. -/
theorem witness_decoder_registers :
    (let s := up [(FEC_C_STATUS_LOCKED 1, 1), (FEC_C_SF_SFUNC 1, 3)]
     s.ready = true ∧ s.regOn (0x200048 + 0x100) = true ∧ s.regOn (0x20004C + 0x100) = true ∧ s.regOn (0x200038 + 0x100) = true
       ∧ (∀ q ∈ s.tribList, q.2 < 1024) ∧ s.get (FEC_C_STATUS_LOCKED 1) = 1)
    ∧ (let s : State := { up [(FEC_C_SF_SFUNC 1, 3)] with poolB := { sfWhole := true, sfUnc := 3 } }
       (s.pool 1).sfWhole = true ∧ s.get (FEC_C_SF_SFUNC 1) ≤ (s.pool 1).sfUnc)
    ∧ (let thr := fieldOf 0x64630001 24 8
       let clr := fieldOf 0x64630001 16 8
       10 ≤ thr ∧ thr ≤ 100 ∧ 1 ≤ clr ∧ clr < thr ∧ 1 ≤ fieldOf 0x64630001 0 4)
    ∧ ¬ (fieldOf 0x64640001 16 8 < fieldOf 0x64640001 24 8) ∧ fieldOf 25 0 5 ≤ 25 := by decide +kernel
/-- R301: SDCLR equal to SDTHR has no effect. -/
theorem test_sd : next? (exec (.fecSdWrite 1 0x64640001) (up [])) (fun t => t.get (FEC_C_SD_SDTHR 1) == (up []).get (FEC_C_SD_SDTHR 1)) = true
    ∧ next? (exec (.fecSdWrite 1 0x64630001) (up [])) (fun t => t.get (FEC_C_SD_SDTHR 1) == 100 && t.get (FEC_C_SD_SDCLR 1) == 99) = true := by decide +kernel

/-! ## Line signal processing -/

/-- Carrier B ENABLED and locked, with registers. -/
def locked1 (l : List (Fld × Nat)) : State := { up l with carB := { ost := .enabled, desc := carD }, acqB := { lock := some (det 4) } }
/-- EqualiserStates: each state, the runs at their limits, and taps of both kinds. -/
theorem witness_equaliser :
    (∀ st ∈ [0, 1, 2, 3], ∀ fr ∈ [0, 1], (let s := locked1 [(DS_EQSTAT_STATE 1, st), (DS_EQCTL_UPD 1, 8), (DS_EQCTL_MU 1, 7), (DS_EQCTL_FREEZE 1, fr)]
       s.ready = true ∧ s.regOn (0x240028 + 0x40000) = true ∧ s.regOn (0x240030 + 0x40000) = true ∧ s.get (DS_EQCTL_UPD 1) ≤ 8
         ∧ s.get (DS_EQCTL_MU 1) < 8 ∧ s.carLocked 1 = true ∧ s.get (DS_EQCTL_FREEZE 1) = fr ∧ s.get (DS_EQSTAT_STATE 1) = st
         ∧ (s.line 1).identity = true ∧ (s.line 1).taps = []))
    ∧ (let s : State := { up [] with lineB := { ownRun := 16, sameRun := 4 } }
       16 ≤ (s.line 1).ownRun ∧ 4 ≤ (s.line 1).sameRun)
    ∧ fieldOf 0x3E 0 6 ≠ 63 := by decide +kernel
/-- R336: the main tap of identity is 1, and no other. -/
theorem test_taps : next? (exec (.tapselWrite 1 31) (up [])) (fun t => t.getI (DS_TAPDATA_RE 1) == 16384) = true
    ∧ next? (exec (.tapselWrite 1 (64 + 31)) (up [])) (fun t => t.getI (DS_TAPDATA_RE 1) == 0) = true := by decide +kernel

/-- LineTracking: a locked carrier whose dispersion passes 2,000 ps/nm from that at lock, with the search for XI on and off, after a change of
steps and not, with the schedule held and not; and one that is not locked. -/
theorem witness_tracking : (∀ auto ∈ [0, 1], ∀ changed ∈ [false, true], ∀ held ∈ [false, true],
    (let s : State := { locked1 [(DS_NLC_XIAUTO 1, auto), (DS_NLC_XI 1, 255)] with
       lineB := { cd := 1990, nlcChanged := changed, schedule := { held := held } } }
     s.carLocked 1 = true ∧ 2000 < (1990 + (20 : Int) - (s.line 1).cdLock).natAbs ∧ (s.line 1).cd = 1990 ∧ (s.line 1).cdPosted = false
       ∧ s.get (DS_NLC_XIAUTO 1) = auto ∧ s.get (DS_NLC_XI 1) < 256 ∧ (s.line 1).nlcChanged = changed ∧ (s.line 1).snrLast = none
       ∧ (s.line 1).schedule.held = held))
    ∧ (up []).carLocked 1 = false := by decide +kernel
/-- R316: at most 20 ps/nm. -/
theorem test_tracking : next? (exec (.dispersionTracking 1 500) (locked1 [])) (fun t => (t.line 1).cd == 20) = true := by decide +kernel

/-- LaserSteering: a whole period with an offset beyond the dead band whose sum stays within 50 × LIMIT, and passes it, posted before and
not; a period that began before lock; and DSx_LSTCTL good and bad. -/
theorem witness_steering :
    (∀ lim ∈ [0, 15], ∀ posted ∈ [false, true], ∀ dev ∈ [14999999, 15000000], (let g := locked1 [(DS_LSTCTL_LSTEN 1, 1), (DS_LSTCTL_MAXSTEP 1, 10),
        (DS_LSTCTL_GAIN 1, 8), (DS_LSTCTL_DEADBAND 1, 1), (DS_LSTCTL_PERIOD 1, 10), (DS_LSTCTL_LIMIT 1, lim)]
     let s : State := { g with lineB := { lstAt := 5000000, limPosted := posted }, clk := { g.clk with dev := dev } }
     (s.car 1).ost = .enabled ∧ s.carLocked 1 = true ∧ s.get (DS_LSTCTL_LSTEN 1) = 1 ∧ s.get (DS_LSTCTL_LSTEN 1) ≤ 1
       ∧ ((s.line 1).lstAt + 1000000 * s.get (DS_LSTCTL_PERIOD 1) ≤ s.clk.dev ↔ dev = 15000000)
       ∧ 10 * s.get (DS_LSTCTL_DEADBAND 1) < (100 : Int).natAbs ∧ s.get (DS_LSTCTL_MAXSTEP 1) = 10
       ∧ ((s.getI (DS_FOFS_LSTSUM 1) + max (-10) (min 10 (roundAway (s.get (DS_LSTCTL_GAIN 1) * 100) 80))).natAbs ≤ 50 * s.get (DS_LSTCTL_LIMIT 1)
          ↔ lim = 15)
       ∧ s.get (DS_LSTCTL_LIMIT 1) ≤ 15 ∧ (s.line 1).limPosted = posted))
    ∧ (up [(DS_LSTCTL_LSTEN 1, 0)]).get (DS_LSTCTL_LSTEN 1) = 0
    ∧ (let s := up []
       s.ready = true ∧ s.regOn (0x240024 + 0x40000) = true ∧ s.regOn (0x24000C + 0x40000) = true ∧ s.regOn (0x240028 + 0x40000) = true)
    ∧ (let v := 8 * 2 ^ 27 + 100 * 2 ^ 12 + 255 * 2 ^ 4 + 15
       1 ≤ fieldOf v 27 4 ∧ fieldOf v 27 4 ≤ 8 ∧ 1 ≤ fieldOf v 12 7 ∧ fieldOf v 12 7 ≤ 100 ∧ 1 ≤ fieldOf v 4 8 ∧ 1 ≤ fieldOf v 0 4)
    ∧ ¬ (fieldOf (9 * 2 ^ 27) 27 4 ≤ 8) ∧ fieldOf (2 ^ 24) 24 8 ≠ 0 ∧ 8 < fieldOf 9 0 4
    ∧ fieldOf (2 ^ 7 + 8) 0 4 ≤ 8 ∧ fieldOf (2 ^ 7 + 8) 8 1 = 0 := by decide +kernel

/-! ## Signal acquisition -/

/-- Acquisition of carrier B in a state. -/
def acquiring (a : Acq) (l : List (Fld × Nat)) : State :=
  { up l with carB := { ost := .enabled, desc := carD, tx := { running := true } }, acqB := a }
/-- Sweeps: a point at the edges of the window and at the threshold, beside a reject zone that has ended, with no lock; and under a lock elsewhere,
with a weaker rival, a stronger one and none. -/
theorem witness_sweeps :
    (let d : Detection := ⟨(det 3).prof, 80000, -7500, 15000, 40⟩
     let a : Acq := { profiles := [(det 3).prof], rejects := [({ d with m := 400 }, 0)] }
     let g := acquiring a [(ACQ_C_STATUS_LANES 1, 31)]
     let s : State := { g with clk := { g.clk with dev := 10000000 } }
     (s.acq 1).lock = none ∧ (s.acq 1).profiles.find? (fun p => p.code == 3) = some (det 3).prof ∧ s.bit (ACQ_C_STATUS_LANES 1) 3 = true
       ∧ (s.acq 1).detThr ≤ d.m ∧ (∀ r ∈ (s.acq 1).rejects, rejectedBy s.clk.dev d r = false) ∧ cdHintV (s.car 1).desc = false
       ∧ -160000 ≤ d.cd ∧ d.cd ≤ 160000 ∧ (d.cd - 0).natAbs ≤ 80000 ∧ d.fofs.natAbs ≤ 7500 ∧ d.ppm.natAbs ≤ 15000)
    ∧ (∀ r ∈ [none, some { det 3 with m := 399 }, some { det 3 with m := 400 }],
        (let s := acquiring { profiles := [(det 3).prof], lock := some (det 4), rival := r } [(ACQ_C_STATUS_LANES 1, 31)]
         (s.acq 1).lock = some (det 4) ∧ (s.acq 1).rival = r ∧ s.bit (ACQ_C_STATUS_LANES 1) 3 = true ∧ (s.acq 1).rejects = []
           ∧ ((501 : Int) - (det 4).fofs).natAbs = 501 ∧ (s.acq 1).profiles.find? (fun p => p.code == 3) = some (det 3).prof
           ∧ (s.acq 1).profiles.find? (fun p => p.code == 2) = none)) := by decide +kernel
/-- R343: DETTHR is enough to be queued. -/
theorem test_sweep : [(40, 1), (39, 0)].all (fun p => next? (exec (.sweepEnd 1 3 ⟨0, 0, 0, p.1⟩)
    (acquiring { profiles := [(det 3).prof] } [(ACQ_C_STATUS_LANES 1, 31)])) (fun t => (t.acq 1).queue.length == p.2)) = true := by decide +kernel

/-! A stream of coded bits whose blocks are zero satisfies every check; one whose last block ends in ones does not. -/

theorem natOfBits_append (a b : List Bool) : natOfBits (a ++ b) = natOfBits a * 2 ^ b.length + natOfBits b := by
  have h (l : List Bool) : ∀ x, l.foldl (fun a b => 2 * a + b.toNat) x = x * 2 ^ l.length + l.foldl (fun a b => 2 * a + b.toNat) 0 := by
    induction l with
    | nil => simp
    | cons y t ih =>
      intro x
      have hx : 2 * x * 2 ^ t.length = x * (2 ^ t.length * 2) := by rw [Nat.mul_comm 2 x, Nat.mul_assoc, Nat.mul_comm 2]
      simp only [List.foldl_cons, List.length_cons]
      rw [ih, ih (2 * 0 + y.toNat)]
      simp only [Nat.add_mul, Nat.pow_succ, hx, Nat.mul_zero, Nat.zero_add, Nat.add_assoc]
  unfold natOfBits
  rw [List.foldl_append, h]

theorem natOfBits_false (n : Nat) : natOfBits (List.replicate n false) = 0 := by
  induction n with
  | zero => rfl
  | succ n ih => rw [List.replicate_succ', natOfBits_append, ih]; rfl

theorem natOfBits_true (n : Nat) : natOfBits (List.replicate n true) = 2 ^ n - 1 := by
  induction n with
  | zero => rfl
  | succ n ih =>
    rw [List.replicate_succ', natOfBits_append, ih]
    have h1 : natOfBits [true] = 1 := rfl
    have := Nat.one_le_two_pow (n := n)
    simp only [List.length_singleton, h1, Nat.pow_succ]
    omega

/-- So many zeros and then ones. -/
def codedTail (n m : Nat) : List Bool := List.replicate n false ++ List.replicate m true

theorem blockAt_tail {n m p : Nat} (h : p ≤ n) (h2 : n ≤ p + 30720) (h3 : p + 30720 ≤ n + m) :
    blockAt (codedTail n m) p = 2 ^ (p + 30720 - n) - 1 := by
  unfold blockAt codedTail
  rw [List.drop_append_of_le_length (by simpa using h), List.drop_replicate, List.take_append, List.take_replicate, List.take_replicate,
    natOfBits_append, natOfBits_false, natOfBits_true, Nat.zero_mul, Nat.zero_add]
  congr 2
  simp only [List.length_replicate]
  omega

theorem blockAt_zeros {n m p : Nat} (h : p + 30720 ≤ n) : blockAt (codedTail n m) p = 0 := by
  unfold blockAt codedTail
  rw [List.drop_append_of_le_length (by simp; omega), List.drop_replicate, List.take_append_of_le_length (by simp; omega), List.take_replicate,
    natOfBits_false]

theorem bitOf_zero (k : Nat) : bitOf 0 k = 0 := by simp [bitOf]

theorem sums_zero (fec : Nat) : ldpcSums fec 0 0 0 = 0 := by
  have h (l : List Nat) (f g : Nat → Nat) : l.foldl (fun s j => if bitOf 0 (g j) = 1 then Nat.xor s (f j) else s) 0 = 0 := by
    induction l with
    | nil => rfl
    | cons x t ih => simp only [List.foldl_cons, bitOf_zero, Nat.zero_ne_one, if_false]; simpa only [bitOf_zero, Nat.zero_ne_one, if_false] using ih
  unfold ldpcSums
  simp only [h]

theorem info_zero (fec : Nat) : blockInfo fec 0 = 0 := Nat.zero_div _

theorem unsat_zero (fec : Nat) : ldpcUnsatisfied fec 0 0 0 = 0 := by
  unfold ldpcUnsatisfied
  simp only [Nat.zero_div, sums_zero, bitOf_zero, ite_self, Nat.add_zero, Nat.zero_mod]
  simp only [List.map_const', List.sum_replicate_nat, Nat.mul_zero]

theorem unsat_tail {fec o : Nat} (h : o + 1 < parBits fec) : 0 < ldpcUnsatisfied fec (2 ^ (o + 1) - 1) 0 0 := by
  have hp : (2 ^ (o + 1) - 1) / 2 ^ parBits fec = 0 :=
    Nat.div_eq_of_lt (Nat.lt_of_lt_of_le (Nat.sub_lt (Nat.two_pow_pos _) Nat.one_pos) (Nat.pow_le_pow_right (by decide) (by omega)))
  have h1 : bitOf (2 ^ (o + 1) - 1) o = 1 := by
    have := Nat.testBit_two_pow_sub_one (o + 1) o
    simp only [Nat.testBit, Nat.shiftRight_eq_div_pow, Nat.one_and_eq_mod_two] at this
    simp only [bitOf]
    revert this; simp
  have h2 : bitOf (2 ^ (o + 1) - 1) (o + 1) = 0 := by
    simp only [bitOf]
    rw [Nat.div_eq_of_lt (Nat.sub_lt (Nat.two_pow_pos _) Nat.one_pos)]
  unfold ldpcUnsatisfied
  simp only [hp, sums_zero, bitOf_zero, Nat.zero_add]
  refine List.sum_pos_iff_exists_pos_nat.mpr ⟨_, List.mem_map.mpr ⟨parBits fec - 1 - o, List.mem_range.mpr (by omega), rfl⟩, ?_⟩
  have e1 : parBits fec - 1 - (parBits fec - 1 - o) = o := by omega
  have e2 : parBits fec - (parBits fec - 1 - o) = o + 1 := by omega
  have e3 : parBits fec - 1 - o ≠ 0 := by omega
  rw [e1, e2, h1, h2, if_neg e3]
  decide

theorem from_zeros {fec n m p c : Nat} (h : p + 30720 * c ≤ n) : unsatisfiedFrom fec (codedTail n m) p c = 0 := by
  unfold unsatisfiedFrom
  rw [List.map_congr_left (g := fun _ => 0), List.map_const', List.sum_replicate_nat, Nat.mul_zero]
  intro j hj
  have := List.mem_range.mp hj
  simp only [blockAt_zeros (m := m) (show p + 30720 * j + 30720 ≤ n by omega), blockAt_zeros (m := m) (show p + 30720 * j - 16 * 30720 + 30720 ≤ n by omega),
    blockAt_zeros (m := m) (show p + 30720 * j - 32 * 30720 + 30720 ≤ n by omega), info_zero, unsat_zero]

theorem from_tail {fec n m p c o : Nat} (hc : p + 30720 * (c + 1) = n + (o + 1)) (hm : o < m) (hp : o + 1 < parBits fec) (h0 : 16 * 30720 ≤ p + 30720 * c) :
    0 < unsatisfiedFrom fec (codedTail n m) p (c + 1) := by
  have hpar : parBits fec ≤ 6144 := by
    unfold parBits infoBits
    split
    · decide
    · split <;> decide
  unfold unsatisfiedFrom
  refine List.sum_pos_iff_exists_pos_nat.mpr ⟨_, List.mem_map.mpr ⟨c, List.mem_range.mpr (Nat.lt_succ_self c), rfl⟩, ?_⟩
  simp only []
  rw [blockAt_tail (by omega) (by omega) (by omega), blockAt_zeros (by omega), blockAt_zeros (by omega), info_zero,
    show p + 30720 * c + 30720 - n = o + 1 by omega]
  exact unsat_tail hp

/-- The lowest of the weights of a window is one of them. -/
theorem best_of {fec w : Nat} {bits : List Bool} (P : Nat → Prop)
    (h : ∀ o, o < 1024 → P (unsatisfiedFrom fec bits (30720 * (64 * w + 32) + 1024 * w + o) 32)) : P (bestOffset fec bits w 0).1 := by
  show P ((((List.range 1024).map (fun o => unsatisfiedFrom fec bits (30720 * (64 * w + 32) + 1024 * w + o) 32)).min?).getD 0)
  cases e : ((List.range 1024).map (fun o => unsatisfiedFrom fec bits (30720 * (64 * w + 32) + 1024 * w + o) 32)).min? with
  | none => simp [List.min?_eq_none_iff] at e
  | some m =>
    obtain ⟨o, ho, rfl⟩ := List.mem_map.mp (List.min?_mem e)
    exact h o (List.mem_range.mp ho)

/-- The coded bits of 64 × 30,720 × (w + 1) + 1,024 × (w + 1) − 1 that satisfy no offset of window w. -/
def badWindow (w : Nat) : List Bool := codedTail (30720 * 64 * (w + 1) + 1024 * w - 1) 1024
theorem good_window (thr : Nat) : weightOk 1 32 (bestOffset 1 (codedTail 3932160 0) 0 0).1 thr = true := by
  rw [best_of (fun x => x = 0) (fun o ho => from_zeros (by omega))]
  simp [weightOk]
theorem bad_window (w : Nat) : weightOk 1 32 (bestOffset 1 (badWindow w) w 0).1 0 = false := by
  have h : 0 < (bestOffset 1 (badWindow w) w 0).1 :=
    best_of (fun x => 0 < x) (fun o ho => from_tail (c := 31) (o := o) (by omega) ho (Nat.lt_of_le_of_lt ho (by decide)) (by omega))
  simp only [weightOk, Nat.zero_mul, decide_eq_false_iff_not]
  omega
theorem checked_bits (thr : Nat) : weightOk 1 64 (unsatisfiedFrom 1 (codedTail 3932160 0) 1966080 64) thr = true
    ∧ weightOk 1 64 (unsatisfiedFrom 1 (codedTail 3932159 1) 1966080 64) 0 = false := by
  refine ⟨by rw [from_zeros (by decide)]; simp [weightOk], ?_⟩
  have h : 0 < unsatisfiedFrom 1 (codedTail 3932159 1) 1966080 64 := from_tail (c := 63) (o := 0) (by decide) (by decide) (by decide) (by decide)
  simp only [weightOk, Nat.zero_mul, decide_eq_false_iff_not]
  omega

/-- LLRs whose hard decisions are these bits, and that they are. -/
def softBits (l : List Bool) : List Int := l.map (fun b => if b then -1 else 1)
theorem hard_soft (l : List Bool) : hardBits 0 (softBits l) = l := by
  refine List.ext_getElem (by simp [hardBits, softBits]) (fun i h₁ h₂ => ?_)
  simp only [hardBits, softBits, List.getElem_map, List.getElem_zipIdx]
  cases l[i] <;> rfl

/-- A candidate in a stage, with its counts. -/
def candidate (stage blocks pass thr w off : Nat) (held : Bool) (coded : List Bool) : State :=
  acquiring { cand := some (det 3), blocks := blocks, pass := pass, swThr := thr, windows := w, schedule := { held := held }, coded := softBits coded }
    [(ACQ_C_STATUS_STAGE 1, stage), (ACQ_C_BLOCK_OFFSET 1, off)]
/-- AcquisitionStages: a queue of one, each stage at its limit and below it, and no candidate. -/
theorem witness_stages :
    (let s := acquiring { queue := [det 3] } [(ACQ_C_STATUS_STATE 1, 1)]
     (s.acq 1).queue = det 3 :: [] ∧ (s.acq 1).cand = none ∧ s.get (ACQ_C_STATUS_STATE 1) = 1)
    ∧ (∀ k ∈ [1, 2, 3, 4, 5], ∀ held ∈ [false, true], (let s := candidate k 8192 16 0 0 0 held []
       s.get (ACQ_C_STATUS_STAGE 1) = k ∧ (s.acq 1).cand = some (det 3) ∧ 8192 ≤ (s.acq 1).blocks ∧ 16 ≤ (s.acq 1).pass
         ∧ (s.acq 1).schedule.held = held ∧ (∀ q ∈ s.tribList, q.2 < 1024)))
    ∧ ((up []).acq 1).cand = none := by decide +kernel
/-- A window that passes, one that fails with another to come, and the last one that fails. -/
theorem witness_windows :
    (let s := candidate 4 0 16 0 0 0 true (codedTail 3932160 0)
     weightOk (det 3).prof.fec 32 (bestOffset (det 3).prof.fec (hardBits 0 (s.acq 1).coded) (s.acq 1).windows 0).1 (s.acq 1).swThr = true
       ∧ 30720 * 64 * ((s.acq 1).windows + 1) + 1024 * ((s.acq 1).windows + 1) - 1 ≤ (s.acq 1).coded.length
       ∧ s.get (ACQ_C_STATUS_STAGE 1) = 4 ∧ (s.acq 1).cand = some (det 3))
    ∧ ∀ w, (let s := candidate 4 0 16 0 w 0 true (badWindow w)
        weightOk (det 3).prof.fec 32 (bestOffset (det 3).prof.fec (hardBits 0 (s.acq 1).coded) (s.acq 1).windows 0).1 (s.acq 1).swThr = false
          ∧ 30720 * 64 * ((s.acq 1).windows + 1) + 1024 * ((s.acq 1).windows + 1) - 1 ≤ (s.acq 1).coded.length
          ∧ s.get (ACQ_C_STATUS_STAGE 1) = 4 ∧ (s.acq 1).cand = some (det 3)) := by
  refine ⟨⟨?_, ?_, rfl, rfl⟩, fun w => ⟨?_, ?_, rfl, rfl⟩⟩
  · show weightOk 1 32 (bestOffset 1 (hardBits 0 (softBits (codedTail 3932160 0))) 0 0).1 0 = true
    rw [hard_soft]
    exact good_window 0
  · show 30720 * 64 * (0 + 1) + 1024 * (0 + 1) - 1 ≤ (softBits (codedTail 3932160 0)).length
    simp only [softBits, List.length_map, codedTail, List.length_append, List.length_replicate]
    omega
  · show weightOk 1 32 (bestOffset 1 (hardBits 0 (softBits (badWindow w))) w 0).1 0 = false
    rw [hard_soft]
    exact bad_window w
  · show _ ≤ (softBits (badWindow w)).length
    simp only [softBits, List.length_map, badWindow, codedTail, List.length_append, List.length_replicate]
    show 30720 * 64 * (w + 1) + 1024 * (w + 1) - 1 ≤ _
    omega
/-- A CHECK that passes and one that fails, of the block cut at offset 0 of window 0. -/
theorem witness_check : ∀ bits ∈ [codedTail 3932160 0, codedTail 3932159 1],
    (let s := candidate 5 0 16 0 1 0 true bits
     hardBits 0 (s.acq 1).coded = bits ∧ (s.acq 1).coded.length = bits.length ∧ s.get (ACQ_C_STATUS_STAGE 1) = 5 ∧ (s.acq 1).windows = 1 ∧ s.get (ACQ_C_BLOCK_OFFSET 1) = 0
       ∧ 30720 * 64 * ((s.acq 1).windows + 1) + s.get (ACQ_C_BLOCK_OFFSET 1) ≤ bits.length) := by
  intro bits hb
  refine ⟨hard_soft bits, List.length_map .., rfl, rfl, rfl, ?_⟩
  show 3932160 ≤ bits.length
  simp only [List.mem_cons, List.not_mem_nil, or_false] at hb
  rcases hb with h | h <;> (subst h; simp only [codedTail, List.length_append, List.length_replicate]; omega)

/-- A measurement of a pilot block, all 2,048 symbols of it alike. -/
def pilots (m ppm candM : Int) (sep : Bool) : PilotMeas := ⟨m, true, false, ppm, 60, candM, sep, [], []⟩
/-- PilotBlocks: a lock with and without a rival, a correction at its limit and one beyond it, and a candidate in each stage that passes and does
not. -/
theorem witness_pilots :
    (∀ rival ∈ [none, some (det 3)], ∀ we ∈ [0, 1], (let s := acquiring { lock := some (det 4), rival := rival } [(ACQ_C_CTL_WATCHEN 1, we)]
      (s.acq 1).lock = some (det 4) ∧ (s.acq 1).rival = rival ∧ s.get (ACQ_C_CTL_WATCHEN 1) = we ∧ (pilots 0 (-15000) 0 true).ppm.natAbs ≤ 15000
        ∧ 15000 < (pilots 0 15001 0 true).ppm.natAbs ∧ s.nlcSteps 1 < 256 ∧ s.get (DS_NLC_STEPS 1) = s.nlcSteps 1
        ∧ (∀ q ∈ s.tribList, q.2 < 1024)))
    ∧ (∀ st ∈ [0, 1, 2, 3, 4, 5], (let s := candidate st 0 0 0 0 0 false []
        (s.acq 1).lock = none ∧ (s.acq 1).cand = some (det 3) ∧ s.get (ACQ_C_STATUS_STAGE 1) = st ∧ s.get ACQ_THRESH_CONFTHR ≤ 60
          ∧ ¬ (s.get ACQ_THRESH_CONFTHR ≤ 59))) := by decide +kernel
/-- PilotBlocks in FILL: a first pilot and one fill block, which the schedule takes, or two in a row, which no accumulator value allows. -/
def fillBlocks (k : Nat) : PilotMeas :=
  let part (odd : Nat) : List (Int × Int) := (List.range 16).map (fun i => (fillSyms.map (fun x => (x.i, x.q))).getD (2 * i + odd) (0, 0))
  { pilots 0 0 60 true with xs := pilotPoint 0x7F 0 :: (List.replicate k (part 0)).flatten, ys := pilotPoint 0x2A 0 :: (List.replicate k (part 1)).flatten }
theorem witness_fill_blocks : ∀ k ∈ [1, 2], (demap (det 3).prof (symbolBlocks (unslip 64 0 (fillBlocks k).xs (fillBlocks k).ys (some 0)).2.2) {}).2.1
    = (k == 2) := by decide +kernel

/-- LossOfLock: runs at their limits, the set-up check in each way, a rival that has led, with WATCHEN and without, and ACQ_THRESH good and bad. -/
theorem witness_loss :
    (∀ we ∈ [0, 1], ∀ rr ∈ [31, 32], ∀ fs ∈ [0, 1], ∀ dd ∈ [false, true],
      (let g := acquiring { lock := some (det 4), lossRun := 32, rivalRun := rr, rival := some (det 3), setupDue := true }
         [(DS_RXFMT_FILLSYNC 1, fs), (ACQ_C_CTL_WATCHEN 1, we)]
       let s : State := { g with lineB := { g.lineB with reachedDD := dd } }
       (s.acq 1).lock = some (det 4) ∧ 32 ≤ (s.acq 1).lossRun ∧ (s.acq 1).rivalRun = rr ∧ (s.acq 1).setupDue = true ∧ (s.acq 1).rival = some (det 3)
         ∧ s.get (DS_RXFMT_FILLSYNC 1) = fs ∧ (s.line 1).reachedDD = dd ∧ s.get (ACQ_C_CTL_WATCHEN 1) = we ∧ (∀ q ∈ s.tribList, q.2 < 1024)
         ∧ s.ready = true ∧ s.regOn (adr_ACQ_C_CTL 1) = true ∧ s.acqMay 1 = true ∧ s.regOn adr_ACQ_THRESH = true))
    ∧ (let s := up []
       (s.acq 1).lossRun < 32 ∧ (s.acq 1).setupDue = false ∧ (s.acq 1).lock = none ∧ s.acqMay 1 = false)
    ∧ (acquiring {} []).acqMay 1 = true ∧ ((acquiring {} []).acq 1).lock = none
    ∧ (let part (lo n : Nat) : Nat := fieldOf 0xC8FAC878 lo n
       10 ≤ part 24 8 ∧ part 24 8 ≤ 200 ∧ part 24 8 ≤ part 16 8 ∧ part 16 8 ≤ 250 ∧ 10 ≤ part 8 8 ∧ part 8 8 ≤ 200 ∧ 64 ≤ part 0 8 ∧ part 0 8 ≤ 120)
    ∧ ¬ (64 ≤ fieldOf 0xC8FAC83F 0 8) := by decide +kernel

/-! ## Converters and their calibration -/

/-- A run's statistics: gains and skews of nothing, all powers alike. -/
def evenStats : CalStats := ⟨[1, 1, 1, 1], [1, 1, 1, 1], [], [], [], [], []⟩
/-- Calibration: a pair of the receive direction of carrier B before, in and after its first run, agreeing within the tolerance, with a value out
of range, and not agreeing. -/
def calibrating (run : Nat) (t2 : Int) (first : List (Nat × Int)) : State :=
  let s := locked1 [(CNV_C_CALCTL_RXEN 1, 1), (calRun 3, run), (DS_EQSTAT_STATE 1, 2)]
  { s with cnv := { pairs := [(3, { t1 := 200, t2 := t2, first := first })] } }
theorem witness_calibration :
    (let s := calibrating 0 0 []
     s.pdOn (pdLINE 1) = true ∧ 1 ∈ s.cnv.starting ∧ s.get (CNV_C_CALCTL_RXEN 1) = 1 ∧ s.calRunning 3 = true ∧ s.get (calRun 3) = 0
       ∧ s.get (CNV_C_CALCTL_HOLD 1) ≠ 1)
    ∧ evenStats.wf = true ∧ (calibrating 1 0 []).get (calRun 3) = 1 ∧ runResult evenStats 1 = []
    ∧ Assoc.find 3 (calibrating 1 0 []).cnv.pairs = some { t1 := 200, t2 := 0, first := [] }
    ∧ (let p : CalPair := { t1 := 200, t2 := 204, first := [(2, 1280)] }
       let mean : CalBin := ⟨p.t1 + p.t2, calZip (fun _ x y => roundDiv (x + y) 2) p.first (runResult evenStats 1)⟩
       (calibrating 2 204 [(2, 1280)]).get (calRun 3) = 2 ∧ Assoc.find 3 (calibrating 2 204 [(2, 1280)]).cnv.pairs = some p
         ∧ runsAgree p.first (runResult evenStats 1) = true ∧ (p.t1 - p.t2).natAbs ≤ 4
         ∧ ∀ e ∈ mean.vals, (Assoc.get 0 e.1 mean.vals).natAbs ≤ calRange e.1)
    ∧ runsAgree [(2, 1281)] (runResult evenStats 1) = false
    ∧ (let x : CalStats := { evenStats with delays := [[(0, 1500)]] }
       x.wf = true) := by decide +kernel
/-- R369: runs that differ by 0.05 ps agree, the mean is accepted. -/
theorem test_pair : [(1280, 1), (1281, 0)].all (fun p => next? (exec (.calibrationRunEnd 3 evenStats) (calibrating 2 204 [(2, p.1)]))
    (fun t => t.get (CNV_C_EVENT_ACCEPT 1) == p.2)) = true := by decide +kernel

/-- ConverterViews: the carrier enabled and not, TABSEL of each kind at its last index, and bins valid and not. -/
theorem witness_converter_views :
    (let s := up []
     s.ready = true ∧ s.regOn (adr_CNV_C_MAP 1) = true ∧ s.regOn (adr_CNV_C_TABSEL 1) = true ∧ s.regOn adr_CNV_BINSEL = true ∧ (s.car 1).active = false
       ∧ Assoc.find 31 s.cnv.bins = none)
    ∧ ((locked1 []).car 1).active = true ∧ fieldOf 0x411 10 1 = 1 ∧ 16 < fieldOf 0x411 0 8 ∧ fieldOf 0x3FF 10 1 = 0
    ∧ (let s : State := { up [] with cnv := { bins := [(31, ⟨200, []⟩)] } }
       Assoc.find 31 s.cnv.bins = some ⟨200, []⟩) := by decide +kernel

/-- CalibrationStore: each step of a store on its turn, inside and outside the write window, and out of turn. -/
theorem witness_store :
    (let s : State := { up [] with cnv := { dueNext := true } }
     s.get CNV_MTP_STATE = 0 ∧ s.ready = true ∧ s.regOn adr_CNV_STCTL = true ∧ s.cnv.dueNext = true)
    ∧ (∀ k ∈ [1, 2, 3, 4, 5], ∀ w ∈ [0, 1], ∀ jobs ∈ [[MtpJob.store], [MtpJob.log, MtpJob.store]],
       (let g := up [(CNV_MTP_STATE, k), (THM_STATUS_SEEDED, w)]
        let s : State := { g with mgt := { g.mgt with jobs := jobs } }
        s.get CNV_MTP_STATE = k ∧ s.class3Turn .store = (jobs == [MtpJob.store]) ∧ s.mtpWindow = (w == 1))) := by decide +kernel

/-! ## Timing and the levee ring -/

/-- ReferenceInputs: an unranked input, a present one in each state, one not present, each state for LOS, each bandwidth, and a wait and a
build-out. -/
theorem witness_inputs :
    (∀ st ∈ [0, 1, 2, 3], (let s : State := { up [(TIM_IN_STATE 0, st), (TIM_IN_QLEFT 0, 4096)] with
                          refset := some (refD.set 1 (15 * 2 ^ 36)), tim := { ins := [(0, { active := true })] } }
     (⟨List.replicate 7 0, 0⟩ : RefSecond).wf = true ∧ s.rank 6 = 15 ∧ s.rank 0 ≠ 15 ∧ s.present 0 = true ∧ s.get (TIM_IN_STATE 0) = st
       ∧ s.get (TIM_IN_QLEFT 0) ≤ 4096 ∧ s.rank 1 ≠ 15 ∧ s.present 1 = false))
    ∧ (∀ st ∈ [0, 3], (up [(TIM_IN_STATE 3, st)]).get (TIM_IN_STATE 3) = st)
    ∧ (∀ b ∈ [0, 3], (let s := up [(TIM_STATUS_LOOP, 2), (TIM_STATUS_BW, b)]
       s.get TIM_STATUS_LOOP = 2 ∧ s.get TIM_STATUS_BW = b))
    ∧ (let s : State := { up [] with tim := { waiting := [5], pull := -1 } }
       s.tim.waiting = 5 :: [] ∧ s.tim.pull ≠ 0) ∧ (up []).tim.waiting = [] ∧ (up []).tim.pull = 0 := by decide +kernel
/-- R399: the fourth bandwidth step locks the loop. -/
theorem test_bandwidth : next? (exec .bandwidthStep (up [(TIM_STATUS_LOOP, 2), (TIM_STATUS_BW, 3)]))
    (fun t => t.get TIM_STATUS_LOOP == 3 && t.get TIM_STATUS_BW == 4) = true := by decide +kernel

/-- A ring with its link, enable and wicket, and so many valid groups heard, or invalid ones among the latest 1,024. -/
def ringed (link en wicket : Nat) (valid bad : Nat := 0) : State :=
  { up [(TIM_RINGSTAT_LINK, link), (TIM_RINGCTL_EN, en), (TIM_RINGSTAT_WICKET, wicket), (TIM_RINGCTL_ID, 2), (TIM_RINGCTL_MID, 1), (TIM_RINGCTL_TODEN, 0)]
    with rst := { asserted := false }, tim := { validRun := valid, latest := List.replicate bad false } }
/-- RingLink: link, enable and wicket each way; 1,023 and 1,024 valid groups, 15 and 16 invalid ones; and R408's /K28.5/ in either disparity. -/
theorem witness_ring_link :
    (∀ l ∈ [0, 1], ∀ en ∈ [0, 1], ∀ w ∈ [0, 1], (let s := ringed l en w
      s.get TIM_RINGSTAT_LINK = l ∧ s.get TIM_RINGCTL_EN = en ∧ s.wicketOpen = (w == 1) ∧ 5 ∈ s.rails.good ∧ s.rst.asserted = false))
    ∧ (∀ n ∈ [1023, 1024], (decide (1024 ≤ (ringed 0 1 0 n).tim.validRun)) = (n == 1024))
    ∧ (∀ n ∈ [15, 16], decide (16 ≤ (((ringed 1 1 0 0 n).tim.hear []).1.latest.filter (fun b => !b)).length) = (n == 16))
    ∧ (({} : Tim).hear [0b0011111010, 0]).2 = 1 := by decide +kernel
/-- R408: 1,024 valid groups bring the link up, the last of which a report has brought. -/
theorem test_link_up : next? (exec (.ringLinkDown ⟨false, [0b0011111010]⟩) (ringed 0 1 0 1023))
    (fun t => next? (exec .ringLinkUp t) (fun u => u.get TIM_RINGSTAT_LINK == 1)) = true := by decide +kernel

/-- A message with its CRC, or with one bit of it wrong. -/
def ringIn (ty src hops seq : Nat) (wrong : Bool := false) : RingIn :=
  let head := natBE ((ringMsg ty src hops seq (0xABC * 2 ^ 52) 0).bytes.map (BitVec.ofNat 8))
  ⟨BitVec.ofNat 128 (Nat.xor head wrong.toNat), 40⟩
/-- LeveeRing: messages of each type with a good and a bad CRC, from the master, from another and from this device, sent and not, at 14 and 15
hops, and a device that is the master and one that is not. -/
theorem witness_ring :
    (∀ ty ∈ [1, 2, 3], ∀ src ∈ [1, 2, 3], ∀ hops ∈ [14, 15], ∀ wrong ∈ [false, true], (let m := ringIn ty src hops 7 wrong
       m.ty = ty ∧ m.src = src ∧ m.hops = hops ∧ m.seq = 7
         ∧ (crcBits 16 0x1021 0xFFFF (bitsBE 112 (m.msg.toNat / 2 ^ 16)) = m.crc ↔ wrong = false)))
    ∧ (∀ w ∈ [0, 1], ∀ master ∈ [0, 1], ∀ tod ∈ [0, 1], (let g := (ringed 1 1 w).set TIM_RINGCTL_MASTER master
       let s : State := (({ g with tim := { sent := [7] } } : State).set TIM_RINGCTL_TODEN tod)
       s.wicketOpen = (w == 1) ∧ s.get TIM_RINGCTL_ID = 2 ∧ s.get TIM_RINGCTL_MID = 1 ∧ s.get TIM_RINGCTL_MASTER = master
         ∧ s.get TIM_RINGCTL_TODEN = tod ∧ s.mgtOn = true ∧ 7 ∈ s.tim.sent ∧ 8 ∉ s.tim.sent ∧ s.get (TIM_PEER_VALID 1) = 0)) := by decide +kernel

/-- TimingOutputs: a master that sends a SYNC and one that sends the DELAY, and TIM_OUT good and bad. -/
theorem witness_outputs :
    (∀ k ∈ [0, 255], (let s : State := { up [(TIM_STATUS_PUBLISHED, 1), (TIM_RINGCTL_MASTER, 1), (TIM_RINGSTAT_WICKET, 1)] with tim := { syncs := k } }
      s.get TIM_STATUS_PUBLISHED = 1 ∧ s.get TIM_RINGCTL_MASTER = 1 ∧ s.wicketOpen = true ∧ ((s.tim.syncs + 1) % 256 = 0 ↔ k = 255)
        ∧ s.ready = true ∧ s.regOn adr_TIM_OUT = true))
    ∧ ¬ (up []).get TIM_STATUS_PUBLISHED = 1
    ∧ freqOk (fieldOf (12 * 2 ^ 27 + 2 ^ 22) 27 4) = true ∧ freqOk (fieldOf (12 * 2 ^ 27 + 2 ^ 22) 22 4) = true
    ∧ freqOk (fieldOf (13 * 2 ^ 27 + 2 ^ 22) 27 4) = false := by decide +kernel

/-! ## Memory and error correction -/

/-- HostBanks: a bank of each owner, armed and not, a word with nothing flipped, and ECC_INJ naming the last bank. -/
theorem witness_host_banks : (∀ o ∈ [0, 3, 8, 9], ∀ arm ∈ [0, 1], ∀ rp ∈ [0, 1],
    (let g := up [(MEM_BANK_STATUS_OWNER 186, o), (MEM_BANK_STATUS_RETPEND 186, rp), (ECC_INJ_ARM, arm), (ECC_INJ_BANK, 186)]
     let s : State := { g with mem := { clearing := [186] } }
     s.ready = true ∧ s.regOn adr_MEM_CLAIM = true ∧ s.regOn adr_MEM_ACCCTL = true ∧ s.regOn adr_ECC_INJ = true ∧ s.owner 186 = o
       ∧ s.get ECC_INJ_ARM = arm ∧ s.get ECC_INJ_BANK = 186 ∧ s.get (MEM_BANK_STATUS_RETPEND 186) = rp ∧ 186 ∈ s.mem.clearing
       ∧ Assoc.get 0 (bankWord 186 65535) s.mem.flips = 0 ∧ s.wordPoison (bankWord 186 65535) = false))
    ∧ ECC_INJ_BANK.lo = 0 ∧ fieldOf 186 0 8 = 186 ∧ 192 ≤ (192 : BitVec 8).toNat := by decide +kernel
/-- R426, R427: claim; a word is written. -/
theorem test_claim : next? (exec (.memClaim 186) (up [])) (fun t => t.owner 186 == 8 && t.get MEM_CLAIMSTAT_RESULT == 0) = true
    ∧ next? (exec (.memClaim 187) (up [])) (fun t => t.owner 187 == 2 && t.get MEM_CLAIMSTAT_RESULT == 1) = true := by decide +kernel
theorem test_acc_write : next? (exec (.accWrite 186 65535 false false) (up [(MEM_BANK_STATUS_OWNER 186, 8), (MEM_ACCDHI_DATA, 1), (MEM_ACCDLO_DATA, 2)]))
    (fun t => t.wordData (bankWord 186 65535) == 2 ^ 32 + 2 && t.get MEM_ACCSTAT_DENIED == 0) = true := by decide +kernel

/-- ErrorCorrection: scrubbing and not, an idle word of bank 187 and another, with no, one and two bits flipped, a word poisoned and not; a bucket
that leaks. -/
theorem witness_scrub :
    (∀ en ∈ [0, 1], ∀ p ∈ [[], [bankWord 186 0, bankWord 187 65535]],
      (let g := up [(MEM_SCRUB_EN, en), (MEM_BANK_STATUS_BUCKET 186, 127), (MEM_BANK_STATUS_OWNER 186, 8)]
       let s : State := { g with mem := { poison := p } }
       s.get MEM_SCRUB_EN = en ∧ s.bankOn 186 = true ∧ s.bankOn 187 = true ∧ s.shutter < 7 ∧ Assoc.get 0 (bankWord 186 0) s.mem.flips = 0
         ∧ s.idleWord (bankWord 186 0) = false ∧ s.idleWord (bankWord 187 65535) = true ∧ s.ready = true ∧ s.regOn adr_MEM_ACCCTL = true
         ∧ s.owner 186 = 8 ∧ s.wordPoison (bankWord 186 0) = !p.isEmpty ∧ s.get (MEM_BANK_STATUS_BUCKET 186) - 1 < 128))
    ∧ popCount 73 (BitVec.toNat (w := 73) 4) = 1 ∧ popCount 73 (BitVec.toNat (w := 73) 5) = 2 := by decide +kernel
/-- R419: one bit is corrected, two poison the word. -/
theorem test_scrub : [(4, false), (5, true)].all (fun p => next? (exec (.scrubRead 186 0 (BitVec.ofNat 73 p.1)) (up [(MEM_SCRUB_EN, 1)]))
    (fun t => t.wordPoison (bankWord 186 0) == p.2)) = true := by decide +kernel

/-- A bank with a test of it under way, or not. -/
def testing (en spares : Nat) (l : List TestJob) : State := { up [(MEM_BIST_EN, en), (MEM_BANK_STATUS_SPARES 186, spares)] with mem := { tests := l } }
/-- BankTests: no test running, a background test and a hard one, a test with a block to go and one in its last, spares left and none, in and out
of shutter step 7; a log entry on its turn and not, inside and outside the write window, with the log about to be full; each life-cycle state. -/
theorem witness_bank_tests :
    (∀ en ∈ [0, 1], ∀ hard ∈ [false, true], (let s := testing en 3 [⟨186, 0, 65535, hard, true, false⟩]
     s.get MEM_BIST_EN = en ∧ s.bankOn 186 = true ∧ s.shutter < 7 ∧ s.mem.tests.all (fun j => j.bank == 186 && j.hard == hard) = true))
    ∧ (up []).testOf 186 = none
    ∧ (∀ k ∈ [0, 15], ∀ next ∈ [65408, 65472, 65535], (let j : TestJob := ⟨186, next, 65535, false, true, false⟩
       let s := testing 1 k [j]
       s.testOf 186 = some j ∧ s.bankOn 186 = true ∧ s.shutter ≠ 7 ∧ (j.next + 64 ≤ j.last ↔ next = 65408) ∧ s.get (MEM_BANK_STATUS_SPARES 186) = k
         ∧ s.mem.tests.Nodup ∧ (∀ x ∈ s.mem.tests, x.bank = 186 → x = j)
         ∧ s.get (MEM_BANK_STATUS_RETIRED 186) = 0 ∧ s.get (MEM_BANK_STATUS_RETPEND 186) = 0))
    ∧ (up [(THM_STATUS_STEP, 7)]).shutter = 7 ∧ popCount 73 (BitVec.toNat (w := 73) 5) = 2
    ∧ (∀ w ∈ [0, 1], ∀ n ∈ [254, 255], ∀ jobs ∈ [[MtpJob.log], [MtpJob.store, MtpJob.log]],
       (let g := up [(THM_STATUS_SEEDED, w)]
        let s : State := { g with
          mem := { log := [⟨186, 0, 1, 0, 0, 0⟩] }, mtp := { g.mtp with log := List.replicate n ⟨0, 0, 0, 0, 0, 0⟩ }, mgt := { g.mgt with jobs := jobs } }
        s.mem.log = ⟨186, 0, 1, 0, 0, 0⟩ :: [] ∧ s.mtpWindow = (w == 1) ∧ s.class3Turn .log = (jobs == [MtpJob.log]) ∧ s.mtp.log.length = n))
    ∧ (∀ lcs ∈ [0, 1], (let s := inState lcs 0 none
       s.ready = true ∧ s.regOn adr_ECC_LOGCTL = true ∧ s.regOn adr_ECC_LOGSEL = true ∧ s.mtp.lcs = lcs)) := by decide +kernel

/-! ## Polders and supplies -/

/-- PolderEntries: an unneeded polder in each state with its DWELL over and not, kept on by WHOLD and not, that may enter either state or none; a
needed one; and entries of both depths, with a wake latched and none. -/
theorem witness_entries (wh dw : Bool) : (∀ st ∈ [PState.on, .ret], ∀ q ∈ [(0, 2 ^ 32 - 1, 2), (1, 0, 0), (2, 2 ^ 32 - 1, 1)],
    (let s := (up [(PWR_PD_STATUS_HOLD 12, q.1), (PWR_PD_LTOL_LTOL 12, q.2.1)]).setPd 12 { st := st, whold := wh, dwelled := dw }
     12 ∈ polderList ∧ s.needed 12 = false ∧ (s.pd 12).st = st ∧ (s.pd 12).whold = wh ∧ (s.pd 12).dwelled = dw ∧ s.choose 12 = q.2.2)) := by
  cases wh <;> cases dw <;> decide +kernel
theorem witness_entry_ends :
    (let s := ((bound7 .enabled).set (SLU_ENG_STATUS_STATE 0) 2).setPd 2 { whold := true, dwelled := true }
     s.needed 2 = true ∧ (s.pd 2).whold = true ∧ (s.pd 2).dwelled = true)
    ∧ (∀ n ∈ [1, 12, 39], ∀ deep ∈ [true, false], ∀ lat ∈ [[], [15]],
        (let s := (up []).setPd n { st := .entering deep true, latched := lat }
         n ∈ polderList ∧ (s.pd n).st = .entering deep true ∧ (s.pd n).latched = lat ∧ s.barred n = false)) := by decide +kernel
/-- PolderStates: a polder in each state, with a wake cause it answers to and one it does not, a reason latched before and not; a timer that runs. -/
theorem witness_polders :
    (∀ n ∈ [1, 12, 39], ∀ st ∈ [PState.on, .ret, .off, .entering true true, .waking true, .waking false], ∀ lat ∈ [[], [15]],
       (let s := (up [(PWR_PD_STATUS_WAKE n, 0x8041)]).setPd n { st := st, latched := lat }
        n ∈ polderList ∧ (s.pd n).st = st ∧ (s.pd n).latched = lat ∧ s.bit (PWR_PD_STATUS_WAKE n) 15 = true ∧ s.bit (PWR_PD_STATUS_WAKE n) 14 = false
          ∧ s.barred n = false ∧ s.bit (PWR_PD_STATUS_WAKE n) 6 = true ∧ s.bit (PWR_PD_STATUS_WAKE n) 0 = true))
    ∧ (let s : State := { (up []).setPd 1 { st := .waking true } with clk := { asleep := true, timerOn := true } }
       s.clk.asleep = true ∧ s.clk.timerOn = true ∧ s.ready = true ∧ (s.pd 1).st = .waking true)
    ∧ (up []).regOn adr_PWR_TIMER = true ∧ State.reset.ready = false ∧ (up []).clk.timerOn = false := by decide +kernel
/-- R459: an entry to off ends with the polder off. -/
theorem test_off : next? (exec (.entryEnd 12 0 0) ((up []).setPd 12 { st := .entering true false })) (fun t => t.get (PWR_PD_STATUS_STATE 12) == 2) = true := by
  decide +kernel

/-- Supplies: each rail good and not, before and after READY, with VAON and without; the write window met and not, a store in its commit word and
not, a transition under way. -/
theorem witness_supplies :
    (∀ vaon ∈ [[5], []], ∀ r ∈ [0, 1, 2, 3, 4], (let s : State := { State.reset with rails := { good := vaon } }
       r ∉ s.rails.good ∧ s.ready = false ∧ (5 ∈ s.rails.good ↔ vaon = [5]) ∧ 2 ∉ s.rails.good))
    ∧ railStep 0 < railStep 4
    ∧ (let s := bound7 .enabled
       1 ∈ s.rails.good ∧ 2 ∈ s.rails.good ∧ 3 ∈ s.rails.good ∧ s.ready = true ∧ s.carHeld = false ∧ (s.pd (hlnPolder 27)).st = .on)
    ∧ (let s := locked1 []
       let u := s.setCar 1 { s.car 1 with tx := { running := true } }
       u.carHeld = false ∧ (u.car 1).active = true ∧ (u.car 1).tx.running = true ∧ (u.acq 1).lock.isSome = true ∧ u.mem.flips = [])
    ∧ (∀ r ∈ [1, 2, 3], r ∉ (({ up [] with rails := { good := [0, 4, 5] } } : State)).rails.good)
    ∧ (∀ w ∈ [0, 1], ∀ st ∈ [0, 2], (let s := State.puts (inState 1 0 none (some ⟨2, 1, false, false⟩) w) [(CNV_MTP_STATE, st)]
       s.get CNV_MTP_STATE = st ∧ s.cnv.committing = false ∧ s.windowTemp = (w == 1) ∧ s.cip.pendingCount = 0))
    ∧ (up []).clk.xoRuns = true ∧ ({ up [] with clk := { xoRuns := false } } : State).clk.xoRuns = false := by decide +kernel

/-! ## The thermal model and the shutter -/

/-- ThermalModel: a diode that reads and one that does not, a jump and a correction too large, a reading beyond the tamper limits; a failed and a
good diode to reinstate; a trial that has lasted 10 s, one that has not, one with a failed check and none. -/
theorem witness_thermal :
    (let x : ModelTick := ⟨List.replicate 16 200000, List.replicate 16 0, 0, none :: List.replicate 11 (some 205)⟩
     let s : State := { up [(THM_DIODE_STATE 5, 3)] with thm := { reads := [(11, 185), (10, 184), (9, 205)], corr := [(9, 61000)] } }
     x.wf = true ∧ s.get (THM_DIODE_STATE 11) = 0 ∧ x.diodes.getD 11 none = some 205
       ∧ ((205 : Int) - Assoc.get 205 11 s.thm.reads).natAbs ≤ 20 ∧ 20 < ((205 : Int) - Assoc.get 205 10 s.thm.reads).natAbs
       ∧ (s.zoneCorr 11 + (1000 * 205 - x.model.getD 11 0 - s.zoneCorr 11) / 100).natAbs ≤ 60000
       ∧ 60000 < (s.zoneCorr 9 + (1000 * 205 - x.model.getD 9 0 - s.zoneCorr 9) / 100).natAbs
       ∧ s.get (THM_DIODE_STATE 0) = 0 ∧ x.diodes.getD 0 none = none ∧ s.tamperRead x.diodes = false ∧ s.tamperRead [some 541] = true
       ∧ s.ready = true ∧ s.regOn adr_THM_DIODECTL = true
       ∧ bitOf (BitVec.toNat (w := 12) 0xFFF) 5 = 1 ∧ 1 ≤ s.get (THM_DIODE_STATE 5) ∧ s.get (THM_DIODE_STATE 5) ≤ 3)
    ∧ (∀ ms ∈ [9999, 10000], ∀ bad ∈ [0, 2], (let r : Trial := { diode := 11, bad := bad, ms := ms }
       let s : State := { up [] with thm := { trials := [r] } }
       s.thm.trials.find? (fun y => y.diode == 11) = some r ∧ r.bad < 8))
    ∧ (up []).thm.trials.find? (fun y => y.diode == 11) = none := by decide +kernel

/-- ShutterSteps: conditions at their limits at the lowest and highest step that they move. -/
theorem witness_shutter :
    (let s := up [(THM_STATUS_STEP, 2), (THM_STATUS_FLOOR, 3)]
     s.shutter < s.get THM_STATUS_FLOOR ∧ s.get THM_STATUS_FLOOR < 8 ∧ s.evaluate.mayStep = true)
    ∧ (∀ k ∈ [0, 6], (let s : State := { up [(THM_STATUS_STEP, k)] with thm := { hot := [(0, 11)], overMs := 11 } }
       s.mayStep = true ∧ s.get THM_STATUS_FLOOR ≤ s.shutter ∧ s.shutter < 7 ∧ s.settled = true ∧ s.hotNow = true ∧ s.overNow = true))
    ∧ (∀ k ∈ [1, 7], (let s : State := { up [(THM_STATUS_STEP, k), (THM_DWELL_RELDWELL, 10)] with thm := { coolMs := 11, sinceStep := 10 } }
       s.mayStep = true ∧ s.get THM_STATUS_FLOOR < s.shutter ∧ s.shutter ≤ 7 ∧ s.hotNow = false ∧ s.overNow = false ∧ s.coolNow = true
         ∧ s.get THM_DWELL_RELDWELL ≤ s.thm.sinceStep))
    ∧ (let s : State := { up [(THM_STATUS_TRIP, 0)] with thm := { tripMs := [(0, 2)] } }
       s.get THM_STATUS_TRIP = 0 ∧ s.tripDue = true)
    ∧ (let s : State := { up [(THM_STATUS_TRIP, 1)] with thm := { clearMs := 10001 } }
       s.get THM_STATUS_TRIP = 1 ∧ s.clearDue = true) := by decide +kernel
/-- R485: the step follows the floor, and a hot zone raises it. -/
theorem test_step_up : next? (exec .stepUp { up [] with thm := { hot := [(0, 11)] } }) (fun t => t.get THM_STATUS_STEP == 1 && t.get FEC_POOL_STEP == 1) = true := by
  decide +kernel

/-! ## Reset and bring-up -/

/-- Resets: in operation and in lockout, before and after READY, with counts that saturate and that do not. -/
theorem witness_resets : (∀ k ∈ [0, 255], (let s := up [(RST_COUNT_COLD, k), (RST_COUNT_WARM, k), (RST_COUNT_CRIT, k)]
    s.get RST_COUNT_COLD < 256 ∧ s.get RST_COUNT_WARM < 256 ∧ s.get RST_COUNT_CRIT < 256 ∧ s.ready = true ∧ s.regOn adr_RST_CTL = true
      ∧ s.rst.lockout = false ∧ s.rails.good.contains 5 = true ∧ s.rails.good.contains 0 = true ∧ s.rails.good.contains 4 = true))
    ∧ (∀ l ∈ [[5], [0, 4]], ∀ lock ∈ [false, true], (let s : State := { State.reset with rst := { lockout := lock }, rails := { good := l } }
       s.rst.lockout = lock ∧ s.ready = false ∧ s.rails.good.contains 5 = (l == [5]) ∧ s.rails.good.contains 0 = (l == [0, 4])))
    ∧ (let s : State := { ringed 1 1 1 with
         cip := { lcs := some ⟨3, 1, true, false⟩, kek := some ⟨false, 7, 0, [], true⟩ }, carA := { ost := .enabled, desc := carD } }
       s.wicketOpen = true ∧ s.get TIM_RINGSTAT_WICKET ≤ 1 ∧ s.cip.lcs.isSome = true ∧ s.cip.kek.isSome = true)
    ∧ (up [(SLU_LOAD_STATUS_BUSY, 1), (SLU_LOAD_STATUS_LAST_ERR, 3)]).get SLU_LOAD_STATUS_BUSY ≠ 0 := by
  decide +kernel
/-- R494: a host warm reset keeps the keys and returns a tributary to BOUND; a wrong key does nothing. -/
theorem test_warm : next? (exec (.hostwarm 0x5253) lastSeal) (fun t => t.cip.keys == lastSeal.cip.keys && (t.trib 0 7).ost == .bound) = true
    ∧ next? (exec (.hostwarm 0x5254) lastSeal) (fun t => t.ready) = true := by decide +kernel
/-- R492: RESET_N is a cold reset with cause 1. -/
theorem test_reset_n : next? (exec .resetN lastSeal) (fun t => t.get RST_STATUS_CAUSE == 1 && t.cip.keys.isEmpty) = true := by decide +kernel

/-- BringUpAndBoot: a released reset of each reach, each boot source, the last epoch but one and the last, DEBUG set and clear. -/
theorem witness_bring_up :
    (∀ b : Fin 4, (⟨b, 0, true, [], [], List.replicate 12 200, []⟩ : BringUp).wf = true)
    ∧ (∀ e ∈ [0, 2 ^ 24 - 2, 2 ^ 24 - 1], ∀ erase ∈ [0, 4], (let s : State := { State.reset with mtp := { epochA := e, lcs := 1, erase := erase } }
       s.released = true ∧ s.rst.reach < 2 ∧ s.clk.xoRuns = true ∧ s.mtp.lcs < 2 ∧ max s.mtp.epochA s.mtp.epochB = e ∧ s.mtp.erase = erase
         ∧ s.cip.tamperN = true))
    ∧ (let s : State := { State.reset with rst := { reach := 2 } }
       s.released = true ∧ s.rst.reach = 2)
    ∧ (up [(GLB_STATUS_DEBUG, 1)]).on GLB_STATUS_DEBUG = true ∧ (up []).on GLB_STATUS_DEBUG = false ∧ (up []).regOn adr_GLB_CTL = true := by
  decide +kernel
/-- R502, R503: an area of an END record alone (its CRC-32 computed apart from the model) ends the load in its first pass. -/
theorem test_trim_end : (trimLoad [[0xFF, 0, 0, 0] ++ bytesBE 4 0xff41d9ed]).ok = true ∧ (trimLoad [[0xFF, 0, 0, 0] ++ bytesBE 4 0xff41d9ed]).passes = 1 := by decide +kernel
/-- R503: with no record that verifies the load is given up after the fourth pass. -/
theorem test_trim_load : (trimLoad []).ok = false ∧ min 4 (trimLoad []).passes = 4 := by decide +kernel
/-- R503: RELEASE ends the debug halt. -/
theorem test_release : next? (exec .release (up [(GLB_STATUS_DEBUG, 1)])) (fun t => t.get GLB_STATUS_DEBUG == 0) = true := by decide +kernel

/-- A boot-flash directory that names one image of one word for store bank 0, with a CRC. -/
def directory (crc : Nat) : List Byte :=
  [0x44, 0x52, 0x42, 0x46, 0, 1, 0, 0, 0, 0, 0x10, 0, 0, 0, 0, 4] ++ List.replicate 44 0 ++ bytesBE 4 crc
/-- FlashLoadEnds: a directory that passes (its CRC-32 computed apart from the model) and one whose CRC is wrong. -/
theorem witness_flash :
    (∀ crc ∈ [1068949413, 0], (⟨directory crc, [[], [], [], []]⟩ : FlashLoad).wf = true)
    ∧ (let s : State := { up [] with rst := { flashLoading := true } }
       s.rst.flashLoading = true ∧ s.ready = true) ∧ (up []).rst.flashLoading = false
    ∧ flashCheck (directory 1068949413) = (0, 0) ∧ flashCheck (directory 0) = (2, 0) := by decide +kernel

/-! ## Housekeeping converter -/

/-- ConverterControl: a converter that may go, one that is busy, and the highest good and lowest bad settings. -/
theorem witness_converter_control :
    (let s := up [(HKA_CTL_EN, 1), (HKA_CTL_MODE, 0), (HKA_STATUS_BUSY, 0)]
     s.ready = true ∧ s.regOn adr_HKA_CTL = true ∧ s.regOn adr_HKA_SCAN = true ∧ s.regOn adr_HKA_DATA = true
       ∧ s.on HKA_CTL_EN = true ∧ s.on HKA_CTL_MODE = false ∧ s.on HKA_STATUS_BUSY = false ∧ s.clk.xoRuns = true)
    ∧ (up [(HKA_STATUS_BUSY, 1)]).on HKA_STATUS_BUSY = true
    ∧ HKA_CTL_GO.of (2 ^ HKA_CTL_GO.lo + 2 ^ HKA_CTL_EN.lo) = 1 ∧ HKA_CTL_EN.of (2 ^ HKA_CTL_GO.lo + 2 ^ HKA_CTL_EN.lo) = 1
    ∧ 24 < HKA_CTL_CHAN.of (25 * 2 ^ HKA_CTL_CHAN.lo) ∧ ¬ (24 < HKA_CTL_CHAN.of (24 * 2 ^ HKA_CTL_CHAN.lo))
    ∧ 8 < HKA_CTL_AVG.of (9 * 2 ^ HKA_CTL_AVG.lo) ∧ ¬ (8 < HKA_CTL_AVG.of (8 * 2 ^ HKA_CTL_AVG.lo))
    ∧ (let w := 24 * 2 ^ HKA_CTL_CHAN.lo + 8 * 2 ^ HKA_CTL_AVG.lo
       ¬ (24 < HKA_CTL_CHAN.of w ∨ 5 < HKA_CTL_PRESET.of w) ∧ ¬ (8 < HKA_CTL_AVG.of w ∨ 8 < HKA_CTL_SHIFT.of w)
         ∧ HKA_CTL_MODE.of w = 0 ∧ fieldOf w HKA_CTL_CHAN.lo HKA_CTL_CHAN.width ≠ (up []).get HKA_CTL_CHAN) := by decide +kernel
/-- R520: GO starts a conversion. -/
theorem test_go : next? (exec .hkaGo (up [(HKA_CTL_EN, 1), (HKA_CTL_MODE, 0), (HKA_STATUS_BUSY, 0)])) (fun t => t.get HKA_STATUS_BUSY == 1) = true := by decide +kernel

/-- Conversions: an output to discard, one to add, and an end on the last channel with an alarm about to fire. -/
def converting (discard taken : Nat) (l : List (Fld × Nat)) : State :=
  { up ([(HKA_CTL_EN, 1), (HKA_STATUS_BUSY, 1), (HKA_STATUS_CUR, 24)] ++ l) with
      adc := { integ := [0, 0, 0], comb := [0, 0, 0], discard := discard, taken := taken, sum := 1000, excursions := [(3, 2)] } }
theorem witness_conversions :
    (∀ d ∈ [0, 1, 4], (let s := converting d 0 []
      s.on HKA_STATUS_BUSY = true ∧ s.clk.xoRuns = true ∧ s.adc.discard = d ∧ s.adc.taken < 2 ^ s.get HKA_CTL_AVG
        ∧ (List.replicate (2 ^ (presetOf (s.get HKA_CTL_PRESET)).2) true).length = 2 ^ (presetOf (s.get HKA_CTL_PRESET)).2))
    ∧ (∀ low ∈ [1000, 1001], (let s := converting 0 1 [(HKA_CTL_AVG, 0), (HKA_ALM_EN 3, 1), (HKA_ALM_CHAN 3, 24), (HKA_ALMLIM_LOW 3, low),
         (HKA_ALMLIM_HIGH 3, 65535), (HKA_ALM_PERSIST 3, 2)]
       s.adc.taken = 2 ^ s.get HKA_CTL_AVG ∧ s.get HKA_STATUS_CUR < 25 ∧ s.on (HKA_ALM_EN 3) = true ∧ s.get (HKA_ALM_CHAN 3) = s.get HKA_STATUS_CUR
         ∧ (s.adc.sum / 2 ^ s.get HKA_CTL_AVG < s.get (HKA_ALMLIM_LOW 3) ↔ low = 1001) ∧ s.get (HKA_ALM_PERSIST 3) ≤ Assoc.get 0 3 s.adc.excursions
         ∧ s.adc.firedNow.contains 3 = false))
    ∧ (up []).on HKA_STATUS_BUSY = false ∧ 128 < (List.replicate 129 true).length ∧ (converting 0 1 [(HKA_CTL_AVG, 0), (HKA_DATA_VALID, 1)]).on HKA_DATA_VALID = true := by
  decide +kernel

/-! ## Management interfaces and performance monitoring -/

/-- SpiStatus and SpiAccess: after and before READY, an undefined code, a misaligned address, aligned ones, and a full mailbox. -/
theorem witness_spi :
    (let s := up []
     s.ready = true ∧ s.ports.spiResult < 4 ∧ s.get GLB_STATUS_LIMITED < 2 ∧ (0x04 : Byte).toNat ∉ [0x02, 0x03, 0x12, 0x13, 0x05])
    ∧ State.reset.ready = false ∧ (0x00FFFFFD : W32).toNat % 4 ≠ 0
    ∧ (let a : W32 := 0x00FFFFF8
       a.toNat % 4 = 0 ∧ a.toNat + 4 < 0x01000000 ∧ a.toNat ≠ 0x90180 ∧ a.toNat + 4 ≠ 0x90180)
    ∧ (let s : State := { up [] with mgt := { mail := List.replicate 16 [] } }
       s.ready = true ∧ s.spiOpen.regOn 0x90180 = true ∧ 16 ≤ s.mgt.mail.length
         ∧ next? (exec (.registerWrite 0x90180 0x80000000) s.spiOpen) (fun r => r.get MGT_MBXSTAT_RESULT == 5) = true)
    ∧ (0x04 : Byte).toNat ∉ [0x02, 0x03, 0x12, 0x13, 0x05] ∧ (0x05 : Byte).toNat ∈ [0x02, 0x03, 0x12, 0x13, 0x05]
    ∧ bitOf (0x80000000 : W32).toNat 31 = 1 ∧ bitOf (0x80000000 : W32).toNat 30 = 0 := by decide +kernel
/-- R529: the status byte before READY; a READ of GLB_ID. -/
theorem test_spi_status : next? (exec .status State.reset) (fun t => t.ports.spiStatus == 2) = true := by decide +kernel

/-- MailboxAndEventQueue: a mailbox with room for one and with none. -/
theorem witness_mailbox :
    (∀ n ∈ [15, 16], (let s : State := { up [] with mgt := { mail := List.replicate n [] } }
      s.ready = true ∧ s.regOn 0x90180 = true ∧ s.regOn 0x90214 = true ∧ s.mgt.mail.length = n
        ∧ ∀ w ∈ evqWords (s.evq.pos + 1), s.wordPoison w = false)) := by decide +kernel

/-- MailboxAnswers: a command of each kind at the head, with a second rolled up, incomplete, or none. -/
def mailed (m : List Nat) (rolled : List PmSecond) : State := { up [] with mgt := { mail := [m], rolled := rolled } }
theorem witness_answers :
    (∀ c ∈ [0, 1, 2, 3, 4], (let s := mailed [c * 2 ^ 24] []
       s.mgtServes = true ∧ s.mgt.unwraps = [] ∧ s.mgt.mail = [c * 2 ^ 24] :: [] ∧ fieldOf ([c * 2 ^ 24].headD 0) 24 8 = c
         ∧ ∀ x ∈ s.mgt.rolled, x.incomplete = true ∧ x.label ≠ 9))
    ∧ (∀ i ∈ [true, false], (let s := mailed [2 * 2 ^ 24, 9, 0x2BFF] [⟨9, i, []⟩]
       s.mgt.rolled = [] ++ [⟨9, i, []⟩] ∧ [2 * 2 ^ 24, 9, 0x2BFF].getD 1 0 = 9))
    ∧ (up []).mgt.mail = [] ∧ (mailed [0] []).mgt.unwraps = []
    ∧ 0x2400 ≤ 0x2BFF % 2 ^ 16 ∧ 0x2BFF % 2 ^ 16 < 0x2C00 ∧ 0x3000 % 2 ^ 16 / 0x1000 ≠ 1 ∧ 0x3000 % 2 ^ 16 / 0x1000 ≠ 2 := by decide +kernel
/-- R534: an undefined command is answered with BADCMD and its TAG. -/
theorem test_badcmd : next? (exec .badcmd (mailed [0x04550000] [])) (fun t => t.mgt.responses == [[0x04550100]]) = true := by decide +kernel

/-- PmSeconds: seven and eight pending seconds, in and out of debug halt, and a roll-up in its last slice and before it. -/
theorem witness_seconds :
    (∀ n ∈ [7, 8], ∀ d ∈ [0, 1], (let s : State := { up [(GLB_STATUS_DEBUG, d)] with mgt := { seconds := List.replicate n ⟨9, false, []⟩ } }
      s.ready = true ∧ s.mgtOn = true ∧ s.on GLB_STATUS_DEBUG = (d == 1) ∧ s.mgt.seconds = ⟨9, false, []⟩ :: List.replicate (n - 1) ⟨9, false, []⟩
        ∧ (List.replicate (n - 1) (⟨9, false, []⟩ : PmSecond)).length = n - 1))
    ∧ (∀ k ∈ [128, 129], (let s : State := { up [] with mgt := { seconds := [⟨9, false, []⟩], slices := 1 }, tribs := (List.range k).map (fun k => (k, {})) }
       s.mgtServes = true ∧ s.mgt.unwraps = [] ∧ s.mgt.mail = [] ∧ s.mgt.seconds = ⟨9, false, []⟩ :: []
         ∧ (s.tribs.length ≤ 64 * (s.mgt.slices + 1) ↔ k = 128))) ∧ State.reset.ready = false ∧ (up []).mgt.seconds = [] := by
  decide +kernel
/-- Its snapshot with no word poisoned, and with the last one poisoned. -/
theorem witness_snapshot : (∀ i, i < 4096 → (up []).wordPoison (187 * 65536 + 8192 + 4096 * (9 % 8) + i) = false)
    ∧ ({ up [] with mem := { poison := [187 * 65536 + 8192 + 4096 * (9 % 8) + 4095] } } : State).wordPoison (187 * 65536 + 8192 + 4096 * (9 % 8) + 4095) = true :=
  ⟨fun i hi => by
    have h : (up []).mem = {} := by decide +kernel
    have hc : (up []).on (MEM_BANK_STATUS_CHKFAIL 187) = false := by decide +kernel
    have hb : (187 * 65536 + 8192 + 4096 * (9 % 8) + i) / 65536 = 187 := by omega
    simp only [State.wordPoison, h, hb, hc]; simp, by decide +kernel⟩

/-- I2cAccess: the first and last index of the table, and the one after; before READY; with XO_IN stopped. -/
theorem witness_i2c :
    (let table : List Nat := [0x0, 0x4, 0x10, 0x10000, 0x10004, 0x20404, 0x20410, 0x20408, 0x30000, 0x50000, 0x4006C]
     table[(0 : Byte).toNat]? = some 0 ∧ table[(10 : Byte).toNat]? = some 0x4006C ∧ table.length ≤ (11 : Byte).toNat)
    ∧ (up []).ready = true ∧ (up []).clk.xoRuns = true ∧ State.reset.ready = false := by decide +kernel
/-- R542: index 11 is not acknowledged. -/
theorem test_i2c : [(10, false), (11, true)].all (fun p => next? (exec (.i2cRead (BitVec.ofNat 8 p.1)) (up [])) (fun t => t.ports.i2cNack == p.2)) = true := by
  decide +kernel

/-- JtagInstructions: DEBUG set and clear, each life-cycle state, and an active group that is UP. -/
theorem witness_jtag :
    (∀ lcs ∈ [0, 1, 2, 3], (inState lcs 0 none).mtp.lcs = lcs)
    ∧ (let s := group3 0 [(HLN_GRP_STATUS_STATE 3, 3)]
       s.jtagHold = false ∧ s.grpActive 3 = true ∧ s.get (HLN_GRP_STATUS_STATE 3) = 3) := by decide +kernel
/-- R548: IDCODE. -/
theorem test_idcode : next? (exec .idcode (up [])) (fun t => t.ports.jtagOut == 0x148125A7) = true := by decide +kernel

/-- PerformanceCounters: the last counter, a selection that is valid and one of an undefined signal. -/
theorem witness_pmc :
    (let s := up []
     s.ready = true ∧ s.regOn (0xA0008 + 0x10 * 63) = true ∧ s.regOn 0xA0400 = true)
    ∧ (let v := (PMC_SEL_CLR 63).of (2 ^ (PMC_SEL_CLR 63).lo)
       v = 1) ∧ pmcSelOk 0 0 0 = true ∧ pmcLevelKind 0x0C = none := by decide +kernel

end Sys2Proof.Tests
end

section
/-! PROOFS. The state right after power-on reset (R11, R27, R457). -/

namespace Sys2Proof.Assoc

variable {α : Type}

/-- A key that no entry lists reads as unlisted. -/
theorem get_of_not_listed (d : α) {k : Nat} {m : List (Nat × α)} (h : k ∉ m.map (fun p => p.1)) : get d k m = d := by
  suffices find k m = none by simp [get, this]
  induction m with
  | nil => rfl
  | cons c t ih =>
    obtain ⟨hc, ht⟩ := not_or.mp (fun e => h (List.mem_cons.mpr e))
    simp [find, Ne.symm hc, ih ht]

end Sys2Proof.Assoc

namespace Sys2Proof.Machine

open Reg

/-- A field that reset does not list reads the reset value of its table. -/
theorem State.get_reset {f : Fld} (h : f.key ∉ resetFields.map (fun p => p.1)) : State.reset.get f = f.rst :=
  Assoc.get_of_not_listed f.rst h

/-- The fields that reset lists are HOLD of AON, MGT, SLU and MEM23 (R457) and the owners of the fixed banks (R27). -/
theorem listed_at_reset {k : Nat} (h : k ∈ resetFields.map (fun p => p.1)) :
    (∃ n, (n = 0 ∨ n = 1 ∨ n = 2 ∨ n = 39) ∧ k = (PWR_PD_STATUS_HOLD n).key)
      ∨ ∃ b, 187 ≤ b ∧ b < 192 ∧ k = (MEM_BANK_STATUS_OWNER b).key := by
  simp only [resetFields, List.map_cons, List.map_nil, List.mem_cons, List.not_mem_nil, or_false] at h
  rcases h with h | h | h | h | h | h | h | h | h
  · exact .inl ⟨0, by decide, h⟩
  · exact .inl ⟨1, by decide, h⟩
  · exact .inl ⟨2, by decide, h⟩
  · exact .inl ⟨39, by decide, h⟩
  · exact .inr ⟨187, by decide, by decide, h⟩
  · exact .inr ⟨188, by decide, by decide, h⟩
  · exact .inr ⟨189, by decide, by decide, h⟩
  · exact .inr ⟨190, by decide, by decide, h⟩
  · exact .inr ⟨191, by decide, by decide, h⟩

/-- The state code of an engine is not among them. -/
theorem engState_not_listed {e : Nat} : (SLU_ENG_STATUS_STATE e).key ∉ resetFields.map (fun p => p.1) := by
  intro hl
  rcases listed_at_reset hl with ⟨n, _, hk⟩ | ⟨b, _, _, hk⟩
  · simp only [Fld.key, SLU_ENG_STATUS_STATE, adr_SLU_ENG_STATUS, PWR_PD_STATUS_HOLD, adr_PWR_PD_STATUS] at hk
    omega
  · simp only [Fld.key, SLU_ENG_STATUS_STATE, adr_SLU_ENG_STATUS, MEM_BANK_STATUS_OWNER, adr_MEM_BANK_STATUS] at hk
    omega

/-- HOLD of a polder other than the four is not among them. -/
theorem hold_not_listed {n : Nat} (hn : ¬ (n = 0 ∨ n = 1 ∨ n = 2 ∨ n = 39)) :
    (PWR_PD_STATUS_HOLD n).key ∉ resetFields.map (fun p => p.1) := by
  intro hl
  rcases listed_at_reset hl with ⟨m, _, hk⟩ | ⟨b, _, _, hk⟩
  · simp only [Fld.key, PWR_PD_STATUS_HOLD, adr_PWR_PD_STATUS] at hk
    omega
  · simp only [Fld.key, PWR_PD_STATUS_HOLD, adr_PWR_PD_STATUS, MEM_BANK_STATUS_OWNER, adr_MEM_BANK_STATUS] at hk
    omega

/-- The owner of a bank below the fixed ones is not among them. -/
theorem owner_not_listed {b : Nat} (h : b < 187) : (MEM_BANK_STATUS_OWNER b).key ∉ resetFields.map (fun p => p.1) := by
  intro hl
  rcases listed_at_reset hl with ⟨n, _, hk⟩ | ⟨c, _, _, hk⟩
  · simp only [Fld.key, PWR_PD_STATUS_HOLD, adr_PWR_PD_STATUS, MEM_BANK_STATUS_OWNER, adr_MEM_BANK_STATUS] at hk
    omega
  · exact absurd (owner_key_inj hk) (by omega)

/-- R457: the default HOLD of every polder. -/
theorem State.reset_hold (n : Nat) :
    State.reset.get (PWR_PD_STATUS_HOLD n) = if n = 0 ∨ n = 1 ∨ n = 2 ∨ n = 39 then 1 else 0 := by
  split
  · next hn => rcases hn with rfl | rfl | rfl | rfl <;> rfl
  · next hn => exact State.get_reset (hold_not_listed hn)

/-- R27, R445: every bank is FREE but the fixed ones. -/
theorem State.reset_owner {b : Nat} (h : b < 192) :
    State.reset.owner b = if b < 187 then 0 else if b = 187 then 2 else 1 := by
  obtain hb | rfl | rfl | rfl | rfl | rfl : b < 187 ∨ b = 187 ∨ b = 188 ∨ b = 189 ∨ b = 190 ∨ b = 191 := by omega
  · rw [if_pos hb]
    exact State.get_reset (owner_not_listed hb)
  all_goals rfl

/-- No carrier is bound at reset. -/
theorem State.reset_car (c : Nat) : (State.reset.car c).ost = .unbound := by
  unfold State.car
  split <;> rfl

end Sys2Proof.Machine

namespace Sys2Proof.Proofs

open Sys2Proof.Machine Sys2Proof.Machine.Reg

/-- Settles O3: the fields that reset lists are read one by one, every other one through `State.get_reset`. -/
theorem resetState : Obligations.ResetState := by
  refine ⟨rfl, rfl, ?_, fun n _ => State.reset_hold n, fun b => State.reset_owner, ?_, State.reset_car, fun _ _ => rfl, rfl, rfl,
    fun _ => rfl⟩
  · intro f hf
    exact State.get_reset (by simpa using hf)
  · exact fun _ _ => ⟨State.get_reset engState_not_listed, rfl⟩

end Sys2Proof.Proofs
end

section
/-! PROOFS. What a register write does (R8, R10, R454, R499). -/

namespace Sys2Proof.Machine

open Reg

/-! ## One field -/

/-- The field at an address that a row of its register's table names. -/
def FieldRow.fld (r : FieldRow) (a : Nat) : Fld := ⟨a, r.lo, r.width, r.rst⟩

/-- A write can change the field of a row: its access type is RW or W1C (R8). -/
def FieldRow.writable (r : FieldRow) : Bool := r.acc == .rw || r.acc == .w1c

/-- The value that a field holds is all that a write to it takes of the state. -/
theorem State.get_writeField_congr {s t : State} (a v : Nat) {r : FieldRow} (h : t.get (r.fld a) = s.get (r.fld a)) :
    (t.writeField a v r).get (r.fld a) = (s.writeField a v r).get (r.fld a) := by
  unfold FieldRow.fld at *
  unfold State.writeField
  cases hr : r.acc with
  | rw => dsimp only; split <;> simp [h]
  | w1c => simp [h]
  | ro | w1s | wo | rc => exact h

/-- An RW field whose range holds the written value takes its bits (R8). -/
theorem State.get_writeField_rw (s : State) {a v : Nat} {r : FieldRow} (hr : r.acc = .rw)
    (ht : fieldTakes a r.lo (fieldOf v r.lo r.width) = true) :
    (s.writeField a v r).get (r.fld a) = fieldOf v r.lo r.width := by
  have hset : s.writeField a v r = s.set (r.fld a) (fieldOf v r.lo r.width) := by
    simp only [State.writeField, hr, Fld.of, ht, if_true, FieldRow.fld]
  rw [hset, State.get_set_same]
  exact Nat.mod_mod _ _

/-- What W1C leaves of one bit when one bit is written to it. -/
theorem clear_bit : ∀ x < 2, ∀ b < 2, (x - Nat.land x b) % 2 ^ 1 = if b = 1 then 0 else x := by decide

/-- A W1C bit is cleared by a 1 and kept by a 0 (R8). -/
theorem State.get_writeField_w1c (s : State) {a v : Nat} {r : FieldRow} (hr : r.acc = .w1c) (hw : r.width = 1)
    (hs : s.get (r.fld a) < 2) :
    (s.writeField a v r).get (r.fld a) = if bitOf v r.lo = 1 then 0 else s.get (r.fld a) := by
  have hb : fieldOf v r.lo r.width = bitOf v r.lo := by rw [fieldOf, bitOf, hw, Nat.pow_one]
  have hset : s.writeField a v r = s.set (r.fld a) (s.get (r.fld a) - Nat.land (s.get (r.fld a)) (bitOf v r.lo)) := by
    simp only [State.writeField, hr, Fld.of, hb, FieldRow.fld]
  rw [hset, State.get_set_same]
  simp only [FieldRow.fld, hw] at hs ⊢
  exact clear_bit _ hs _ (Nat.mod_lt _ (by decide))

/-- A write to a field changes register fields only. -/
theorem State.keeps_writeField (s : State) (a v : Nat) (r : FieldRow) : Keeps [.flds] s (s.writeField a v r) := by
  unfold State.writeField
  cases r.acc with
  | rw => exact ((Keeps.refl _ s).set (by simp) _ _).ite (Keeps.refl _ s)
  | w1c => exact (Keeps.refl _ s).set (by simp) _ _
  | ro | w1s | wo | rc => exact Keeps.refl _ s

/-- A write to a field leaves every field but that one, and that one too where its access type is neither RW nor W1C. -/
theorem State.keepsFlds_writeField {o : Nat → Bool} (s : State) (a v : Nat) {r : FieldRow}
    (h : r.writable = true → o (r.fld a).key = true) : KeepsFlds o s (s.writeField a v r) := by
  unfold FieldRow.writable at h
  unfold State.writeField
  cases hr : r.acc with
  | rw => exact ((KeepsFlds.refl o s).set (h (by rw [hr]; rfl)) _).ite (KeepsFlds.refl o s)
  | w1c => exact (KeepsFlds.refl o s).set (h (by rw [hr]; rfl)) _
  | ro | w1s | wo | rc => exact KeepsFlds.refl o s

/-! ## The fields of one register -/

/-- Writing other fields of the register leaves a field. -/
theorem State.get_foldl_writeField_other (a v : Nat) {r : FieldRow} (l : List FieldRow) (h : r.lo ∉ l.map FieldRow.lo) (s : State) :
    (l.foldl (fun s q => s.writeField a v q) s).get (r.fld a) = s.get (r.fld a) := by
  have hk : KeepsFlds (fun k => k != (r.fld a).key) s (l.foldl (fun s q => s.writeField a v q) s) := by
    refine (KeepsFlds.refl _ s).foldl l (fun u q hq => u.keepsFlds_writeField a v (fun _ => ?_))
    have hne : q.lo ≠ r.lo := fun e => h (e ▸ List.mem_map_of_mem hq)
    simpa [Fld.key, FieldRow.fld] using hne
  exact hk _ (by simp)

/-- Where no two fields start at one bit, each field takes its own write. -/
theorem State.get_foldl_writeField (a v : Nat) {r : FieldRow} (l : List FieldRow) (hl : (l.map FieldRow.lo).Nodup) (hr : r ∈ l)
    (s : State) :
    (l.foldl (fun s q => s.writeField a v q) s).get (r.fld a) = (s.writeField a v r).get (r.fld a) := by
  induction l generalizing s with
  | nil => cases hr
  | cons q l ih =>
    obtain ⟨hq, hn⟩ := List.nodup_cons.mp hl
    rcases List.mem_cons.mp hr with rfl | hr
    · exact State.get_foldl_writeField_other a v l hq _
    · have hne : r.lo ≠ q.lo := fun e => hq (e ▸ List.mem_map_of_mem hr)
      exact (ih hn hr _).trans
        (State.get_writeField_congr a v (State.get_foldl_writeField_other a v [q] (by simpa using hne) s))

/-- A plain write changes register fields only. -/
theorem State.keeps_writePlain (s : State) (a v : Nat) : Keeps [.flds] s (s.writePlain a v) :=
  (Keeps.refl _ s).foldl (fun u r => u.keeps_writeField a v r) _

/-- A plain write leaves every field but the RW and W1C fields of its register. -/
theorem State.keepsFlds_writePlain (s : State) (a v : Nat) :
    KeepsFlds (fun k => (regFields a).any (fun r => (r.fld a).key == k && r.writable)) s (s.writePlain a v) :=
  (KeepsFlds.refl _ s).foldl _ (fun u r hr => u.keepsFlds_writeField a v
    (fun hw => List.any_eq_true.mpr ⟨r, hr, by rw [hw]; simp⟩))

/-! ## The registers that access types alone decide -/

/-- The registers of the always-on blocks whose write does more than its access types say; the limits of the housekeeping converter
(0x40020 on) do too. -/
def actingAon : List Nat :=
  [adr_GLB_CTL, adr_RST_CTL, adr_PWR_TIMER, adr_THM_CTL, adr_THM_PWR, adr_THM_DWELL, adr_THM_DIODECTL, adr_HKA_CTL, adr_HKA_SCAN,
    adr_TIM_OUT, adr_MEM_CLAIM, adr_MEM_ACCCTL, adr_ECC_INJ, adr_ECC_LOGCTL, adr_ECC_LOGSEL]

/-- The same of HLN, TRB, CIP and FRM, beside the arrays of lane controls, transmit equalisers and test patterns, the KEK buffer and
the defect thresholds. -/
def actingPath : List Nat := [adr_HLN_THRESH, adr_TRB_CMSEL, adr_CIP_LCS, adr_CIP_KSSEL, adr_CIP_KEKCTL]

theorem State.writeAon_plain (s : State) {a : Nat} (v : Nat) (h : a ∉ actingAon) (hn : nthReg 0x40020 8 4 a = none) :
    s.writeAon a v = s.writePlain a v := by
  simp only [actingAon, List.mem_cons, List.not_mem_nil, or_false, not_or] at h
  simp only [State.writeAon, h, hn, if_false, false_or]

theorem State.writePath_plain (s : State) {a : Nat} (v : Nat) (h : a ∉ actingPath) (hb : nthReg 0x190040 4 16 a = none)
    (hc : nthReg 0x100000 0x40 28 a = none) (ht : nthReg 0x100014 0x40 28 a = none) (hp : nthReg 0x100018 0x40 28 a = none)
    (hf : a < 0x1C0048) : s.writePath a v = s.writePlain a v := by
  simp only [actingPath, List.mem_cons, List.not_mem_nil, or_false, not_or] at h
  have h0 : ¬ (0x1C0048 ≤ a ∧ a < 0x1C0060) := by omega
  have h1 : ¬ (0x1C0148 ≤ a ∧ a < 0x1C0160) := by omega
  simp only [State.writePath, h, hb, hc, ht, hp, h0, h1, if_false]

/-- The registers of `plainRegs` lie in the always-on blocks, or are the events of a host lane; none of them acts. -/
theorem plainRegs_block : ∀ a ∈ plainRegs,
    (a / 0x10000 < 8 ∧ a ∉ actingAon ∧ nthReg 0x40020 8 4 a = none)
    ∨ (a / 0x10000 = 0x10 ∧ a ∉ actingPath ∧ nthReg 0x190040 4 16 a = none ∧ nthReg 0x100000 0x40 28 a = none
      ∧ nthReg 0x100014 0x40 28 a = none ∧ nthReg 0x100018 0x40 28 a = none) := by decide

/-- The tables of these registers: an address is a multiple of 4, some field is listed, no two fields start at one bit, and a W1C
field is one bit. -/
theorem plainRegs_fields : ∀ a ∈ plainRegs,
    a % 4 = 0 ∧ regFields a ≠ [] ∧ ((regFields a).map FieldRow.lo).Nodup
    ∧ ∀ r ∈ regFields a, r.acc = .w1c → r.width = 1 := by decide

/-- R8: a write to one of these registers is a plain write. -/
theorem State.writeReg_plain (s : State) {a : Nat} (v : Nat) (h : a ∈ plainRegs) : s.writeReg a v = s.writePlain a v := by
  rcases plainRegs_block a h with ⟨hb, hact, hn⟩ | ⟨hb, hact, hk, hc, ht, hp⟩
  · simp only [State.writeReg, hb, if_true]
    exact s.writeAon_plain v hact hn
  · have hf : a < 0x1C0048 := by omega
    simp only [State.writeReg, hb]
    exact s.writePath_plain v hact hk hc ht hp hf

/-- The registers that stand alone and have a field with a range. -/
def rangedRegs : List Nat :=
  [adr_FEC_ALLOC, adr_DS_OSNRCAL 0, adr_DS_OSNRCAL 1, adr_CNV_STCTL, adr_TIM_CTL, adr_MEM_SCRUB, adr_MEM_BIST, adr_ECC_BUCKET,
    adr_PWR_CTL, adr_TRB_DEFRAG]

/-- A field outside the registers with a range takes every value: the arrays of such registers lie in the blocks of FRM, FEC and
CNV. -/
theorem fieldTakes_unranged {a : Nat} (h : a ∉ rangedRegs) (hb : a / 0x10000 ≠ 0x1C ∧ a / 0x10000 ≠ 0x20 ∧ a / 0x10000 ≠ 0x30)
    (lo v : Nat) : fieldTakes a lo v = true := by
  simp only [rangedRegs, List.mem_cons, List.not_mem_nil, or_false, not_or] at h
  simp only [fieldTakes, h, hb, false_and, or_self, if_false]

/-- None of the registers of `plainRegs` has a range. -/
theorem plainRegs_unranged : ∀ a ∈ plainRegs,
    a ∉ rangedRegs ∧ a / 0x10000 ≠ 0x1C ∧ a / 0x10000 ≠ 0x20 ∧ a / 0x10000 ≠ 0x30 := by decide

/-! ## The command -/

/-- Before READY (R499), or at an address that is no multiple of 4, a register write does nothing. -/
theorem exec_registerWrite_ignored {a : W32} (v : W32) {s : State} (h : s.ready = false ∨ a.toNat % 4 ≠ 0) :
    exec (.registerWrite a v) s = .next s := by
  have hc : ¬ (s.ready = true ∧ a.toNat % 4 = 0) := by
    rintro ⟨hr, ha⟩
    rcases h with h | h
    · rw [h] at hr; cases hr
    · exact h ha
  exact congrArg Host.Outcome.next (if_neg hc)

/-- After READY it writes the register at its address. -/
theorem exec_registerWrite_ready {a : W32} (v : W32) {s : State} (hr : s.ready = true) (ha : a.toNat % 4 = 0) :
    exec (.registerWrite a v) s = .next (s.regWrite a.toNat v.toNat) :=
  congrArg Host.Outcome.next (if_pos ⟨hr, ha⟩)

theorem State.regWrite_off {s : State} {a : Nat} (v : Nat) (h : s.regOn a = false) : s.regWrite a v = s.offAccess := by
  simp only [State.regWrite, h, if_true]

theorem State.regWrite_unassigned {s : State} {a : Nat} (v : Nat) (h : s.regOn a = true) (hf : regFields a = []) :
    s.regWrite a v = s := by
  simp [State.regWrite, h, hf]

theorem State.regWrite_plain {s : State} {a : Nat} (v : Nat) (h : s.regOn a = true) (hp : a ∈ plainRegs) :
    s.regWrite a v = s.writePlain a v := by
  obtain ⟨-, hne, -⟩ := plainRegs_fields a hp
  simp [State.regWrite, h, hne, s.writeReg_plain v hp]

/-- R454: an access to a register whose polder is off counts in PWR_OFFACC and does nothing else. -/
theorem State.only_offAccess (s : State) : Only [PWR_OFFACC_COUNT] s s.offAccess :=
  ⟨(Keeps.refl _ s).set (by simp) _ _, (KeepsFlds.refl _ s).set (by simp [among]) _⟩

end Sys2Proof.Machine

namespace Sys2Proof.Proofs

open Sys2Proof.Machine Sys2Proof.Machine.Reg

/-- Settles O4: READY and the address decide whether the register is written, its polder whether the write arrives; in a plain register
the fields are written one by one, and no two of them share a bit. -/
theorem registerWrites : Obligations.RegisterWrites := by
  intro a v s
  refine ⟨exec_registerWrite_ignored v, ?_, ?_, ?_⟩
  · intro hr ha hoff
    refine ⟨s.offAccess, ?_, State.get_set_same s _ _, s.only_offAccess⟩
    rw [exec_registerWrite_ready v hr ha, State.regWrite_off _ hoff]
  · rintro ⟨hr, hon⟩ hf
    by_cases ha : a.toNat % 4 = 0
    · rw [exec_registerWrite_ready v hr ha, State.regWrite_unassigned _ hon hf]
    · exact exec_registerWrite_ignored v (.inr ha)
  · rintro ⟨hr, hon⟩ hp
    obtain ⟨ha, -, hnodup, hbit⟩ := plainRegs_fields _ hp
    refine ⟨s.writePlain a.toNat v.toNat, ?_, s.keeps_writePlain _ _, s.keepsFlds_writePlain _ _, fun r hrow => ⟨?_, ?_⟩⟩
    · rw [exec_registerWrite_ready v hr ha, State.regWrite_plain _ hon hp]
    · intro hacc
      obtain ⟨hranged, hblock⟩ := plainRegs_unranged _ hp
      exact (State.get_foldl_writeField _ _ _ hnodup hrow s).trans
        (s.get_writeField_rw hacc (fieldTakes_unranged hranged hblock _ _))
    · intro hacc hlt
      exact (State.get_foldl_writeField _ _ _ hnodup hrow s).trans (s.get_writeField_w1c hacc (hbit r hrow hacc) hlt)

end Sys2Proof.Proofs
end

section
/-! PROOFS. What the steps leave of the bytes of the banks (R26, R424). Every function of the state that does not write a bank leaves
its bytes as they are; each says so once, as a simp rule, so that the meanings built from it need not unfold it again. -/

namespace Sys2Proof.Machine

open Reg

/-! ## The bytes of a state -/

/-- What leaves the memory leaves its bytes. -/
theorem Keeps.bytes {l : List Part} {s t : State} (h : Keeps l s t) (hl : Part.mem ∉ l) : t.mem.bytes = s.mem.bytes :=
  congrArg Mem.bytes (h .mem hl)

@[simp] theorem State.setMem_bytes (s : State) (m : Mem) : (s.setMem m).mem.bytes = m.bytes := rfl

@[simp] theorem State.ite_bytes (c : Prop) {_ : Decidable c} (s t : State) :
    (if c then s else t).mem.bytes = if c then s.mem.bytes else t.mem.bytes := by split <;> rfl

/-- Two states hold the same bytes. -/
def AgreeOnBytes (s t : State) : Prop := t.mem.bytes = s.mem.bytes

/-- An update leaves the bytes of every state. -/
def FixesBytes (f : State → State) : Prop := ∀ u, AgreeOnBytes u (f u)

@[simp] theorem agreeOnBytes_iff (s t : State) : AgreeOnBytes s t ↔ t.mem.bytes = s.mem.bytes := ⟨id, id⟩

@[simp] theorem fixesBytes_iff (f : State → State) : FixesBytes f ↔ ∀ u, AgreeOnBytes u (f u) := ⟨id, id⟩

/-- A fold of updates that leave the bytes leaves them. -/
@[simp] theorem State.foldl_bytes {α : Type} {g : State → α → State} (hg : ∀ a, FixesBytes (fun u => g u a)) (l : List α)
    (s : State) : (l.foldl g s).mem.bytes = s.mem.bytes := by
  induction l generalizing s with
  | nil => rfl
  | cons a l ih => exact (ih _).trans (hg a s)

section

variable (s : State)

/-! ## Registers, engines and events -/

@[simp] theorem State.wrs_bytes (v : Nat) (l : List Fld) : (s.wrs v l).mem.bytes = s.mem.bytes := by simp [State.wrs]
@[simp] theorem State.zero_bytes (l : List Fld) : (s.zero l).mem.bytes = s.mem.bytes := by simp [State.zero]
@[simp] theorem State.offAccess_bytes : s.offAccess.mem.bytes = s.mem.bytes := by simp [State.offAccess]
@[simp] theorem State.setCarTx_bytes (c : Nat) (x : CarTx) : (s.setCarTx c x).mem.bytes = s.mem.bytes := by simp [State.setCarTx]
@[simp] theorem State.setCarRx_bytes (c : Nat) (x : CarRx) : (s.setCarRx c x).mem.bytes = s.mem.bytes := by simp [State.setCarRx]
@[simp] theorem State.setTribTx_bytes (n : Nat) (x : TribTx) : (s.setTribTx n x).mem.bytes = s.mem.bytes := by simp [State.setTribTx]
@[simp] theorem State.setTribRx_bytes (n : Nat) (x : TribRx) : (s.setTribRx n x).mem.bytes = s.mem.bytes := by simp [State.setTribRx]
@[simp] theorem State.pmcAdd_bytes (k n : Nat) : (s.pmcAdd k n).mem.bytes = s.mem.bytes := by simp [State.pmcAdd]
@[simp] theorem State.pmc_bytes (sig inst n : Nat) : (s.pmc sig inst n).mem.bytes = s.mem.bytes := 
  ((Keeps.refl [.flds] s).pmc (by simp) sig inst n).bytes (by simp)
@[simp] theorem State.retireEng_bytes (e : Nat) : (s.retireEng e).mem.bytes = s.mem.bytes := 
  ((Keeps.refl [.flds, .engines] s).retireEng (by simp) (by simp) e).bytes (by simp)
@[simp] theorem State.finishWait_bytes (w : Wait) (res : Nat) : (s.finishWait w res).mem.bytes = s.mem.bytes := 
  ((Keeps.refl [.flds, .engines] s).finishWait (by simp) (by simp) w res).bytes (by simp)
@[simp] theorem State.writeEvent_bytes (src time code step seq handle : Nat) (lost : Bool) (items : List Nat) :
    (s.writeEvent src time code step seq handle lost items).mem.bytes = s.mem.bytes := 
  ((Keeps.refl [.flds, .evq] s).writeEvent (by simp) (by simp) src time code step seq handle lost items).bytes (by simp)
@[simp] theorem State.post_bytes (src code handle : Nat) (items : List Nat) : (s.post src code handle items).mem.bytes = s.mem.bytes := 
  ((Keeps.refl [.flds, .evq, .engines] s).post (by simp) (by simp) (by simp) src code handle items).bytes (by simp)
@[simp] theorem State.pmCount_bytes (h i n : Nat) : (s.pmCount h i n).mem.bytes = s.mem.bytes := by simp [State.pmCount]
@[simp] theorem State.bumpPm_bytes (f : Fld) (d n i k : Nat) : (s.bumpPm f d n i k).mem.bytes = s.mem.bytes := by simp [State.bumpPm]
@[simp] theorem State.free_bytes : s.free.2.mem.bytes = s.mem.bytes := by simp [State.free]

/-! ## Memory and error correction (R419 to R446) -/

@[simp] theorem State.setOwner_bytes (b o : Nat) : (s.setOwner b o).mem.bytes = s.mem.bytes := by simp [State.setOwner]
@[simp] theorem State.releaseBank_bytes (b : Nat) : (s.releaseBank b).mem.bytes = s.mem.bytes := by simp [State.releaseBank]
@[simp] theorem State.showWindow_bytes : s.showWindow.mem.bytes = s.mem.bytes := by simp [State.showWindow]
@[simp] theorem State.queueJobs_bytes : s.queueJobs.mem.bytes = s.mem.bytes := by simp [State.queueJobs]
@[simp] theorem State.popJob_bytes : s.popJob.mem.bytes = s.mem.bytes := by simp [State.popJob]
@[simp] theorem State.queueLog_bytes (e : LogEntry) : (s.queueLog e).mem.bytes = s.mem.bytes := by simp [State.queueLog]
@[simp] theorem State.retireBank_bytes (b cause sector bit : Nat) : (s.retireBank b cause sector bit).mem.bytes = s.mem.bytes :=
  by simp [State.retireBank]
@[simp] theorem State.placeOn_bytes (role obj part need : Nat) (banks : List Nat) :
    (s.placeOn role obj part need banks).mem.bytes = s.mem.bytes := by simp [State.placeOn]
theorem State.place_bytes (role obj need : Nat) {t : State} (e : s.place role obj need = some t) : t.mem.bytes = s.mem.bytes := by
  unfold State.place at e
  split at e
  · cases e
  · cases e; simp
theorem State.placePage_bytes (obj page : Nat) {t : State} (e : s.placePage obj page = some t) : t.mem.bytes = s.mem.bytes := by
  unfold State.placePage at e
  split at e
  · cases e; simp
  · cases e
theorem State.placeConn_bytes (obj : Nat) {t : State} (e : s.placeConn obj = some t) : t.mem.bytes = s.mem.bytes := by
  simp only [State.placeConn, List.foldl_cons, List.foldl_nil, Option.bind_some, Option.bind_eq_some_iff] at e
  obtain ⟨s3, ⟨s2, ⟨s1, e1, e2⟩, e3⟩, e4⟩ := e
  rw [s3.placePage_bytes _ _ e4, s2.placePage_bytes _ _ e3, s1.placePage_bytes _ _ e2, s.placePage_bytes _ _ e1]
@[simp] theorem State.unplace_bytes (role obj : Nat) : (s.unplace role obj).mem.bytes = s.mem.bytes := by simp [State.unplace]
@[simp] theorem State.hardFault_bytes (b w bit : Nat) : (s.hardFault b w bit).mem.bytes = s.mem.bytes := by simp [State.hardFault]
@[simp] theorem State.bucketUp_bytes (b : Nat) : (s.bucketUp b).mem.bytes = s.mem.bytes := by simp [State.bucketUp]
@[simp] theorem State.correctable_bytes (w bit : Nat) : (s.correctable w bit).mem.bytes = s.mem.bytes := by simp [State.correctable]
@[simp] theorem State.upset_bytes (w mask : Nat) : (s.upset w mask).mem.bytes = s.mem.bytes := by simp [State.upset]
@[simp] theorem State.consume_bytes (w consumer : Nat) (event : Bool) : (s.consume w consumer event).mem.bytes = s.mem.bytes :=
  by simp [State.consume]
@[simp] theorem State.setTest_bytes (b : Nat) (t : Option TestJob) : (s.setTest b t).mem.bytes = s.mem.bytes := by simp [State.setTest]
@[simp] theorem State.endTest_bytes (b res : Nat) (whole : Bool) : (s.endTest b res whole).mem.bytes = s.mem.bytes :=
  by simp [State.endTest]
@[simp] theorem State.failTest_bytes (t : TestJob) (sector fails : Nat) : (s.failTest t sector fails).mem.bytes = s.mem.bytes :=
  by simp [State.failTest]
@[simp] theorem State.testBlock_bytes (b fails : Nat) : (s.testBlock b fails).mem.bytes = s.mem.bytes := by
  unfold State.testBlock
  split <;> simp
@[simp] theorem State.startTest_bytes (b : Nat) (background : Bool) : (s.startTest b background).mem.bytes = s.mem.bytes :=
  by simp [State.startTest]
@[simp] theorem State.mretire_bytes (b : Nat) : (s.mretire b).mem.bytes = s.mem.bytes := by simp [State.mretire]
@[simp] theorem State.memClaim_bytes (b : Nat) : (s.memClaim b).mem.bytes = s.mem.bytes := by simp [State.memClaim]
@[simp] theorem State.memRelease_bytes (b : Nat) : (s.memRelease b).mem.bytes = s.mem.bytes := by simp [State.memRelease]
@[simp] theorem State.accFields_bytes (v : Nat) : (s.accFields v).mem.bytes = s.mem.bytes := by simp [State.accFields]
@[simp] theorem State.accDenied_bytes : s.accDenied.mem.bytes = s.mem.bytes := by simp [State.accDenied]
@[simp] theorem State.injWrite_bytes (v : Nat) : (s.injWrite v).mem.bytes = s.mem.bytes := by simp [State.injWrite]
@[simp] theorem State.logSelWrite_bytes (v : Nat) : (s.logSelWrite v).mem.bytes = s.mem.bytes := by simp [State.logSelWrite]
@[simp] theorem State.logClear_bytes : s.logClear.mem.bytes = s.mem.bytes := by simp [State.logClear]
@[simp] theorem State.unpoison_bytes (ok : Nat → Bool) : (s.unpoison ok).mem.bytes = s.mem.bytes := by simp [State.unpoison]
@[simp] theorem State.evqClean_bytes (k : Nat) : (s.evqClean k).mem.bytes = s.mem.bytes := by
  induction k generalizing s with
  | zero => rfl
  | succ k ih =>
    unfold State.evqClean
    split
    · simp [ih]
    · rfl

/-! ## Seals (R180 to R229) -/

@[simp] theorem State.setKey_bytes (k : Nat) (v : Key) : (s.setKey k v).mem.bytes = s.mem.bytes := by simp [State.setKey]
@[simp] theorem State.dropKey_bytes (k : Nat) : (s.dropKey k).mem.bytes = s.mem.bytes := by simp [State.dropKey]
@[simp] theorem State.setCtr_bytes (d n v : Nat) : (s.setCtr d n v).mem.bytes = s.mem.bytes := by simp [State.setCtr]
@[simp] theorem State.stopTrib_bytes (d n cause : Nat) : (s.stopTrib d n cause).mem.bytes = s.mem.bytes := by simp [State.stopTrib]
@[simp] theorem State.insCount_bytes (n k : Nat) : (s.insCount n k).mem.bytes = s.mem.bytes := by simp [State.insCount]
@[simp] theorem State.topUp_bytes (n k : Nat) : (s.topUp n k).mem.bytes = s.mem.bytes := by simp [State.topUp]
@[simp] theorem State.openSeal_bytes (n : Nat) : (s.openSeal n).mem.bytes = s.mem.bytes := by
  unfold State.openSeal
  dsimp only
  split <;> simp
@[simp] theorem State.rollKey_bytes (d n : Nat) : (s.rollKey d n).mem.bytes = s.mem.bytes := by simp [State.rollKey]
@[simp] theorem State.rollTx_bytes (n : Nat) : (s.rollTx n).mem.bytes = s.mem.bytes := by simp [State.rollTx]
@[simp] theorem State.startSeal_bytes (n : Nat) : (s.startSeal n).mem.bytes = s.mem.bytes := by simp [State.startSeal]
@[simp] theorem State.sealBoundary_bytes (n : Nat) : (s.sealBoundary n).mem.bytes = s.mem.bytes := by
  unfold State.sealBoundary
  dsimp only
  split <;> simp
@[simp] theorem State.failSeal_bytes (n i cause : Nat) : (s.failSeal n i cause).mem.bytes = s.mem.bytes := by
  unfold State.failSeal
  dsimp only
  split <;> simp
@[simp] theorem State.noKey_bytes (n : Nat) : (s.noKey n).mem.bytes = s.mem.bytes := by simp [State.noKey]
@[simp] theorem State.rxRollTo_bytes (n phase : Nat) : (s.rxRollTo n phase).mem.bytes = s.mem.bytes := by simp [State.rxRollTo]
@[simp] theorem State.resync_bytes (n : Nat) (h : List Byte) : (s.resync n h).mem.bytes = s.mem.bytes := by simp [State.resync]
@[simp] theorem State.rxRoll_bytes (n : Nat) (h : List Byte) : (s.rxRoll n h).mem.bytes = s.mem.bytes := by simp [State.rxRoll]
@[simp] theorem State.openRx_bytes (n : Nat) : (s.openRx n).mem.bytes = s.mem.bytes := by simp [State.openRx]
@[simp] theorem State.areaWrite_bytes (n blk : Nat) (bad : Bool) : (s.areaWrite n blk bad).mem.bytes = s.mem.bytes := by
  unfold State.areaWrite
  refine State.foldl_bytes (fun a u => ?_) _ _
  dsimp only
  split <;> simp
@[simp] theorem State.discardSeals_bytes (n cause : Nat) : (s.discardSeals n cause).mem.bytes = s.mem.bytes :=
  by simp [State.discardSeals]

/-! ## Needs and wakes (R24, R452 to R464) -/

@[simp] theorem State.seeBusy_bytes : s.seeBusy.mem.bytes = s.mem.bytes := 
  ((Keeps.refl [.flds, .mgt] s).seeBusy (by simp) (by simp)).bytes (by simp)
@[simp] theorem State.setPState_bytes (n : Nat) (st : PState) : (s.setPState n st).mem.bytes = s.mem.bytes := by simp [State.setPState]
@[simp] theorem State.powerDone_bytes (n : Nat) : (s.powerDone n).mem.bytes = s.mem.bytes := 
  ((Keeps.refl [.flds, .engines] s).powerDone (by simp) (by simp) n).bytes (by simp)
@[simp] theorem State.quadLanes_bytes (n st : Nat) : (s.quadLanes n st).mem.bytes = s.mem.bytes := 
  ((Keeps.refl [.flds, .lanes] s).quadLanes (by simp) (by simp) n st).bytes (by simp)
@[simp] theorem State.enter_bytes (n : Nat) (deep : Bool) : (s.enter n deep).mem.bytes = s.mem.bytes := by simp [State.enter]
@[simp] theorem State.beginWake_bytes (n src replay : Nat) : (s.beginWake n src replay).mem.bytes = s.mem.bytes := 
  ((Keeps.refl [.flds, .evq, .engines, .polders, .lanes] s).beginWake (by simp) (by simp) (by simp) (by simp) (by simp)
    n src replay).bytes (by simp)
@[simp] theorem State.wake_bytes (n src : Nat) : (s.wake n src).mem.bytes = s.mem.bytes := 
  ((Keeps.refl [.flds, .evq, .engines, .polders, .lanes] s).wake (by simp) (by simp) (by simp) (by simp) (by simp) n src).bytes (by simp)
@[simp] theorem State.refreshNeeds_bytes : s.refreshNeeds.mem.bytes = s.mem.bytes := 
  ((Keeps.refl [.flds, .evq, .engines, .polders, .lanes, .mgt] s).refreshNeeds (by simp) (by simp) (by simp) (by simp)
    (by simp) (by simp)).bytes (by simp)
@[simp] theorem State.fireWake_bytes (bit : Nat) : (s.fireWake bit).mem.bytes = s.mem.bytes := by
  unfold State.fireWake
  refine State.foldl_bytes (fun n u => ?_) _ _
  dsimp only
  split
  · split <;> simp
  · rfl
@[simp] theorem State.tamperWake_bytes : s.tamperWake.mem.bytes = s.mem.bytes := by simp [State.tamperWake]
@[simp] theorem State.settlePolder_bytes (n : Nat) : (s.settlePolder n).mem.bytes = s.mem.bytes := by
  unfold State.settlePolder
  dsimp only
  (repeat' split) <;> simp

/-! ## Converters and calibration (R361 to R387) -/

@[simp] theorem State.setForce_bytes (st : Nat) (v : List (Nat × Int)) : (s.setForce st v).mem.bytes = s.mem.bytes :=
  by simp [State.setForce]
@[simp] theorem State.checkClip_bytes (c : Nat) : (s.checkClip c).mem.bytes = s.mem.bytes := by simp [State.checkClip]
@[simp] theorem State.calSync_bytes (st : Nat) : (s.calSync st).mem.bytes = s.mem.bytes := by simp [State.calSync]
@[simp] theorem State.calSyncAll_bytes : s.calSyncAll.mem.bytes = s.mem.bytes := by simp [State.calSyncAll]
@[simp] theorem State.calStop_bytes (st : Nat) : (s.calStop st).mem.bytes = s.mem.bytes := by simp [State.calStop]
@[simp] theorem State.calCheck_bytes : s.calCheck.mem.bytes = s.mem.bytes := by simp [State.calCheck]
@[simp] theorem State.showSets_bytes : s.showSets.mem.bytes = s.mem.bytes := by simp [State.showSets]
@[simp] theorem State.mapBank_bytes (b : Nat) (f : CalBank → CalBank) : (s.mapBank b f).mem.bytes = s.mem.bytes := by simp [State.mapBank]
@[simp] theorem State.fallDue_bytes : s.fallDue.mem.bytes = s.mem.bytes := by simp [State.fallDue]
@[simp] theorem State.autoStore_bytes : s.autoStore.mem.bytes = s.mem.bytes := by simp [State.autoStore]
@[simp] theorem State.nowDue_bytes (before : Bool) : (s.nowDue before).mem.bytes = s.mem.bytes := by simp [State.nowDue]
@[simp] theorem State.storeFails_bytes (result : Nat) (again : Bool) : (s.storeFails result again).mem.bytes = s.mem.bytes :=
  by simp [State.storeFails]
@[simp] theorem State.tornStore_bytes : s.tornStore.mem.bytes = s.mem.bytes := by simp [State.tornStore]
@[simp] theorem State.windowLost_bytes : s.windowLost.mem.bytes = s.mem.bytes := by simp [State.windowLost]
@[simp] theorem State.windowCheck_bytes : s.windowCheck.mem.bytes = s.mem.bytes := by simp [State.windowCheck]
@[simp] theorem State.chooseBank_bytes : s.chooseBank.mem.bytes = s.mem.bytes := by simp [State.chooseBank]
@[simp] theorem State.loadSets_bytes : s.loadSets.mem.bytes = s.mem.bytes := by simp [State.loadSets]
@[simp] theorem State.abortStore_bytes : s.abortStore.mem.bytes = s.mem.bytes := by simp [State.abortStore]
@[simp] theorem State.accept_bytes (st : Nat) (b : CalBin) : (s.accept st b).mem.bytes = s.mem.bytes := by
  unfold State.accept
  split <;> simp
@[simp] theorem State.pairEnd_bytes (st : Nat) (p : CalPair) (meas : List (Nat × Int)) : (s.pairEnd st p meas).mem.bytes = s.mem.bytes :=
  by simp [State.pairEnd]
@[simp] theorem State.runEnd_bytes (st : Nat) (meas : List (Nat × Int)) : (s.runEnd st meas).mem.bytes = s.mem.bytes := by
  unfold State.runEnd
  split <;> simp
@[simp] theorem State.tabselWrite_bytes (c v : Nat) : (s.tabselWrite c v).mem.bytes = s.mem.bytes := by simp [State.tabselWrite]
@[simp] theorem State.binselWrite_bytes (v : Nat) : (s.binselWrite v).mem.bytes = s.mem.bytes := by
  unfold State.binselWrite
  dsimp only
  split <;> simp
@[simp] theorem State.logWrite_bytes (e : LogEntry) (rest : List LogEntry) : (s.logWrite e rest).mem.bytes = s.mem.bytes := by
  unfold State.logWrite
  dsimp only
  split <;> simp

/-! ## Slots and pages -/

@[simp] theorem State.showPlace_bytes (d n : Nat) : (s.showPlace d n).mem.bytes = s.mem.bytes := by simp [State.showPlace]
@[simp] theorem State.showPage_bytes (d c gen : Nat) : (s.showPage d c gen).mem.bytes = s.mem.bytes := by simp [State.showPage]

/-! ## Protection (R255 to R261) -/

@[simp] theorem State.setProt_bytes (g : Nat) (p : Protect) : (s.setProt g p).mem.bytes = s.mem.bytes := by simp [State.setProt]
@[simp] theorem State.evalGroup_bytes (g : Nat) : (s.evalGroup g).mem.bytes = s.mem.bytes := by simp [State.evalGroup]
@[simp] theorem State.evalGroups_bytes : s.evalGroups.mem.bytes = s.mem.bytes := by simp [State.evalGroups]
@[simp] theorem State.moveSelector_bytes (g : Nat) : (s.moveSelector g).mem.bytes = s.mem.bytes := by simp [State.moveSelector]
@[simp] theorem State.protectCmd_bytes (g code : Nat) : (s.protectCmd g code).mem.bytes = s.mem.bytes := by simp [State.protectCmd]
@[simp] theorem State.holdoffExpiry_bytes (g c : Nat) : (s.holdoffExpiry g c).mem.bytes = s.mem.bytes := by simp [State.holdoffExpiry]
@[simp] theorem State.wtrExpiry_bytes (g : Nat) : (s.wtrExpiry g).mem.bytes = s.mem.bytes := by simp [State.wtrExpiry]
@[simp] theorem State.wtrCount_bytes : s.wtrCount.mem.bytes = s.mem.bytes := by simp [State.wtrCount]
@[simp] theorem State.showDD_bytes (g : Nat) (dd : Option Int) : (s.showDD g dd).mem.bytes = s.mem.bytes := by simp [State.showDD]
@[simp] theorem State.showDDs_bytes (dd : Option Int) : (s.showDDs dd).mem.bytes = s.mem.bytes := by simp [State.showDDs]
@[simp] theorem State.commitPoint_bytes (n : Nat) : (s.commitPoint n).mem.bytes = s.mem.bytes := by
  unfold State.commitPoint
  dsimp only
  (repeat' split) <;> simp

/-! ## Receive frames (R235 to R254) -/

@[simp] theorem State.putDefect_bytes (c : Nat) (d : Nat × Fld × Fld × Bool) : (s.putDefect c d).mem.bytes = s.mem.bytes :=
  by simp [State.putDefect]
@[simp] theorem State.putLevel_bytes (f : Fld) (sig c : Nat) (b : Bool) : (s.putLevel f sig c b).mem.bytes = s.mem.bytes :=
  by simp [State.putLevel]
@[simp] theorem State.defects_bytes (c : Nat) : (s.defects c).mem.bytes = s.mem.bytes := by simp [State.defects]
@[simp] theorem State.persistField_bytes (c key : Nat) (v : Option Nat) : (s.persistField c key v).1.mem.bytes = s.mem.bytes :=
  by simp [State.persistField]
@[simp] theorem State.acceptSrc_bytes (c : Nat) (v : Option Nat) : (s.acceptSrc c v).mem.bytes = s.mem.bytes := by
  unfold State.acceptSrc
  split
  · next t e => rw [← s.persistField_bytes c 0 v, e]
  · next t x e =>
    have ht : t.mem.bytes = s.mem.bytes := by rw [← s.persistField_bytes c 0 v, e]
    simp [ht]
@[simp] theorem State.acceptAps_bytes (c : Nat) (v : Option Nat) : (s.acceptAps c v).mem.bytes = s.mem.bytes := by
  unfold State.acceptAps
  split
  · next t e => rw [← s.persistField_bytes c 1 v, e]
  · next t x e =>
    have ht : t.mem.bytes = s.mem.bytes := by rw [← s.persistField_bytes c 1 v, e]
    simp [ht]
@[simp] theorem State.acceptTribAps_bytes (c n : Nat) (v : Option Nat) : (s.acceptTribAps c n v).mem.bytes = s.mem.bytes := by
  unfold State.acceptTribAps
  split
  · next t e => rw [← s.persistField_bytes c (2 + n) v, e]
  · next t x e =>
    have ht : t.mem.bytes = s.mem.bytes := by rw [← s.persistField_bytes c (2 + n) v, e]
    simp [ht]
@[simp] theorem State.mapEnd_bytes (c : Nat) (ctl : Option (List Byte)) : (s.mapEnd c ctl).mem.bytes = s.mem.bytes := by
  unfold State.mapEnd
  dsimp only
  split <;> simp
@[simp] theorem State.phaseEntry_bytes (c n e : Nat) : (s.phaseEntry c n e).mem.bytes = s.mem.bytes := by simp [State.phaseEntry]
@[simp] theorem State.applyPhases_bytes (c : Nat) : (s.applyPhases c).mem.bytes = s.mem.bytes := by simp [State.applyPhases]
@[simp] theorem State.unitIn_bytes (c n : Nat) (isProt : Bool) (id : Nat) (u : List RxByte) :
    (s.unitIn c n isProt id u).mem.bytes = s.mem.bytes := by simp [State.unitIn]
@[simp] theorem State.frameUnits_bytes (c n : Nat) (slots : List RxByte) : (s.frameUnits c n slots).mem.bytes = s.mem.bytes :=
  by simp [State.frameUnits]
@[simp] theorem State.errFrame_bytes (c k : Nat) : (s.errFrame c k).mem.bytes = s.mem.bytes := by simp [State.errFrame]
@[simp] theorem State.checkFnum_bytes (c : Nat) (f : Option Nat) : (s.checkFnum c f).mem.bytes = s.mem.bytes := by simp [State.checkFnum]
@[simp] theorem State.backByte_bytes (c : Nat) (v : Option Nat) : (s.backByte c v).mem.bytes = s.mem.bytes := by
  unfold State.backByte
  split <;> simp
@[simp] theorem State.readMca_bytes (c f : Nat) (bytes : List RxByte) : (s.readMca c f bytes).mem.bytes = s.mem.bytes := by
  unfold State.readMca
  dsimp only
  (repeat' split) <;> simp
@[simp] theorem State.readMap_bytes (c f : Nat) (bytes : List RxByte) : (s.readMap c f bytes).mem.bytes = s.mem.bytes :=
  by simp [State.readMap]
@[simp] theorem State.readPhases_bytes (c f : Nat) (bytes : List RxByte) : (s.readPhases c f bytes).mem.bytes = s.mem.bytes := by
  unfold State.readPhases
  refine State.foldl_bytes (fun a u => ?_) _ _
  dsimp only
  split <;> simp
@[simp] theorem State.arrival_bytes (c at_ : Nat) : (s.arrival c at_).mem.bytes = s.mem.bytes := by
  unfold State.arrival
  dsimp only
  (repeat' split) <;> simp
@[simp] theorem State.losePhases_bytes (c : Nat) : (s.losePhases c).mem.bytes = s.mem.bytes := by simp [State.losePhases]
@[simp] theorem State.countSecond_bytes (c : Nat) (far : Bool) (x : SecondClass) (unav : Bool) :
    (s.countSecond c far x unav).mem.bytes = s.mem.bytes := by simp [State.countSecond]
@[simp] theorem State.endSecond_bytes (c : Nat) (far : Bool) (x : SecondClass) : (s.endSecond c far x).mem.bytes = s.mem.bytes := by
  unfold State.endSecond
  dsimp only
  (repeat' split) <;> simp
@[simp] theorem State.carrierSecond_bytes (c label : Nat) : (s.carrierSecond c label).1.mem.bytes = s.mem.bytes := by
  unfold State.carrierSecond
  dsimp only
  (repeat' split) <;> simp

/-! ## The decoder pool (R274 to R297) -/

@[simp] theorem State.showShares_bytes : s.showShares.mem.bytes = s.mem.bytes := by simp [State.showShares]
@[simp] theorem State.reportShort_bytes : s.reportShort.mem.bytes = s.mem.bytes := by simp [State.reportShort]
@[simp] theorem State.fecStep_bytes (old : Nat) : (s.fecStep old).mem.bytes = s.mem.bytes := by simp [State.fecStep]
@[simp] theorem State.showFecProfile_bytes (c : Nat) : (s.showFecProfile c).mem.bytes = s.mem.bytes := by simp [State.showFecProfile]
@[simp] theorem State.blockArrival_bytes (c chan : Nat) : (s.blockArrival c chan).mem.bytes = s.mem.bytes := by simp [State.blockArrival]
@[simp] theorem State.decodingPass_bytes (c th : Nat) (window : List Nat) (e16 e32 : Nat) :
    (s.decodingPass c th window e16 e32).mem.bytes = s.mem.bytes := by
  unfold State.decodingPass
  dsimp only
  split <;> simp
@[simp] theorem State.countBlock_bytes (c : Nat) (b : FecBlock) : (s.countBlock c b).mem.bytes = s.mem.bytes := by simp [State.countBlock]
@[simp] theorem State.blockDelivery_bytes (c : Nat) : (s.blockDelivery c).mem.bytes = s.mem.bytes := by
  unfold State.blockDelivery
  dsimp only
  split <;> simp
@[simp] theorem State.poolLock_bytes (c th : Nat) : (s.poolLock c th).mem.bytes = s.mem.bytes := by simp [State.poolLock]
@[simp] theorem State.putSF_bytes (c : Nat) (b : Bool) : (s.putSF c b).mem.bytes = s.mem.bytes := by simp [State.putSF]
@[simp] theorem State.putSD_bytes (c : Nat) (b : Bool) (cause : Nat) : (s.putSD c b cause).mem.bytes = s.mem.bytes :=
  by simp [State.putSD]
@[simp] theorem State.poolUnlock_bytes (c : Nat) : (s.poolUnlock c).mem.bytes = s.mem.bytes := by simp [State.poolUnlock]
@[simp] theorem State.showBer_bytes (c : Nat) (p : Pool) : (s.showBer c p).mem.bytes = s.mem.bytes := by
  unfold State.showBer
  split <;> simp
@[simp] theorem State.closeInterval_bytes (c : Nat) : (s.closeInterval c).mem.bytes = s.mem.bytes := by
  unfold State.closeInterval
  dsimp only
  (repeat' split) <;> simp
@[simp] theorem State.openInterval_bytes (c : Nat) : (s.openInterval c).mem.bytes = s.mem.bytes := by simp [State.openInterval]
@[simp] theorem State.allocationInterval_bytes : s.allocationInterval.mem.bytes = s.mem.bytes := by simp [State.allocationInterval]
@[simp] theorem State.closeSF_bytes (c : Nat) : (s.closeSF c).mem.bytes = s.mem.bytes := by simp [State.closeSF]
@[simp] theorem State.fecClear_bytes (c : Nat) : (s.fecClear c).mem.bytes = s.mem.bytes := by simp [State.fecClear]
@[simp] theorem State.fecSdWrite_bytes (c v : Nat) : (s.fecSdWrite c v).mem.bytes = s.mem.bytes := by simp [State.fecSdWrite]
@[simp] theorem State.histSelWrite_bytes (c v : Nat) : (s.histSelWrite c v).mem.bytes = s.mem.bytes := by simp [State.histSelWrite]

/-! ## Line signal processing (R315 to R333) -/

@[simp] theorem State.mapLine_bytes (c : Nat) (f : Line → Line) : (s.mapLine c f).mem.bytes = s.mem.bytes := by simp [State.mapLine]
@[simp] theorem State.eqIdentity_bytes (c : Nat) : (s.eqIdentity c).mem.bytes = s.mem.bytes := by simp [State.eqIdentity]
@[simp] theorem State.eqUnknown_bytes (c : Nat) : (s.eqUnknown c).mem.bytes = s.mem.bytes := by simp [State.eqUnknown]
@[simp] theorem State.eqInDD_bytes (c : Nat) : (s.eqInDD c).mem.bytes = s.mem.bytes := by simp [State.eqInDD]
@[simp] theorem State.eqctlWrite_bytes (c v : Nat) : (s.eqctlWrite c v).mem.bytes = s.mem.bytes := by simp [State.eqctlWrite]
@[simp] theorem State.readTap_bytes (c k : Nat) : (s.readTap c k).2.mem.bytes = s.mem.bytes := by
  unfold State.readTap
  dsimp only
  (repeat' split) <;> simp
@[simp] theorem State.tapselWrite_bytes (c v : Nat) : (s.tapselWrite c v).mem.bytes = s.mem.bytes := by simp [State.tapselWrite]
@[simp] theorem State.nlcFollow_bytes (c : Nat) : (s.nlcFollow c).mem.bytes = s.mem.bytes := by simp [State.nlcFollow]
@[simp] theorem State.dspLock_bytes (c : Nat) (d : Detection) : (s.dspLock c d).mem.bytes = s.mem.bytes := by simp [State.dspLock]
@[simp] theorem State.dspUnlock_bytes (c : Nat) : (s.dspUnlock c).mem.bytes = s.mem.bytes := by simp [State.dspUnlock]
@[simp] theorem State.showTxFormat_bytes (c : Nat) : (s.showTxFormat c).mem.bytes = s.mem.bytes := by simp [State.showTxFormat]
@[simp] theorem State.lsteer_bytes (c : Nat) (f : Int) : (s.lsteer c f).mem.bytes = s.mem.bytes := by simp [State.lsteer]
@[simp] theorem State.monitors_bytes (c : Nat) (m : MonitorMeas) : (s.monitors c m).mem.bytes = s.mem.bytes := by
  unfold State.monitors
  (repeat' split) <;> simp
@[simp] theorem State.lstctlWrite_bytes (c v : Nat) : (s.lstctlWrite c v).mem.bytes = s.mem.bytes := by simp [State.lstctlWrite]
@[simp] theorem State.txctlWrite_bytes (c v : Nat) : (s.txctlWrite c v).mem.bytes = s.mem.bytes := by simp [State.txctlWrite]

/-! ## Timing and the levee ring (R388 to R418) -/

@[simp] theorem State.mapTim_bytes (f : Tim → Tim) : (s.mapTim f).mem.bytes = s.mem.bytes := by simp [State.mapTim]
@[simp] theorem State.mapIn_bytes (i : Nat) (f : TimIn → TimIn) : (s.mapIn i f).mem.bytes = s.mem.bytes := by simp [State.mapIn]
@[simp] theorem State.disqualify_bytes (i state cause : Nat) : (s.disqualify i state cause).mem.bytes = s.mem.bytes :=
  by simp [State.disqualify]
@[simp] theorem State.showPull_bytes : s.showPull.mem.bytes = s.mem.bytes := by simp [State.showPull]
@[simp] theorem State.judge_bytes : s.judge.1.mem.bytes = s.mem.bytes := by
  unfold State.judge
  dsimp only
  split <;> simp
@[simp] theorem State.leaveLocked_bytes : s.leaveLocked.mem.bytes = s.mem.bytes := by simp [State.leaveLocked]
@[simp] theorem State.acquire_bytes (i : Nat) : (s.acquire i).mem.bytes = s.mem.bytes := by simp [State.acquire]
@[simp] theorem State.coast_bytes : s.coast.mem.bytes = s.mem.bytes := by simp [State.coast]
@[simp] theorem State.reselect_bytes : s.reselect.mem.bytes = s.mem.bytes := by
  unfold State.reselect
  dsimp only
  split <;> simp
@[simp] theorem State.timLost_bytes (i : Nat) : (s.timLost i).mem.bytes = s.mem.bytes := by simp [State.timLost]
@[simp] theorem State.takeOffset_bytes (i : Nat) (v : Int) : (s.takeOffset i v).mem.bytes = s.mem.bytes := by simp [State.takeOffset]
@[simp] theorem State.takeDeviations_bytes : s.takeDeviations.mem.bytes = s.mem.bytes := by simp [State.takeDeviations]
@[simp] theorem State.qualify_bytes (i : Nat) : (s.qualify i).mem.bytes = s.mem.bytes := by simp [State.qualify]
@[simp] theorem State.pullDone_bytes : s.pullDone.mem.bytes = s.mem.bytes := by simp [State.pullDone]
@[simp] theorem State.pullSecond_bytes : s.pullSecond.mem.bytes = s.mem.bytes := by simp [State.pullSecond]
@[simp] theorem State.showHistory_bytes : s.showHistory.mem.bytes = s.mem.bytes := by simp [State.showHistory]
@[simp] theorem State.timSecond_bytes (x : RefSecond) : (s.timSecond x).mem.bytes = s.mem.bytes := by simp [State.timSecond]
@[simp] theorem State.timCarrierUp_bytes (noneBefore : Bool) : (s.timCarrierUp noneBefore).mem.bytes = s.mem.bytes :=
  by simp [State.timCarrierUp]
@[simp] theorem State.realignNow_bytes : s.realignNow.mem.bytes = s.mem.bytes := by simp [State.realignNow]
@[simp] theorem State.refsetIn_bytes (d : List Nat) : (s.refsetIn d).mem.bytes = s.mem.bytes := by simp [State.refsetIn]
@[simp] theorem State.ringEvent_bytes (k : Nat) : (s.ringEvent k).mem.bytes = s.mem.bytes := by simp [State.ringEvent]
@[simp] theorem State.closeWicket_bytes : s.closeWicket.mem.bytes = s.mem.bytes := by simp [State.closeWicket]
@[simp] theorem State.ringPut_bytes (m : RingMsg) : (s.ringPut m).mem.bytes = s.mem.bytes := by simp [State.ringPut]
@[simp] theorem State.ringSend_bytes (ty payload : Nat) : (s.ringSend ty payload).mem.bytes = s.mem.bytes := by simp [State.ringSend]
@[simp] theorem State.ringGap_bytes : s.ringGap.mem.bytes = s.mem.bytes := by
  unfold State.ringGap
  split <;> simp
@[simp] theorem State.ringPass_bytes (m : RingIn) : (s.ringPass m).mem.bytes = s.mem.bytes := by simp [State.ringPass]
@[simp] theorem State.todAdjust_bytes (e : Int) : (s.todAdjust e).mem.bytes = s.mem.bytes := by simp [State.todAdjust]
@[simp] theorem State.syncReturned_bytes (m : RingIn) (loopNs : Nat) : (s.syncReturned m loopNs).mem.bytes = s.mem.bytes :=
  by simp [State.syncReturned]
@[simp] theorem State.syncMeasured_bytes (m : RingIn) (arrival : Int) : (s.syncMeasured m arrival).mem.bytes = s.mem.bytes :=
  by simp [State.syncMeasured]
@[simp] theorem State.ringHear_bytes (groups : List (BitVec 10)) : (s.ringHear groups).mem.bytes = s.mem.bytes := by simp [State.ringHear]
@[simp] theorem State.storePeer_bytes (m : RingIn) : (s.storePeer m).mem.bytes = s.mem.bytes := by simp [State.storePeer]
@[simp] theorem State.timOutWrite_bytes (v : Nat) : (s.timOutWrite v).mem.bytes = s.mem.bytes := by simp [State.timOutWrite]

/-! ## Acquisition (R338 to R360) -/

@[simp] theorem State.mapAcq_bytes (c : Nat) (f : Acq → Acq) : (s.mapAcq c f).mem.bytes = s.mem.bytes := by simp [State.mapAcq]
@[simp] theorem State.showLanes_bytes (c limit : Nat) : (s.showLanes c limit).mem.bytes = s.mem.bytes := by simp [State.showLanes]
@[simp] theorem State.showQueue_bytes (c : Nat) : (s.showQueue c).mem.bytes = s.mem.bytes := by simp [State.showQueue]
@[simp] theorem State.acqClear_bytes (c : Nat) : (s.acqClear c).mem.bytes = s.mem.bytes := by simp [State.acqClear]
@[simp] theorem State.acqSearch_bytes (c : Nat) : (s.acqSearch c).mem.bytes = s.mem.bytes := by simp [State.acqSearch]
@[simp] theorem State.acqIdle_bytes (c : Nat) : (s.acqIdle c).mem.bytes = s.mem.bytes := by simp [State.acqIdle]
@[simp] theorem State.sweepEnd_bytes (c lane : Nat) (x : SweepMeas) : (s.sweepEnd c lane x).mem.bytes = s.mem.bytes := by
  unfold State.sweepEnd
  dsimp only
  (repeat' split) <;> simp
@[simp] theorem State.settleIn_bytes (c : Nat) (d : Detection) : (s.settleIn c d).mem.bytes = s.mem.bytes := by simp [State.settleIn]
@[simp] theorem State.reject_bytes (c : Nat) : (s.reject c).mem.bytes = s.mem.bytes := by
  unfold State.reject
  split <;> simp
@[simp] theorem State.toStage_bytes (c n : Nat) : (s.toStage c n).mem.bytes = s.mem.bytes := by simp [State.toStage]
@[simp] theorem State.lockIn_bytes (c : Nat) (d : Detection) : (s.lockIn c d).mem.bytes = s.mem.bytes := by simp [State.lockIn]
@[simp] theorem State.takeThresholds_bytes (c : Nat) : (s.takeThresholds c).mem.bytes = s.mem.bytes := by simp [State.takeThresholds]
@[simp] theorem State.takeSymbols_bytes (c : Nat) (x : PilotMeas) : (s.takeSymbols c x).mem.bytes = s.mem.bytes :=
  by simp [State.takeSymbols]
@[simp] theorem State.pilotCandidate_bytes (c : Nat) (x : PilotMeas) : (s.pilotCandidate c x).mem.bytes = s.mem.bytes := by
  unfold State.pilotCandidate
  dsimp only
  (repeat' split) <;> simp
@[simp] theorem State.threshWrite_bytes (v : Nat) : (s.threshWrite v).mem.bytes = s.mem.bytes := by simp [State.threshWrite]
@[simp] theorem State.blockWindow_bytes (c zeros pick : Nat) (d : Detection) : (s.blockWindow c zeros pick d).mem.bytes = s.mem.bytes :=
  by simp [State.blockWindow]
@[simp] theorem State.blockCheck_bytes (c zeros : Nat) (d : Detection) : (s.blockCheck c zeros d).mem.bytes = s.mem.bytes :=
  by simp [State.blockCheck]

/-! ## Engines and the program store (R42 to R105) -/

@[simp] theorem State.loadGo_bytes (k : Nat) : (s.loadGo k).mem.bytes = s.mem.bytes := by simp [State.loadGo]
@[simp] theorem State.loadEnd_bytes (k : Nat) : (s.loadEnd k).mem.bytes = s.mem.bytes := by simp [State.loadEnd]
@[simp] theorem State.faultAt_bytes (e pc code reason handle : Nat) : (s.faultAt e pc code reason handle).mem.bytes = s.mem.bytes :=
  by simp [State.faultAt]
@[simp] theorem State.pushEntry_bytes (e : Nat) (en : Entry) : (s.pushEntry e en).mem.bytes = s.mem.bytes := by simp [State.pushEntry]
@[simp] theorem State.startNext_bytes (e : Nat) : (s.startNext e).2.mem.bytes = s.mem.bytes := by
  unfold State.startNext
  extract_lets x pc ad w en h bad beyond t
  have ht : t.mem.bytes = s.mem.bytes := s.pushEntry_bytes e en
  clear_value pc ad w en h bad beyond t
  split
  · split
    · simp [ht]
    · split
      · simp [ht]
      · split
        · simp only [State.faultAt_bytes]
          split <;> simp [ht]
        · exact ht
  · rfl
@[simp] theorem State.startTo_bytes (e p k : Nat) : (s.startTo e p k).2.mem.bytes = s.mem.bytes := by
  induction k generalizing s with
  | zero => rfl
  | succ k ih =>
    unfold State.startTo
    dsimp only
    split
    · rfl
    · split
      · rfl
      · split
        · next q t h =>
          have ht : t.mem.bytes = s.mem.bytes := by rw [← s.startNext_bytes e, h]
          split
          · exact ht
          · exact (ih t).trans ht
        · next t h => rw [← s.startNext_bytes e, h]
        · next t h => rw [← s.startNext_bytes e, h]
@[simp] theorem State.complete_bytes (e pc v : Nat) : (s.complete e pc v).mem.bytes = s.mem.bytes := by
  unfold State.complete
  dsimp only
  split <;> simp
@[simp] theorem State.await_bytes (e pc : Nat) (ws : List Wait) (acc : Bool) : (s.await e pc ws acc).mem.bytes = s.mem.bytes :=
  by simp [State.await]
@[simp] theorem State.noteRefusal_bytes (h code : Nat) : (s.noteRefusal h code).mem.bytes = s.mem.bytes := by simp [State.noteRefusal]
@[simp] theorem State.refuse_bytes (e pc w h code : Nat) : (s.refuse e pc w h code).mem.bytes = s.mem.bytes := by simp [State.refuse]
@[simp] theorem State.settle_bytes (e pc w h : Nat) (r : Res) : (s.settle e pc w h r).mem.bytes = s.mem.bytes := by
  unfold State.settle
  split <;> simp
@[simp] theorem State.jumpTo_bytes (e pc target : Nat) : (s.jumpTo e pc target).mem.bytes = s.mem.bytes := by simp [State.jumpTo]
@[simp] theorem State.faultRecord_bytes (e : Nat) : (s.faultRecord e).mem.bytes = s.mem.bytes := by
  unfold State.faultRecord
  dsimp only
  split <;> simp
@[simp] theorem State.clearRecord_bytes (e : Nat) : (s.clearRecord e).mem.bytes = s.mem.bytes := by simp [State.clearRecord]
@[simp] theorem State.enterRun_bytes (e : Nat) : (s.enterRun e).mem.bytes = s.mem.bytes := by simp [State.enterRun]
@[simp] theorem State.startEntry_bytes (e k : Nat) : (s.startEntry e k).mem.bytes = s.mem.bytes := by simp [State.startEntry]
@[simp] theorem State.resume_bytes (e : Nat) : (s.resume e).mem.bytes = s.mem.bytes := by simp [State.resume]
@[simp] theorem State.engStart_bytes (e : Nat) : (s.engStart e).mem.bytes = s.mem.bytes := by
  unfold State.engStart
  (repeat' split) <;> simp
@[simp] theorem State.engDrain_bytes (e : Nat) : (s.engDrain e).mem.bytes = s.mem.bytes := by simp [State.engDrain]
@[simp] theorem State.heldStart_bytes (e : Nat) : (s.heldStart e).mem.bytes = s.mem.bytes := by simp [State.heldStart]

/-! ## Holding carriers (R487, R507, R550) -/

@[simp] theorem State.startTransmit_bytes (c : Nat) : (s.startTransmit c).mem.bytes = s.mem.bytes := by simp [State.startTransmit]

/-! ## The thermal model (R473 to R491) -/

@[simp] theorem State.mapThm_bytes (f : Thermal → Thermal) : (s.mapThm f).mem.bytes = s.mem.bytes := by simp [State.mapThm]
@[simp] theorem State.modelOnly_bytes : s.modelOnly.mem.bytes = s.mem.bytes := by simp [State.modelOnly]
@[simp] theorem State.showAnchor_bytes : s.showAnchor.mem.bytes = s.mem.bytes := by simp [State.showAnchor]
@[simp] theorem State.showZones_bytes : s.showZones.mem.bytes = s.mem.bytes := by
  unfold State.showZones
  dsimp only
  split <;> simp
@[simp] theorem State.failDiode_bytes (d cause : Nat) : (s.failDiode d cause).mem.bytes = s.mem.bytes := by simp [State.failDiode]
@[simp] theorem State.tookReading_bytes (d : Nat) (r : Int) : (s.tookReading d r).mem.bytes = s.mem.bytes := by simp [State.tookReading]
@[simp] theorem State.readDiode_bytes (d : Nat) (r : Option Int) : (s.readDiode d r).mem.bytes = s.mem.bytes := by
  unfold State.readDiode
  split <;> simp
@[simp] theorem State.modelAdvance_bytes (x : ModelTick) : (s.modelAdvance x).mem.bytes = s.mem.bytes := by simp [State.modelAdvance]
@[simp] theorem State.seedModel_bytes (diodes : List Int) : (s.seedModel diodes).mem.bytes = s.mem.bytes := by simp [State.seedModel]
@[simp] theorem State.evaluate_bytes : s.evaluate.mem.bytes = s.mem.bytes := by simp [State.evaluate]
@[simp] theorem State.changeStep_bytes (new cause : Nat) : (s.changeStep new cause).mem.bytes = s.mem.bytes := by simp [State.changeStep]
@[simp] theorem State.stepUp_bytes : s.stepUp.mem.bytes = s.mem.bytes := by simp [State.stepUp]
@[simp] theorem State.stepRelease_bytes : s.stepRelease.mem.bytes = s.mem.bytes := by simp [State.stepRelease]
@[simp] theorem State.reinstate_bytes (mask : Nat) : (s.reinstate mask).mem.bytes = s.mem.bytes := by simp [State.reinstate]
@[simp] theorem State.trialEnd_bytes (d : Nat) : (s.trialEnd d).mem.bytes = s.mem.bytes := by
  unfold State.trialEnd
  split <;> simp

/-! ## Host lanes and groups (R114 to R159) -/

@[simp] theorem State.zeroCodewords_bytes (g : Nat) : (s.zeroCodewords g).mem.bytes = s.mem.bytes := by simp [State.zeroCodewords]
@[simp] theorem State.showGroup_bytes (g : Nat) : (s.showGroup g).mem.bytes = s.mem.bytes := by
  unfold State.showGroup
  split <;> simp
@[simp] theorem State.squelch_bytes (l : List Nat) : (s.squelch l).mem.bytes = s.mem.bytes := by simp [State.squelch]
@[simp] theorem State.restartStream_bytes (g : Nat) : (s.restartStream g).mem.bytes = s.mem.bytes := by simp [State.restartStream]
@[simp] theorem State.groupFill_bytes (g : Nat) (up : Bool) : (s.groupFill g up).mem.bytes = s.mem.bytes := by simp [State.groupFill]
@[simp] theorem State.groupFails_bytes (g st : Nat) : (s.groupFails g st).mem.bytes = s.mem.bytes := by simp [State.groupFails]
@[simp] theorem State.groupAlign_bytes (g : Nat) : (s.groupAlign g).mem.bytes = s.mem.bytes := by simp [State.groupAlign]
@[simp] theorem State.groupUp_bytes (g : Nat) : (s.groupUp g).mem.bytes = s.mem.bytes := by simp [State.groupUp]
@[simp] theorem State.takeLane_bytes (l : Nat) : (s.takeLane l).mem.bytes = s.mem.bytes := by simp [State.takeLane]
@[simp] theorem State.groupStart_bytes (g : Nat) : (s.groupStart g).mem.bytes = s.mem.bytes := by simp [State.groupStart]
@[simp] theorem State.restartQuad_bytes (n : Nat) : (s.restartQuad n).mem.bytes = s.mem.bytes := by simp [State.restartQuad]
@[simp] theorem State.noteRx_bytes (g : Nat) : (s.noteRx g).mem.bytes = s.mem.bytes := by simp [State.noteRx]
@[simp] theorem State.groupStep_bytes (g : Nat) : (s.groupStep g).mem.bytes = s.mem.bytes := by simp [State.groupStep]
@[simp] theorem State.evalHost_bytes (g : Nat) : (s.evalHost g).mem.bytes = s.mem.bytes := by simp [State.evalHost]
@[simp] theorem State.evalHosts_bytes : s.evalHosts.mem.bytes = s.mem.bytes := by simp [State.evalHosts]
@[simp] theorem State.evalLane_bytes (l : Nat) : (s.evalLane l).mem.bytes = s.mem.bytes := by simp [State.evalLane]
@[simp] theorem State.laneDefaults_bytes (l : Nat) : (s.laneDefaults l).mem.bytes = s.mem.bytes := by simp [State.laneDefaults]
@[simp] theorem State.laneEvent_bytes (l : Nat) : (s.laneEvent l).mem.bytes = s.mem.bytes := by simp [State.laneEvent]
@[simp] theorem State.laneShow_bytes (l : Nat) (m : LaneMeas) : (s.laneShow l m).mem.bytes = s.mem.bytes := by simp [State.laneShow]
@[simp] theorem State.signalPresent_bytes (l : Nat) : (s.signalPresent l).mem.bytes = s.mem.bytes := by simp [State.signalPresent]
@[simp] theorem State.signalLost_bytes (l : Nat) : (s.signalLost l).mem.bytes = s.mem.bytes := by simp [State.signalLost]
@[simp] theorem State.laneLock_bytes (l : Nat) (m : LaneMeas) : (s.laneLock l m).mem.bytes = s.mem.bytes := by simp [State.laneLock]
@[simp] theorem State.laneUnlock_bytes (l : Nat) (m : LaneMeas) : (s.laneUnlock l m).mem.bytes = s.mem.bytes := by simp [State.laneUnlock]
@[simp] theorem State.markerIn_bytes (l logical skew : Nat) : (s.markerIn l logical skew).mem.bytes = s.mem.bytes := by
  unfold State.markerIn
  split <;> simp
@[simp] theorem State.markerOut_bytes (l : Nat) : (s.markerOut l).mem.bytes = s.mem.bytes := by simp [State.markerOut]
@[simp] theorem State.feedBlock_bytes (n : Nat) (b : Client.Block) : (s.feedBlock n b).mem.bytes = s.mem.bytes := by
  unfold State.feedBlock
  dsimp only
  (repeat' split) <;> simp
@[simp] theorem State.feedBlocks_bytes (g : Nat) (bs : List Client.Block) : (s.feedBlocks g bs).mem.bytes = s.mem.bytes :=
  by simp [State.feedBlocks]
@[simp] theorem State.putPair_bytes (lo hi : Fld) (v : Nat) : (s.putPair lo hi v).mem.bytes = s.mem.bytes := by simp [State.putPair]
@[simp] theorem State.prbsFeed_bytes (l : Nat) (levels : List Nat) : (s.prbsFeed l levels).mem.bytes = s.mem.bytes :=
  by simp [State.prbsFeed]
@[simp] theorem State.laneLevels_bytes (l : Nat) (levels : List Nat) : (s.laneLevels l levels).2.mem.bytes = s.mem.bytes :=
  by simp [State.laneLevels]
@[simp] theorem State.takeCodeword_bytes (g : Nat) : (s.takeCodeword g).mem.bytes = s.mem.bytes := by
  unfold State.takeCodeword
  split <;> simp
@[simp] theorem State.takeCodewords_bytes (g k : Nat) : (s.takeCodewords g k).mem.bytes = s.mem.bytes := by
  induction k generalizing s with
  | zero => rfl
  | succ k ih => simp [State.takeCodewords, ih]
@[simp] theorem State.rsCodeword_bytes (l : Nat) (levels : List Nat) : (s.rsCodeword l levels).mem.bytes = s.mem.bytes := by
  simp only [State.rsCodeword]
  cases (s.laneLevels l levels).2.laneGrp l with
  | none => simp
  | some g =>
    cases rsDecode (symbols10 (s.laneLevels l levels).1) with
    | none => simp
    | some d =>
      obtain ⟨_, corrected⟩ := d
      cases corrected <;> simp
@[simp] theorem State.dataCell_bytes (g chid : Nat) (payload : List Byte) : (s.dataCell g chid payload).mem.bytes = s.mem.bytes := by
  unfold State.dataCell
  split <;> simp
@[simp] theorem State.hostCell_bytes (g : Nat) : (s.hostCell g).mem.bytes = s.mem.bytes := by
  unfold State.hostCell
  split <;> simp
@[simp] theorem State.takeRxBlocks_bytes (n k : Nat) : (s.takeRxBlocks n k).2.mem.bytes = s.mem.bytes := by
  unfold State.takeRxBlocks
  dsimp only
  (repeat' split) <;> simp
@[simp] theorem State.sendCodeword_bytes (l : Nat) (info : List Bool) : (s.sendCodeword l info).mem.bytes = s.mem.bytes :=
  by simp [State.sendCodeword]
@[simp] theorem State.prbsClear_bytes (l : Nat) : (s.prbsClear l).mem.bytes = s.mem.bytes := by simp [State.prbsClear]
@[simp] theorem State.genSend_bytes (k l : Nat) : (s.genSend k l).mem.bytes = s.mem.bytes := by simp [State.genSend]
@[simp] theorem State.genTick_bytes : s.genTick.mem.bytes = s.mem.bytes := by simp [State.genTick]
@[simp] theorem State.prbsWrite_bytes (l v : Nat) : (s.prbsWrite l v).mem.bytes = s.mem.bytes := by simp [State.prbsWrite]
@[simp] theorem State.txeqWrite_bytes (l v : Nat) : (s.txeqWrite l v).mem.bytes = s.mem.bytes := by simp [State.txeqWrite]
@[simp] theorem State.hlnThreshWrite_bytes (v : Nat) : (s.hlnThreshWrite v).mem.bytes = s.mem.bytes := by simp [State.hlnThreshWrite]

/-! ## Tributaries and carriers at work (R161 to R188) -/

@[simp] theorem State.showPend_bytes (c : Nat) : (s.showPend c).mem.bytes = s.mem.bytes := by simp [State.showPend]
@[simp] theorem State.connWrite_bytes (c page : Nat) (slots : List Nat) : (s.connWrite c page slots).mem.bytes = s.mem.bytes :=
  by simp [State.connWrite]
@[simp] theorem State.mapStandby_bytes (c : Nat) (f : List (Nat × Nat) → List (Nat × Nat)) : (s.mapStandby c f).mem.bytes = s.mem.bytes :=
  by simp [State.mapStandby]
@[simp] theorem State.mirror_bytes : s.mirror.mem.bytes = s.mem.bytes := by simp [State.mirror]
@[simp] theorem State.putStandby_bytes (c : Nat) (f : List (Nat × Nat) → List (Nat × Nat)) : (s.putStandby c f).mem.bytes = s.mem.bytes :=
  by simp [State.putStandby]
@[simp] theorem State.removeStandby_bytes (n : Nat) : (s.removeStandby n).mem.bytes = s.mem.bytes := by simp [State.removeStandby]
@[simp] theorem State.unplaceTrib_bytes (d n : Nat) : (s.unplaceTrib d n).mem.bytes = s.mem.bytes := by simp [State.unplaceTrib]
@[simp] theorem State.keyAtEnable_bytes (d n : Nat) : (s.keyAtEnable d n).mem.bytes = s.mem.bytes := by simp [State.keyAtEnable]
@[simp] theorem State.startTx_bytes (n : Nat) (plan : List (Nat × List Nat)) : (s.startTx n plan).mem.bytes = s.mem.bytes :=
  by simp [State.startTx]
@[simp] theorem State.txDone_bytes (n : Nat) : (s.txDone n).mem.bytes = s.mem.bytes := by simp [State.txDone]
@[simp] theorem State.txBound_bytes (n : Nat) : (s.txBound n).mem.bytes = s.mem.bytes := by simp [State.txBound]
@[simp] theorem State.drainTx_bytes (n : Nat) (abort : Bool) : (s.drainTx n abort).mem.bytes = s.mem.bytes := by simp [State.drainTx]
@[simp] theorem State.removeDrained_bytes : s.removeDrained.mem.bytes = s.mem.bytes := by simp [State.removeDrained]
@[simp] theorem State.returnArea_bytes (n : Nat) (dirty : Bool) : (s.returnArea n dirty).mem.bytes = s.mem.bytes :=
  by simp [State.returnArea]
@[simp] theorem State.rxBound_bytes (n : Nat) : (s.rxBound n).mem.bytes = s.mem.bytes := by simp [State.rxBound]
@[simp] theorem State.rxDrained_bytes (n : Nat) : (s.rxDrained n).mem.bytes = s.mem.bytes := by simp [State.rxDrained]
@[simp] theorem State.zeroHalf_bytes (n half : Nat) : (s.zeroHalf n half).mem.bytes = s.mem.bytes := by simp [State.zeroHalf]
@[simp] theorem State.areaZeroed_bytes (n : Nat) : (s.areaZeroed n).mem.bytes = s.mem.bytes := by
  unfold State.areaZeroed
  dsimp only
  split <;> simp
@[simp] theorem State.drainRx_bytes (n : Nat) (abort : Bool) : (s.drainRx n abort).mem.bytes = s.mem.bytes := by simp [State.drainRx]
@[simp] theorem State.startCar_bytes (c : Nat) : (s.startCar c).mem.bytes = s.mem.bytes := by simp [State.startCar]
@[simp] theorem State.dropConn_bytes (c : Nat) : (s.dropConn c).mem.bytes = s.mem.bytes := by simp [State.dropConn]
@[simp] theorem State.pageBoundary_bytes (c : Nat) : (s.pageBoundary c).mem.bytes = s.mem.bytes := by simp [State.pageBoundary]
@[simp] theorem State.newFirstSeals_bytes : s.newFirstSeals.mem.bytes = s.mem.bytes := by simp [State.newFirstSeals]
@[simp] theorem State.firstSeal_bytes (n : Nat) : (s.firstSeal n).mem.bytes = s.mem.bytes := by simp [State.firstSeal]
@[simp] theorem State.rollBoundary_bytes (n : Nat) : (s.rollBoundary n).mem.bytes = s.mem.bytes := by simp [State.rollBoundary]
@[simp] theorem State.tribBoundary_bytes (n : Nat) : (s.tribBoundary n).mem.bytes = s.mem.bytes := by simp [State.tribBoundary]
@[simp] theorem State.superframe_bytes : s.superframe.mem.bytes = s.mem.bytes := by simp [State.superframe]
@[simp] theorem State.defrag_bytes (c : Nat) : (s.defrag c).mem.bytes = s.mem.bytes := by
  unfold State.defrag
  dsimp only
  (repeat' split) <;> simp
@[simp] theorem State.cmselWrite_bytes (v : Nat) : (s.cmselWrite v).mem.bytes = s.mem.bytes := by simp [State.cmselWrite]

/-! ## Keys, life cycle and tamper (R190 to R232) -/

@[simp] theorem State.loadRoot_bytes : s.loadRoot.mem.bytes = s.mem.bytes := by
  unfold State.loadRoot
  split <;> simp
@[simp] theorem State.keyImp_bytes (e : Nat) (en : Entry) (h : Nat) : (s.keyImp e en h).2.mem.bytes = s.mem.bytes :=
  by simp [State.keyImp]
@[simp] theorem State.keyUnwrap_bytes : s.keyUnwrap.mem.bytes = s.mem.bytes := by
  unfold State.keyUnwrap
  dsimp only
  (repeat' split) <;> simp
@[simp] theorem State.keyStage_bytes (h k : Nat) : (s.keyStage h k).2.mem.bytes = s.mem.bytes := by
  unfold State.keyStage
  dsimp only
  split <;> simp
@[simp] theorem State.keyRoll_bytes (h : Nat) : (s.keyRoll h).2.mem.bytes = s.mem.bytes := by
  unfold State.keyRoll
  dsimp only
  (repeat' split) <;> simp
@[simp] theorem State.keyZero_bytes (h : Nat) : (s.keyZero h).2.mem.bytes = s.mem.bytes := by
  unfold State.keyZero
  dsimp only
  split <;> simp
@[simp] theorem State.keyWarn_bytes (k : Nat) : (s.keyWarn k).mem.bytes = s.mem.bytes := by
  unfold State.keyWarn
  split <;> simp
@[simp] theorem State.keySpend_bytes (k : Nat) : (s.keySpend k).mem.bytes = s.mem.bytes := by
  unfold State.keySpend
  split
  · rfl
  · dsimp only
    split
    · rfl
    · refine (State.foldl_bytes (fun n u => ?_) _ _).trans (s.setKey_bytes _ _)
      dsimp only
      split
      · rfl
      · split <;> simp
@[simp] theorem State.counterLimit_bytes (n : Nat) : (s.counterLimit n).mem.bytes = s.mem.bytes := by simp [State.counterLimit]
@[simp] theorem State.wipe_bytes : s.wipe.mem.bytes = s.mem.bytes := by simp [State.wipe]
@[simp] theorem State.kekEnd_bytes (code : Nat) : (s.kekEnd code).mem.bytes = s.mem.bytes := by simp [State.kekEnd]
@[simp] theorem State.kekDone_bytes (verified : Bool) : (s.kekDone verified).mem.bytes = s.mem.bytes := by
  unfold State.kekDone
  (repeat' split) <;> simp
@[simp] theorem State.kekGo_bytes (plain : Bool) (wrap target : Nat) : (s.kekGo plain wrap target).mem.bytes = s.mem.bytes :=
  by simp [State.kekGo]
@[simp] theorem State.cancelImports_bytes : s.cancelImports.mem.bytes = s.mem.bytes := by simp [State.cancelImports]
@[simp] theorem State.lcsCommit_bytes : s.lcsCommit.mem.bytes = s.mem.bytes := by
  unfold State.lcsCommit
  split <;> simp
@[simp] theorem State.finishErase_bytes : s.finishErase.mem.bytes = s.mem.bytes := by
  unfold State.finishErase
  split <;> simp
@[simp] theorem State.lcsEnd_bytes (ok : Bool) : (s.lcsEnd ok).mem.bytes = s.mem.bytes := by
  unfold State.lcsEnd
  dsimp only
  split <;> simp
@[simp] theorem State.tamper_bytes (c : Nat) : (s.tamper c).mem.bytes = s.mem.bytes := by simp [State.tamper]
@[simp] theorem State.tamperCount_bytes : s.tamperCount.mem.bytes = s.mem.bytes := by simp [State.tamperCount]
@[simp] theorem State.ksselWrite_bytes (v : Nat) : (s.ksselWrite v).mem.bytes = s.mem.bytes := by simp [State.ksselWrite]

/-! ## The housekeeping converter (R512 to R527) -/

@[simp] theorem State.setAdc_bytes (a : Adc) : (s.setAdc a).mem.bytes = s.mem.bytes := by simp [State.setAdc]
@[simp] theorem State.adcStart_bytes (ch : Nat) : (s.adcStart ch).mem.bytes = s.mem.bytes := by simp [State.adcStart]
@[simp] theorem State.adcIdle_bytes : s.adcIdle.mem.bytes = s.mem.bytes := by simp [State.adcIdle]
@[simp] theorem State.adcScan_bytes (after : Option Nat) : (s.adcScan after).mem.bytes = s.mem.bytes := by
  unfold State.adcScan
  (repeat' split) <;> simp
@[simp] theorem State.adcGo_bytes : s.adcGo.mem.bytes = s.mem.bytes := by simp [State.adcGo]
@[simp] theorem State.adcChanged_bytes (abandon : Bool) : (s.adcChanged abandon).mem.bytes = s.mem.bytes := by simp [State.adcChanged]
@[simp] theorem State.hkaCtlWrite_bytes (v : Nat) : (s.hkaCtlWrite v).mem.bytes = s.mem.bytes := by simp [State.hkaCtlWrite]
@[simp] theorem State.hkaScanWrite_bytes (v : Nat) : (s.hkaScanWrite v).mem.bytes = s.mem.bytes := by simp [State.hkaScanWrite]
@[simp] theorem State.almWrite_bytes (k v : Nat) : (s.almWrite k v).mem.bytes = s.mem.bytes := by simp [State.almWrite]
@[simp] theorem State.hkaSample_bytes (bits : List Bool) : (s.hkaSample bits).mem.bytes = s.mem.bytes := by simp [State.hkaSample]
@[simp] theorem State.alarm_bytes (ch mean k : Nat) : (s.alarm ch mean k).mem.bytes = s.mem.bytes := by simp [State.alarm]
@[simp] theorem State.conversionEnd_bytes : s.conversionEnd.mem.bytes = s.mem.bytes := by simp [State.conversionEnd]
@[simp] theorem State.xoStop_bytes : s.xoStop.mem.bytes = s.mem.bytes := by simp [State.xoStop]
@[simp] theorem State.xoReturn_bytes : s.xoReturn.mem.bytes = s.mem.bytes := by simp [State.xoReturn]

/-! ## Performance counters (R556 to R566) -/

@[simp] theorem State.pmcZero_bytes (k : Nat) : (s.pmcZero k).mem.bytes = s.mem.bytes := by simp [State.pmcZero]
@[simp] theorem State.pmcSelWrite_bytes (k v : Nat) : (s.pmcSelWrite k v).mem.bytes = s.mem.bytes := by simp [State.pmcSelWrite]
@[simp] theorem State.pmcZeroAll_bytes : s.pmcZeroAll.mem.bytes = s.mem.bytes := by simp [State.pmcZeroAll]
@[simp] theorem State.pmcCtlWrite_bytes (v : Nat) : (s.pmcCtlWrite v).mem.bytes = s.mem.bytes := by simp [State.pmcCtlWrite]
@[simp] theorem State.pmcTicks_bytes (n : Nat) : (s.pmcTicks n).mem.bytes = s.mem.bytes := by simp [State.pmcTicks]

/-! ## Polders at work (R447 to R473) -/

@[simp] theorem State.offRegs_bytes (n : Nat) : (s.offRegs n).mem.bytes = s.mem.bytes := by simp [State.offRegs]
@[simp] theorem State.mgtSleep_bytes (px po : Nat) : (s.mgtSleep px po).mem.bytes = s.mem.bytes := by simp [State.mgtSleep]
@[simp] theorem State.writeHeldEvent_bytes (src time : Nat) (h : HeldEvent) : (s.writeHeldEvent src time h).mem.bytes = s.mem.bytes :=
  by simp [State.writeHeldEvent]
@[simp] theorem State.writeHeld_bytes : s.writeHeld.mem.bytes = s.mem.bytes := by simp [State.writeHeld]
@[simp] theorem State.mgtWake_bytes : s.mgtWake.mem.bytes = s.mem.bytes := by simp [State.mgtWake]
@[simp] theorem State.settleDue_bytes (n : Nat) : (s.settleDue n).mem.bytes = s.mem.bytes := by simp [State.settleDue]
@[simp] theorem State.lineUp_bytes (c : Nat) (deep : Bool) : (s.lineUp c deep).mem.bytes = s.mem.bytes := by simp [State.lineUp]
@[simp] theorem State.applyPolder_bytes (n : Nat) (d : List Nat) : (s.applyPolder n d).mem.bytes = s.mem.bytes :=
  by simp [State.applyPolder]
@[simp] theorem State.power_bytes (n : Nat) (d : List Nat) : (s.power n d).2.mem.bytes = s.mem.bytes := by
  unfold State.power
  dsimp only
  (repeat' split) <;> simp
@[simp] theorem State.seqBits_bytes (l : List Fld) : (s.seqBits l).mem.bytes = s.mem.bytes := by simp [State.seqBits]
@[simp] theorem State.railGood_bytes (r : Nat) (late : Bool) : (s.railGood r late).mem.bytes = s.mem.bytes := by simp [State.railGood]
@[simp] theorem State.timerWrite_bytes (v : Nat) : (s.timerWrite v).mem.bytes = s.mem.bytes := by simp [State.timerWrite]
@[simp] theorem State.timerFires_bytes : s.timerFires.mem.bytes = s.mem.bytes := by simp [State.timerFires]

/-! ## Instructions on objects (R50 to R73) -/

/-- A direction that cannot be enabled undoes those before it (R99). -/
theorem enableTribs_cons (n d : Nat) (l : List Nat) (s : State) :
    enableTribs n (d :: l) s = match s.enableTrib d n with
      | (0, t) => enableTribs n l t
      | (code, _) => (code, s) := by
  delta enableTribs
  rfl
theorem placeAll_bytes (obj : Nat) (l : List (Nat × Nat)) {t : State} (e : placeAll obj l s = some t) : t.mem.bytes = s.mem.bytes := by
  induction l generalizing s with
  | nil => cases e; rfl
  | cons r l ih =>
    unfold placeAll at e
    split at e
    · next u eu => rw [ih u e, s.place_bytes _ _ _ eu]
    · cases e
@[simp] theorem State.enableCar_bytes (c : Nat) : (s.enableCar c).2.mem.bytes = s.mem.bytes := by
  unfold State.enableCar
  dsimp only
  split
  · rfl
  · split
    · next t e =>
      have ht : t.mem.bytes = s.mem.bytes := by
        split at e
        · cases e; rfl
        · exact s.placeConn_bytes _ e
      simpa using ht
    · rfl
@[simp] theorem State.holdDesc_bytes (d n : Nat) (x : List Nat) : (s.holdDesc d n x).mem.bytes = s.mem.bytes := by simp [State.holdDesc]
@[simp] theorem State.bindCar_bytes (c : Nat) (x : List Nat) : (s.bindCar c x).2.mem.bytes = s.mem.bytes := by
  unfold State.bindCar
  extract_lets old t
  have ht : t.mem.bytes = s.mem.bytes := by simp [t]
  clear_value t
  split
  · rfl
  · split
    · rfl
    · split
      · split
        · exact ht
        · split
          · next u e => rw [← ht, ← t.enableCar_bytes c, e]
          · exact ht
      · split
        · exact ht
        · rfl
@[simp] theorem State.unbind_bytes (h : Nat) : (s.unbind h).2.mem.bytes = s.mem.bytes := by
  unfold State.unbind
  dsimp only
  (repeat' split) <;> simp
@[simp] theorem State.protect_bytes (h code : Nat) : (s.protect h code).2.mem.bytes = s.mem.bytes := by
  unfold State.protect
  dsimp only
  (repeat' split) <;> simp
@[simp] theorem State.pin_bytes (h : Nat) (v : Bool) : (s.pin h v).2.mem.bytes = s.mem.bytes := by simp [State.pin]
@[simp] theorem State.relaneTo_bytes (g l : Nat) : (s.relaneTo g l).mem.bytes = s.mem.bytes := by simp [State.relaneTo]
@[simp] theorem State.relane_bytes (h l : Nat) : (s.relane h l).2.mem.bytes = s.mem.bytes := by
  unfold State.relane
  dsimp only
  (repeat' split) <;> simp
@[simp] theorem State.mretireOp_bytes (h : Nat) : (s.mretireOp h).2.mem.bytes = s.mem.bytes := by
  unfold State.mretireOp
  dsimp only
  (repeat' split) <;> simp
@[simp] theorem State.mtestOp_bytes (h : Nat) : (s.mtestOp h).2.mem.bytes = s.mem.bytes := by
  unfold State.mtestOp
  dsimp only
  split <;> simp

/-! ## Resets and bring-up (R492 to R511) -/

@[simp] theorem State.blankCore_bytes : s.blankCore.mem.bytes = [] := rfl
@[simp] theorem State.coldCore_bytes : s.coldCore.mem.bytes = [] := by simp [State.coldCore]
@[simp] theorem State.warmCore_bytes : s.warmCore.mem.bytes = s.mem.bytes := by
  unfold State.warmCore
  dsimp only
  split <;> simp
@[simp] theorem State.resetRecord_bytes (cause reach : Nat) (ended : Bool) : (s.resetRecord cause reach ended).mem.bytes = s.mem.bytes :=
  by simp [State.resetRecord]
@[simp] theorem State.coldReset_bytes (cause : Nat) : (s.coldReset cause).mem.bytes = [] := by simp [State.coldReset]
@[simp] theorem State.powerOn_bytes : s.powerOn.mem.bytes = [] := by simp [State.powerOn]
@[simp] theorem State.powerLost_bytes : s.powerLost.mem.bytes = [] := by simp [State.powerLost]
@[simp] theorem State.selfTest_bytes (bad : List Nat) : (s.selfTest bad).mem.bytes = s.mem.bytes := by simp [State.selfTest]
@[simp] theorem State.applyLog_bytes : s.applyLog.mem.bytes = s.mem.bytes := by simp [State.applyLog]
@[simp] theorem State.stepEpoch_bytes : s.stepEpoch.mem.bytes = s.mem.bytes := by simp [State.stepEpoch]
@[simp] theorem State.setReady_bytes : s.setReady.mem.bytes = s.mem.bytes := by
  unfold State.setReady
  dsimp only
  (repeat' split) <;> simp
@[simp] theorem State.verifyBank_bytes (k : Nat) : (s.verifyBank k).mem.bytes = s.mem.bytes := by simp [State.verifyBank]
@[simp] theorem State.bootStart_bytes : s.bootStart.mem.bytes = s.mem.bytes := by simp [State.bootStart]
@[simp] theorem State.loadTrims_bytes (l : List (List Byte)) : (s.loadTrims l).mem.bytes = s.mem.bytes := by simp [State.loadTrims]
@[simp] theorem State.bootFails_bytes (cause bank : Nat) : (s.bootFails cause bank).mem.bytes = s.mem.bytes := by simp [State.bootFails]
@[simp] theorem State.leaveDebug_bytes : s.leaveDebug.mem.bytes = s.mem.bytes := by simp [State.leaveDebug]

/-! ## Reading a register -/

@[simp] theorem State.clearRead_bytes (a : Nat) : (s.clearRead a).mem.bytes = s.mem.bytes := by simp [State.clearRead]
@[simp] theorem State.regRead_bytes (a : Nat) : (s.regRead a).2.mem.bytes = s.mem.bytes := by
  unfold State.regRead
  split <;> simp

/-! ## Writing a register -/

@[simp] theorem State.writePlain_bytes (a v : Nat) : (s.writePlain a v).mem.bytes = s.mem.bytes :=
  (s.keeps_writePlain a v).bytes (by simp)
@[simp] theorem State.thmWrite_bytes (a v : Nat) : (s.thmWrite a v).mem.bytes = s.mem.bytes := by simp [State.thmWrite]
@[simp] theorem State.engCtlWrite_bytes (e v : Nat) : (s.engCtlWrite e v).mem.bytes = s.mem.bytes := by simp [State.engCtlWrite]
@[simp] theorem State.claimWrite_bytes (v : Nat) : (s.claimWrite v).mem.bytes = s.mem.bytes := by simp [State.claimWrite]
@[simp] theorem State.kekCtlWrite_bytes (v : Nat) : (s.kekCtlWrite v).mem.bytes = s.mem.bytes := by simp [State.kekCtlWrite]
@[simp] theorem State.calCtlWrite_bytes (c v : Nat) : (s.calCtlWrite c v).mem.bytes = s.mem.bytes := by simp [State.calCtlWrite]
@[simp] theorem State.timeStatusWrite_bytes (v : Nat) : (s.timeStatusWrite v).mem.bytes = s.mem.bytes := by simp [State.timeStatusWrite]
@[simp] theorem State.mailPost_bytes : s.mailPost.mem.bytes = s.mem.bytes := by simp [State.mailPost]
@[simp] theorem State.mailAck_bytes : s.mailAck.mem.bytes = s.mem.bytes := by simp [State.mailAck]
@[simp] theorem State.mbxCtlWrite_bytes (v : Nat) : (s.mbxCtlWrite v).mem.bytes = s.mem.bytes := by simp [State.mbxCtlWrite]
@[simp] theorem State.evqPop_bytes : s.evqPop.mem.bytes = s.mem.bytes := by
  unfold State.evqPop
  split <;> simp
@[simp] theorem State.writeControl_bytes (a v : Nat) : (s.writeControl a v).mem.bytes = s.mem.bytes := by
  unfold State.writeControl
  (repeat' split) <;> simp

/-! ## Management interfaces (R528 to R550) -/

@[simp] theorem State.spiOpen_bytes : s.spiOpen.mem.bytes = s.mem.bytes := by simp [State.spiOpen]
@[simp] theorem State.spiClose_bytes (res : Nat) : (s.spiClose res).mem.bytes = s.mem.bytes := by simp [State.spiClose]
@[simp] theorem State.spiGive_bytes (v : Nat) : (s.spiGive v).mem.bytes = s.mem.bytes := by simp [State.spiGive]
@[simp] theorem State.pmIncomplete_bytes (label : Nat) : (s.pmIncomplete label).mem.bytes = s.mem.bytes := by simp [State.pmIncomplete]
@[simp] theorem State.carrierPm_bytes (c label : Nat) : (s.carrierPm c label).mem.bytes = s.mem.bytes := by simp [State.carrierPm]
@[simp] theorem State.pmSecond_bytes : s.pmSecond.mem.bytes = s.mem.bytes := by simp [State.pmSecond]
@[simp] theorem State.rolledUp_bytes (x : PmSecond) : (s.rolledUp x).mem.bytes = s.mem.bytes := by
  unfold State.rolledUp
  split <;> simp
@[simp] theorem State.pmRollup_bytes : s.pmRollup.mem.bytes = s.mem.bytes := by
  unfold State.pmRollup
  split <;> simp
@[simp] theorem State.mailServe_bytes (kind : Nat → Bool) : (s.mailServe kind).mem.bytes = s.mem.bytes := by
  unfold State.mailServe
  split <;> simp
@[simp] theorem State.i2cDecline_bytes : s.i2cDecline.mem.bytes = s.mem.bytes := by simp [State.i2cDecline]

/-! ## A microsecond (log entry 43) -/

@[simp] theorem State.timerCount_bytes (fs : Nat) : (s.timerCount fs).mem.bytes = s.mem.bytes := by simp [State.timerCount]
@[simp] theorem State.xoTick_bytes : s.xoTick.mem.bytes = s.mem.bytes := by simp [State.xoTick]
@[simp] theorem State.oscTick_bytes : s.oscTick.mem.bytes = s.mem.bytes := by simp [State.oscTick]
@[simp] theorem State.aonTick_bytes : s.aonTick.mem.bytes = s.mem.bytes := by simp [State.aonTick]
@[simp] theorem State.utilise_bytes : s.utilise.mem.bytes = s.mem.bytes := by simp [State.utilise]
@[simp] theorem State.mtpTick_bytes (was : Bool) : (s.mtpTick was).mem.bytes = s.mem.bytes := by simp [State.mtpTick]
@[simp] theorem State.devTick_bytes : s.devTick.mem.bytes = s.mem.bytes := by simp [State.devTick]
@[simp] theorem State.tick_bytes : s.tick.mem.bytes = s.mem.bytes := by simp [State.tick]

end

end Sys2Proof.Machine
end

section
/-! PROOFS. What writes the bytes of the banks keeps their canonical form (R26, R424). The rules conclude about `Memory.wf` of the bytes,
which is what `simp` makes of `State.Canonical` once the rules above have removed what leaves the bytes alone. -/

namespace Sys2Proof.Machine

open Reg

/-! ## Canonical states -/

/-- The banks of a state are in canonical form. -/
def State.Canonical (s : State) : Prop := Memory.wf s.mem.bytes = true

@[simp] theorem State.canonical_iff (s : State) : s.Canonical ↔ Memory.wf s.mem.bytes = true := ⟨id, id⟩

theorem State.Canonical.wf {s : State} (h : s.Canonical) : Memory.wf s.mem.bytes = true := h

/-- Being canonical is a matter of the bytes alone. -/
theorem State.Canonical.of_bytes {s t : State} (h : s.Canonical) (e : t.mem.bytes = s.mem.bytes) : t.Canonical := by
  rw [State.canonical_iff, e]
  exact h

theorem State.Canonical.ite {s t : State} {c : Prop} {_ : Decidable c} (h : c → s.Canonical) (k : ¬ c → t.Canonical) :
    (if c then s else t).Canonical := by
  split
  · exact h ‹_›
  · exact k ‹_›

@[simp] theorem Memory.wf_ite (c : Prop) {_ : Decidable c} (m n : List Host.Cell) :
    Memory.wf (if c then m else n) = true ↔ (c → Memory.wf m = true) ∧ (¬ c → Memory.wf n = true) := by
  split <;> simp [*]

@[simp] theorem Memory.wf_nil : Memory.wf [] = true := rfl

/-- An update keeps canonical states canonical. -/
def KeepsCanonical (f : State → State) : Prop := ∀ u, u.Canonical → (f u).Canonical

@[simp] theorem keepsCanonical_iff (f : State → State) : KeepsCanonical f ↔ ∀ u, u.Canonical → (f u).Canonical := ⟨id, id⟩

/-- A fold over anything that holds a state. -/
theorem foldl_canonical_at {α β : Type} (p : β → State) {g : β → α → β}
    (hg : ∀ b a, (p b).Canonical → (p (g b a)).Canonical) (l : List α) (b : β) (h : (p b).Canonical) :
    (p (l.foldl g b)).Canonical := by
  induction l generalizing b with
  | nil => exact h
  | cons a l ih => exact ih _ (hg b a h)

@[simp] theorem State.foldl_canonical {α : Type} {g : State → α → State} (hg : ∀ a, KeepsCanonical (fun u => g u a)) (l : List α)
    {s : State} (h : s.Canonical) : Memory.wf (l.foldl g s).mem.bytes = true :=
  foldl_canonical_at id (fun u a => hg a u) l s h

section

variable {s : State} (hs : s.Canonical)
include hs

/-! ## Registers, engines and events -/

@[simp] theorem State.gated_canonical (a : Nat) {f : State → State} (hf : KeepsCanonical f) :
    Memory.wf (s.gated a f).mem.bytes = true := by
  unfold State.gated
  split
  · split
    · exact hf s hs
    · simp [hs.wf]
  · exact hs

/-! ## Words of a bank -/

@[simp] theorem State.storeWord_canonical (w v : Nat) (poison : Bool) : Memory.wf (s.storeWord w v poison).mem.bytes = true :=
  Memory.wf_writeWord hs w v

/-! ## Memory and error correction (R419 to R446) -/

@[simp] theorem State.zeroBank_canonical (b : Nat) : Memory.wf (s.zeroBank b).mem.bytes = true := Memory.wf_zeroWords hs _ _
@[simp] theorem State.clearDone_canonical (b : Nat) : Memory.wf (s.clearDone b).mem.bytes = true := by simp [State.clearDone, hs.wf]
@[simp] theorem State.uncorrectable_canonical (w mask : Nat) : Memory.wf (s.uncorrectable w mask).mem.bytes = true := by
  have h := Memory.wf_writeWord hs.wf w (Nat.xor (readWord s.mem.bytes w) (mask % 2 ^ 64))
  simpa [State.uncorrectable] using h
@[simp] theorem State.readMem_canonical (w : Nat) : Memory.wf (s.readMem w).2.mem.bytes = true := by
  unfold State.readMem
  dsimp only
  split
  · split
    · exact hs
    · exact Memory.wf_writeWord hs _ _
  · simp [Memory.wf_writeWord hs.wf]
  · simp [hs.wf]
@[simp] theorem State.accWrite_canonical (coll : Bool) : Memory.wf (s.accWrite coll).mem.bytes = true := by simp [State.accWrite, hs.wf]
@[simp] theorem State.accRead_canonical (mask : Nat) : Memory.wf (s.accRead mask).mem.bytes = true := by simp [State.accRead, hs.wf]

/-! ## Seals (R180 to R229) -/

@[simp] theorem State.takeWords_canonical (ws : List Nat) (consumer : Nat) (event : Bool) :
    Memory.wf (s.takeWords ws consumer event).2.mem.bytes = true := by
  unfold State.takeWords
  split
  · exact hs
  · dsimp only
    rw [← State.canonical_iff]
    refine foldl_canonical_at Prod.snd (fun p i hp => ?_) _ _ ?_
    · simpa using hp
    · simp +contextual [hs.wf]
@[simp] theorem State.takeBuffer_canonical (role obj at_ : Nat) (event : Bool) :
    Memory.wf (s.takeBuffer role obj at_ event).2.mem.bytes = true := by simp [State.takeBuffer, hs.wf]
@[simp] theorem State.takePlain_canonical (n k : Nat) : Memory.wf (s.takePlain n k).2.mem.bytes = true := by simp [State.takePlain, hs.wf]
@[simp] theorem State.nextUnit_canonical (n sl fnum k : Nat) : Memory.wf (s.nextUnit n sl fnum k).2.mem.bytes = true := by
  unfold State.nextUnit
  dsimp only
  (repeat' split) <;> simp [hs.wf]
@[simp] theorem State.nextUnits_canonical (n sl fnum : Nat) : Memory.wf (s.nextUnits n sl fnum).2.mem.bytes = true := by
  unfold State.nextUnits
  rw [← State.canonical_iff]
  refine foldl_canonical_at Prod.snd (fun p k hp => ?_) _ ([], s) hs
  exact State.nextUnit_canonical hp n sl fnum k
@[simp] theorem State.blockBad_canonical (n : Nat) (sl : RxSeal) : Memory.wf (s.blockBad n sl).2.mem.bytes = true :=
  by simp [State.blockBad, hs.wf]
@[simp] theorem State.rateBuffer_canonical (n : Nat) (sl : RxSeal) (bytes : List Byte) :
    Memory.wf (s.rateBuffer n sl bytes).2.mem.bytes = true := by simp [State.rateBuffer, hs.wf]
@[simp] theorem State.releaseFront_canonical (n k : Nat) : Memory.wf (s.releaseFront n k).mem.bytes = true := by
  induction k generalizing s with
  | zero => exact hs
  | succ k ih =>
    have hb (sl : RxSeal) := State.blockBad_canonical hs n sl
    unfold State.releaseFront
    dsimp only
    repeat' split
    all_goals simp [ih, hs.wf, hb]
@[simp] theorem State.receiveUnit_canonical (n : Nat) : Memory.wf (s.receiveUnit n).mem.bytes = true := by
  have hf := State.releaseFront_canonical hs n releaseAll
  unfold State.receiveUnit
  generalize s.releaseFront n releaseAll = u at hf ⊢
  rw [← State.canonical_iff]
  dsimp only
  split
  · exact hf
  · split
    all_goals
      refine .ite (fun _ => by simp [hf]) fun _ => .ite (fun _ => by simp [hf]) fun _ => .ite (fun _ => by simp [hf]) fun _ =>
        .ite (fun _ => hf) fun _ => ?_
      split <;> simp [hf]
@[simp] theorem State.tagVerdict_canonical (n : Nat) : Memory.wf (s.tagVerdict n).mem.bytes = true := by
  unfold State.tagVerdict
  dsimp only
  (repeat' split) <;> simp [hs.wf]
@[simp] theorem State.toHunt_canonical (n : Nat) : Memory.wf (s.toHunt n).mem.bytes = true := by simp [State.toHunt, hs.wf]

/-! ## Transmit frames (R237 to R239) -/

@[simp] theorem State.transmitFrame_canonical : Memory.wf s.transmitFrame.mem.bytes = true := by
  unfold State.transmitFrame
  dsimp only
  refine State.foldl_canonical (fun c u hu => ?_) _ ?_
  · simpa using hu
  · refine foldl_canonical_at Prod.snd (fun p n hp => ?_) _ ([], s) hs
    exact State.nextUnits_canonical hp n _ _

/-! ## Receive frames (R235 to R254) -/

@[simp] theorem State.copyLost_canonical (c n : Nat) (inUse : Bool) : Memory.wf (s.copyLost c n inUse).mem.bytes = true :=
  by simp [State.copyLost, hs.wf]
@[simp] theorem State.copiesLost_canonical (c : Nat) : Memory.wf (s.copiesLost c).mem.bytes = true :=
  by simp +contextual [State.copiesLost, hs.wf]
@[simp] theorem State.newSlots_canonical (c n k : Nat) : Memory.wf (s.newSlots c n k).mem.bytes = true := by simp [State.newSlots, hs.wf]
@[simp] theorem State.setRxPage_canonical (c gen : Nat) (page : List (Nat × Nat)) : Memory.wf (s.setRxPage c gen page).mem.bytes = true :=
  by simp +contextual [State.setRxPage, hs.wf]
@[simp] theorem State.applyMap_canonical (c : Nat) : Memory.wf (s.applyMap c).mem.bytes = true := by
  unfold State.applyMap
  split <;> simp [hs.wf]
@[simp] theorem State.readOverhead_canonical (c f at_ : Nat) (bytes : List RxByte) :
    Memory.wf (s.readOverhead c f at_ bytes).mem.bytes = true := by simp [State.readOverhead, hs.wf]
@[simp] theorem State.processFrame_canonical (c at_ : Nat) (frame : List RxByte) :
    Memory.wf (s.processFrame c at_ frame).mem.bytes = true := by simp [State.processFrame, hs.wf]
@[simp] theorem State.enterSync_canonical (c off : Nat) : Memory.wf (s.enterSync c off).mem.bytes = true :=
  by simp [State.enterSync, hs.wf]
@[simp] theorem State.leaveSync_canonical (c : Nat) : Memory.wf (s.leaveSync c).mem.bytes = true := by simp [State.leaveSync, hs.wf]
@[simp] theorem State.loseLock_canonical (c : Nat) : Memory.wf (s.loseLock c).mem.bytes = true := by simp [State.loseLock, hs.wf]
@[simp] theorem State.receiveFrame_canonical (c at_ : Nat) : Memory.wf (s.receiveFrame c at_).mem.bytes = true := by
  unfold State.receiveFrame
  dsimp only
  (repeat' split) <;> simp [hs.wf]

/-! ## Timing and the levee ring (R388 to R418) -/

@[simp] theorem State.ringChecked_canonical (ty : Nat) (m : RingIn) {f : State → State} (hf : KeepsCanonical f) :
    Memory.wf (s.ringChecked ty m f).mem.bytes = true := by
  have ht : (if s.wicketOpen then s else s.ringPut (ringAsIs m)).Canonical := hs.of_bytes (by simp)
  unfold State.ringChecked
  dsimp only
  split
  · exact ht.of_bytes (by simp)
  · split
    · exact ht
    · exact hf _ ht

/-! ## Acquisition (R338 to R360) -/

@[simp] theorem State.rxDown_canonical (c : Nat) : Memory.wf (s.rxDown c).mem.bytes = true := by simp [State.rxDown, hs.wf]
@[simp] theorem State.dropLock_canonical (c cause : Nat) : Memory.wf (s.dropLock c cause).mem.bytes = true :=
  by simp [State.dropLock, hs.wf]
@[simp] theorem State.preempt_canonical (c : Nat) : Memory.wf (s.preempt c).mem.bytes = true := by
  unfold State.preempt
  dsimp only
  split <;> simp [hs.wf]
@[simp] theorem State.lockLost_canonical (c cause : Nat) : Memory.wf (s.lockLost c cause).mem.bytes = true :=
  by simp [State.lockLost, hs.wf]
@[simp] theorem State.acqStop_canonical (c : Nat) : Memory.wf (s.acqStop c).mem.bytes = true := by simp [State.acqStop, hs.wf]
@[simp] theorem State.acqRestart_canonical (c : Nat) : Memory.wf (s.acqRestart c).mem.bytes = true := by simp [State.acqRestart, hs.wf]
@[simp] theorem State.pilotLocked_canonical (c : Nat) (x : PilotMeas) : Memory.wf (s.pilotLocked c x).mem.bytes = true :=
  by simp [State.pilotLocked, hs.wf]
@[simp] theorem State.pilotBlock_canonical (c : Nat) (x : PilotMeas) : Memory.wf (s.pilotBlock c x).mem.bytes = true :=
  by simp [State.pilotBlock, hs.wf]

/-! ## Engines and the program store (R42 to R105) -/

@[simp] theorem State.windowWrite_canonical (off v : Nat) : Memory.wf (s.windowWrite off v).mem.bytes = true :=
  by simp [State.windowWrite, hs.wf]
@[simp] theorem State.windowRead_canonical (off : Nat) : Memory.wf (s.windowRead off).2.mem.bytes = true :=
  by simp [State.windowRead, hs.wf]
@[simp] theorem State.runObject_canonical (op e p : Nat) {f : State → Entry → Nat → Res × State} (hf : ∀ en h, KeepsCanonical
    (fun u => (f u en h).2)) :
    Memory.wf (s.runObject op e p f).mem.bytes = true := by
  have settled {u : State} (hu : u.Canonical) (en : Entry) (h : Nat) (r : Res) :
      ((f u en h).2.settle e p en.word h r).Canonical := (hf en h u hu).of_bytes (by simp)
  unfold State.runObject
  dsimp only
  split
  · split
    · exact settled hs _ _ _
    · exact hs
  · split
    · exact hs
    · split
      · next t h =>
        have ht : t.Canonical := hs.of_bytes (by rw [← s.startTo_bytes e p 64, h])
        split
        · exact settled ht _ _ _
        · exact ht
      · next t h => exact hs.of_bytes (by rw [← s.startTo_bytes e p 64, h])
@[simp] theorem State.runNext_canonical (op e : Nat) {f : State → Entry → State} (hf : ∀ en, KeepsCanonical (fun u => f u en)) :
    Memory.wf (s.runNext op e f).mem.bytes = true := by
  unfold State.runNext
  split
  · exact hs
  · split
    · next q t h =>
      have ht : t.Canonical := hs.of_bytes (by rw [← s.startNext_bytes e, h])
      split
      · exact hf _ t ht
      · exact ht
    · next t _ h => exact hs.of_bytes (by rw [← s.startNext_bytes e, h])
@[simp] theorem State.dataOp_canonical (op e : Nat) (f : Engine → Nat → Nat) : Memory.wf (s.dataOp op e f).mem.bytes = true :=
  by simp [State.dataOp, hs.wf]
@[simp] theorem State.execLoad_canonical (e : Nat) : Memory.wf (s.execLoad e).mem.bytes = true :=
  by simp +contextual [State.execLoad, hs.wf]
@[simp] theorem State.execStore_canonical (e : Nat) : Memory.wf (s.execStore e).mem.bytes = true :=
  by simp +contextual [State.execStore, hs.wf]

/-! ## Holding carriers (R487, R507, R550) -/

@[simp] theorem State.startCarrier_canonical (c : Nat) : Memory.wf (s.startCarrier c).mem.bytes = true :=
  by simp [State.startCarrier, hs.wf]
@[simp] theorem State.holdCarriers_canonical : Memory.wf s.holdCarriers.mem.bytes = true := by simp [State.holdCarriers, hs.wf]
@[simp] theorem State.unholdCarriers_canonical : Memory.wf s.unholdCarriers.mem.bytes = true := by simp [State.unholdCarriers, hs.wf]
@[simp] theorem State.withHold_canonical {f : State → State} (hf : KeepsCanonical f) : Memory.wf (s.withHold f).mem.bytes = true := by
  have ht := hf s hs
  unfold State.withHold
  dsimp only
  split
  · exact ht
  · split
    · exact State.holdCarriers_canonical ht
    · exact State.unholdCarriers_canonical ht

/-! ## The thermal model (R473 to R491) -/

@[simp] theorem State.tripIn_canonical : Memory.wf s.tripIn.mem.bytes = true := by simp [State.tripIn, hs.wf]
@[simp] theorem State.tripOut_canonical : Memory.wf s.tripOut.mem.bytes = true := by simp [State.tripOut, hs.wf]

/-! ## Host lanes and groups (R114 to R159) -/

@[simp] theorem State.adaptRx_canonical (n : Nat) : Memory.wf (s.adaptRx n).mem.bytes = true := by simp [State.adaptRx, hs.wf]
@[simp] theorem State.groupBlocks_canonical (g k : Nat) : Memory.wf (s.groupBlocks g k).2.mem.bytes = true := by
  unfold State.groupBlocks
  split <;> simp [hs.wf]
@[simp] theorem State.groupCell_canonical (g skip : Nat) : Memory.wf (s.groupCell g skip).2.mem.bytes = true := by
  unfold State.groupCell
  extract_lets run t order
  have ht : t.Canonical := State.foldl_canonical (fun n u hu => State.adaptRx_canonical hu n) _ hs
  clear_value t order
  split
  · simp [ht.wf]
  · split <;> simp [ht.wf]
@[simp] theorem State.hostTransmit_canonical (g skip : Nat) : Memory.wf (s.hostTransmit g skip).mem.bytes = true := by
  unfold State.hostTransmit
  dsimp only
  (repeat' split) <;> simp [hs.wf]

/-! ## Tributaries and carriers at work (R161 to R188) -/

@[simp] theorem State.connRead_canonical (c page slots : Nat) : Memory.wf (s.connRead c page slots).2.mem.bytes = true :=
  by simp +contextual [State.connRead, hs.wf]
@[simp] theorem State.connTx_canonical (c : Nat) : Memory.wf (s.connTx c).mem.bytes = true := by simp [State.connTx, hs.wf]
@[simp] theorem State.connRx_canonical (c : Nat) : Memory.wf (s.connRx c).mem.bytes = true := by simp [State.connRx, hs.wf]
@[simp] theorem State.rxDone_canonical (n : Nat) : Memory.wf (s.rxDone n).mem.bytes = true := by simp +contextual [State.rxDone, hs.wf]
@[simp] theorem State.startRx_canonical (n : Nat) : Memory.wf (s.startRx n).mem.bytes = true := by simp [State.startRx, hs.wf]
@[simp] theorem State.enablesDone_canonical : Memory.wf s.enablesDone.mem.bytes = true := by simp +contextual [State.enablesDone, hs.wf]
@[simp] theorem State.carDone_canonical (c : Nat) : Memory.wf (s.carDone c).mem.bytes = true := by simp [State.carDone, hs.wf]
@[simp] theorem State.stopCar_canonical (c : Nat) : Memory.wf (s.stopCar c).mem.bytes = true := by simp [State.stopCar, hs.wf]
@[simp] theorem State.frameBoundary_canonical : Memory.wf s.frameBoundary.mem.bytes = true := by simp [State.frameBoundary, hs.wf]

/-! ## Keys, life cycle and tamper (R190 to R232) -/

@[simp] theorem State.zeroLock_canonical : Memory.wf s.zeroLock.mem.bytes = true := by simp +contextual [State.zeroLock, hs.wf]
@[simp] theorem State.lcsWrite_canonical (confirm req : Nat) : Memory.wf (s.lcsWrite confirm req).mem.bytes = true :=
  by simp [State.lcsWrite, hs.wf]
@[simp] theorem State.tamperZeroed_canonical : Memory.wf s.tamperZeroed.mem.bytes = true := by simp [State.tamperZeroed, hs.wf]

/-! ## Polders at work (R447 to R473) -/

@[simp] theorem State.offState_canonical (n : Nat) : Memory.wf (s.offState n).mem.bytes = true := by
  unfold State.offState
  split
  · exact hs
  · generalize (List.range 8).map _ = banks
    split
    · simp [hs.wf]
    · generalize (List.range 7).map _ = lanes
      split
      · simp [hs.wf]
      · split
        · exact hs
        · split
          · simp [hs.wf]
          · split
            · simp +contextual [hs.wf]
            · exact hs
@[simp] theorem State.entryEnd_canonical (n px po : Nat) : Memory.wf (s.entryEnd n px po).mem.bytes = true := by
  unfold State.entryEnd
  dsimp only
  (repeat' split) <;> simp [hs.wf]
@[simp] theorem State.wakeEnd_canonical (n : Nat) : Memory.wf (s.wakeEnd n).mem.bytes = true := by
  unfold State.wakeEnd
  split <;> simp [hs.wf]
@[simp] theorem State.railFall_canonical (r : Nat) : Memory.wf (s.railFall r).mem.bytes = true := by
  unfold State.railFall
  extract_lets drop
  have hd : KeepsCanonical drop := fun u hu => hu.of_bytes rfl
  clear_value drop
  split
  · rw [State.post_bytes, ← State.canonical_iff]
    refine State.Canonical.ite (fun _ => ?_) (fun _ => ?_)
    · refine State.Canonical.of_bytes (State.foldl_canonical (fun n u hu => ?_) _ (hd s hs)) (State.evalHosts_bytes _)
      simp [hu.wf]
    · have hw := State.withHold_canonical hs hd
      exact State.Canonical.ite (fun _ => State.Canonical.of_bytes hw (State.seqBits_bytes _ _)) (fun _ => hw)
  · exact hs
@[simp] theorem State.railReturn_canonical (r : Nat) : Memory.wf (s.railReturn r).mem.bytes = true := by simp [State.railReturn, hs.wf]

/-! ## Instructions on objects (R50 to R73) -/

@[simp] theorem State.enableTrib_canonical (d n : Nat) : Memory.wf (s.enableTrib d n).2.mem.bytes = true := by
  unfold State.enableTrib
  dsimp only
  split
  · exact hs
  · split
    · next t e =>
      have ht : t.Canonical := hs.of_bytes (placeAll_bytes s _ _ e)
      exact State.Canonical.ite (fun _ => ht.of_bytes (by simp)) (fun _ => State.startRx_canonical ht n)
    · exact hs
@[simp] theorem enableTribs_canonical (n : Nat) (l : List Nat) : Memory.wf (enableTribs n l s).2.mem.bytes = true := by
  induction l generalizing s with
  | nil => exact hs
  | cons d l ih =>
    have hd := State.enableTrib_canonical hs d n
    rw [enableTribs_cons]
    split
    · next t e =>
      rw [e] at hd
      exact ih hd
    · exact hs
@[simp] theorem State.enableDirs_canonical (n : Nat) (dirs : List Nat) : Memory.wf (s.enableDirs n dirs).2.mem.bytes = true := by
  have ht := enableTribs_canonical hs n dirs
  unfold State.enableDirs
  split
  · next e =>
    rw [e] at ht
    exact ht
  · exact hs
@[simp] theorem State.enable_canonical (h : Nat) : Memory.wf (s.enable h).2.mem.bytes = true := by
  unfold State.enable
  dsimp only
  split
  · split
    · exact hs
    · exact hs
    · split <;> exact hs
    · split
      · exact hs
      · split
        · next t e => exact hs.of_bytes (by rw [← s.enableCar_bytes, e])
        · exact hs
  · split
    · exact hs
    · exact State.enableDirs_canonical hs _ _
@[simp] theorem State.disable_canonical (h : Nat) (abort : Bool) : Memory.wf (s.disable h abort).2.mem.bytes = true := by
  unfold State.disable
  dsimp only
  (repeat' split) <;> simp [hs.wf]
@[simp] theorem State.bindTrib_canonical (h : Nat) (x : List Nat) : Memory.wf (s.bindTrib h x).2.mem.bytes = true := by
  unfold State.bindTrib
  dsimp only
  (repeat' split) <;> simp [hs.wf]
@[simp] theorem State.bind_canonical (h : Nat) (x : List Nat) : Memory.wf (s.bind h x).2.mem.bytes = true := by
  unfold State.bind
  dsimp only
  (repeat' split) <;> simp [hs.wf]
@[simp] theorem State.protectRow_canonical (e p code : Nat) : Memory.wf (s.protectRow e p code).mem.bytes = true :=
  by simp [State.protectRow, hs.wf]

/-! ## Resets and bring-up (R492 to R511) -/

@[simp] theorem State.warmReset_canonical (cause : Nat) : Memory.wf (s.warmReset cause).mem.bytes = true :=
  by simp [State.warmReset, hs.wf]
@[simp] theorem State.coldRequest_canonical (cause : Nat) : Memory.wf (s.coldRequest cause).mem.bytes = true :=
  by simp [State.coldRequest, hs.wf]
@[simp] theorem State.coreRail_canonical (r cause : Nat) : Memory.wf (s.coreRail r cause).mem.bytes = true :=
  by simp [State.coreRail, hs.wf]
@[simp] theorem State.rstWrite_canonical (key req : Nat) : Memory.wf (s.rstWrite key req).mem.bytes = true :=
  by simp [State.rstWrite, hs.wf]
@[simp] theorem State.critError_canonical (u : Nat) : Memory.wf (s.critError u).mem.bytes = true := by simp [State.critError, hs.wf]
@[simp] theorem State.lockOut_canonical : Memory.wf s.lockOut.mem.bytes = true := by simp [State.lockOut, hs.wf]
@[simp] theorem State.copyImage_canonical (k : Nat) (ws : List Nat) : Memory.wf (s.copyImage k ws).mem.bytes = true :=
  by simp +contextual [State.copyImage, hs.wf]
@[simp] theorem State.bootAction_canonical (image : List Nat) : Memory.wf (s.bootAction image).mem.bytes = true := by
  unfold State.bootAction
  split <;> simp [hs.wf]
@[simp] theorem State.bringUp_canonical (x : BringUp) : Memory.wf (s.bringUp x).mem.bytes = true := by
  unfold State.bringUp
  dsimp only
  (repeat' split) <;> simp [hs.wf]
@[simp] theorem State.warmBringUp_canonical (bad : List Nat) : Memory.wf (s.warmBringUp bad).mem.bytes = true :=
  by simp [State.warmBringUp, hs.wf]
@[simp] theorem State.flashEnd_canonical (x : FlashLoad) : Memory.wf (s.flashEnd x).mem.bytes = true := by
  unfold State.flashEnd
  extract_lets rst t banks u
  have ht : t.Canonical := hs.of_bytes rfl
  have hu : u.Canonical := State.foldl_canonical (fun k v hv =>
    State.Canonical.of_bytes (State.copyImage_canonical hv k _) (State.verifyBank_bytes _ k)) _ ht
  clear_value t u
  split
  · split <;> simp [hu.wf]
  · simp [ht.wf]

/-! ## Writing a register -/

@[simp] theorem State.accCtlWrite_canonical (v : Nat) : Memory.wf (s.accCtlWrite v).mem.bytes = true := by simp [State.accCtlWrite, hs.wf]
@[simp] theorem State.acqCtlWrite_canonical (c v : Nat) : Memory.wf (s.acqCtlWrite c v).mem.bytes = true := by
  unfold State.acqCtlWrite
  dsimp only
  (repeat' split) <;> simp [hs.wf]
@[simp] theorem State.writeAon_canonical (a v : Nat) : Memory.wf (s.writeAon a v).mem.bytes = true := by
  unfold State.writeAon
  cases nthReg 0x40020 8 4 a <;> simp [hs.wf]
@[simp] theorem State.writePath_canonical (a v : Nat) : Memory.wf (s.writePath a v).mem.bytes = true := by
  unfold State.writePath
  (repeat' split) <;> simp [hs.wf]
@[simp] theorem State.writeLine_canonical (a v c : Nat) : Memory.wf (s.writeLine a v c).mem.bytes = true :=
  by simp [State.writeLine, hs.wf]
@[simp] theorem State.writeLines_canonical (a v : Nat) : Memory.wf (s.writeLines a v).mem.bytes = true :=
  by simp [State.writeLines, hs.wf]
@[simp] theorem State.writeReg_canonical (a v : Nat) : Memory.wf (s.writeReg a v).mem.bytes = true := by simp [State.writeReg, hs.wf]
@[simp] theorem State.regWrite_canonical (a v : Nat) : Memory.wf (s.regWrite a v).mem.bytes = true := by simp [State.regWrite, hs.wf]

/-! ## Management interfaces (R528 to R550) -/

@[simp] theorem State.busRead_canonical (a : Nat) : Memory.wf (s.busRead a).2.mem.bytes = true := by
  unfold State.busRead
  (repeat' split) <;> simp [hs.wf]
@[simp] theorem State.busWrite_canonical (a v : Nat) : Memory.wf (s.busWrite a v).2.mem.bytes = true := by
  unfold State.busWrite
  (repeat' split) <;> simp [hs.wf]
@[simp] theorem State.spi_canonical {f : State → Nat × State} (hf : KeepsCanonical (fun u => (f u).2)) :
    Memory.wf (s.spi f).mem.bytes = true := by
  unfold State.spi
  dsimp only
  split
  · have hr := hf s.spiOpen (hs.of_bytes (by simp))
    exact hr.of_bytes (by simp)
  · simp [hs.wf]
@[simp] theorem State.spiWrites_canonical (a : Nat) (l : List Nat) : Memory.wf (s.spiWrites a l).2.mem.bytes = true := by
  induction l generalizing s a with
  | nil => exact hs
  | cons v l ih =>
    unfold State.spiWrites
    split
    · exact ih (State.busWrite_canonical hs a v) _
    · exact hs
@[simp] theorem State.spiReads_canonical (a k : Nat) : Memory.wf (s.spiReads a k).mem.bytes = true := by
  induction k generalizing s a with
  | zero => exact hs
  | succ k ih =>
    have hr : (s.busRead a).2.Canonical := State.busRead_canonical hs a
    exact ih (hr.of_bytes (by simp)) _
@[simp] theorem State.spiAt_canonical (addr : Option W32) {f : State → Nat → Nat × State} (hf : ∀ a, KeepsCanonical (fun u =>
    (f u a).2)) :
    Memory.wf (s.spiAt addr f).mem.bytes = true := by
  refine State.spi_canonical hs (fun u hu => ?_)
  dsimp only
  split
  · split
    · exact hf _ u hu
    · exact hu
  · exact hu
@[simp] theorem State.i2c_canonical (i : Nat) {f : State → Nat → State} (hf : ∀ a, KeepsCanonical (fun u => f u a)) :
    Memory.wf (s.i2c i f).mem.bytes = true := by
  unfold State.i2c
  dsimp only
  split
  · simp [hs.wf]
  · split
    · simp [hs.wf]
    · split
      · simp [hs.wf]
      · exact hf _ _ (hs.of_bytes (by simp))
@[simp] theorem State.loadIr_canonical (ir : Nat) : Memory.wf (s.loadIr ir).mem.bytes = true := by simp [State.loadIr, hs.wf]

end

end Sys2Proof.Machine
end

section
/-! PROOFS. Every command, and with them every step, keeps the banks in canonical form. -/

namespace Sys2Proof.Machine

open Reg

/-- A meaning that answers a next state answers a canonical one; a fault leaves no state. -/
def Outcome.Canonical : Outcome → Prop
  | .next t => t.Canonical
  | .fault _ => True
  | .refused _ => True

@[simp] theorem answer_canonical (s : State) : (answer s).Canonical ↔ Memory.wf s.mem.bytes = true := Iff.rfl

@[simp] theorem answerIf_canonical (b : Bool) (s : State) :
    (answerIf b s).Canonical ↔ (b = true → Memory.wf s.mem.bytes = true) := by
  cases b <;> simp [answerIf, Outcome.Canonical]

section

variable {s : State} (hs : s.Canonical)
include hs

/-! ## Memory and error correction (R419 to R446) -/

theorem execScrubRead_canonical (b : Fin 192) (word : BitVec 16) (upset : BitVec 73) : (execScrubRead b word upset s).Canonical :=
  by simp [execScrubRead, hs.wf]
theorem execTestBlock_canonical (b : Fin 192) (fails : BitVec 73) : (execTestBlock b fails s).Canonical := by simp [execTestBlock, hs.wf]
theorem execBucketLeak_canonical (b : Fin 192) : (execBucketLeak b s).Canonical := by simp [execBucketLeak, hs.wf]
theorem execBistStart_canonical (b : Fin 192) : (execBistStart b s).Canonical := by simp [execBistStart, hs.wf]
theorem execMemClaim_canonical (b : BitVec 8) : (execMemClaim b s).Canonical := by simp [execMemClaim, hs.wf]
theorem execMemRelease_canonical (b : BitVec 8) : (execMemRelease b s).Canonical := by simp [execMemRelease, hs.wf]
theorem execAccWrite_canonical (b : BitVec 8) (word : BitVec 16) (poison coll : Bool) : (execAccWrite b word poison coll s).Canonical :=
  by simp +contextual [execAccWrite, hs.wf]
theorem execAccRead_canonical (b : BitVec 8) (word : BitVec 16) (upset : BitVec 73) : (execAccRead b word upset s).Canonical :=
  by simp +contextual [execAccRead, hs.wf]
theorem execLogClr_canonical : (execLogClr s).Canonical := by simp [execLogClr, hs.wf]
theorem execInjArm_canonical (v : W32) : (execInjArm v s).Canonical := by simp [execInjArm, hs.wf]
theorem execLogselWrite_canonical (v : W32) : (execLogselWrite v s).Canonical := by simp [execLogselWrite, hs.wf]

/-! ## Converters and calibration (R361 to R387) -/

theorem execStartupEnd_canonical (c : Fin 2) : (execStartupEnd c s).Canonical := by simp [execStartupEnd, hs.wf]
theorem execPairStart_canonical (st : Fin 4) : (execPairStart st s).Canonical := by simp [execPairStart, hs.wf]
theorem execCalibrationRunEnd_canonical (st : Fin 4) (x : CalStats) : (execCalibrationRunEnd st x s).Canonical :=
  by simp [execCalibrationRunEnd, hs.wf]
theorem execCorrectionStep_canonical (st : Fin 4) : (execCorrectionStep st s).Canonical := by simp [execCorrectionStep, hs.wf]
theorem execStoreInstr_canonical : (execStore_ s).Canonical := by simp [execStore_, hs.wf]
theorem execStoreJob_canonical : (execStoreJob s).Canonical := by simp [execStoreJob, hs.wf]
theorem execStoreInvalidated_canonical : (execStoreInvalidated s).Canonical := by simp [execStoreInvalidated, hs.wf]
theorem execStoreWritten_canonical : (execStoreWritten s).Canonical := by simp [execStoreWritten, hs.wf]
theorem execStoreVerified_canonical (right : Bool) : (execStoreVerified right s).Canonical := by simp [execStoreVerified, hs.wf]
theorem execStoreCommitted_canonical : (execStoreCommitted s).Canonical := by simp [execStoreCommitted, hs.wf]
theorem execPeriodBoundary_canonical (_st : Fin 4) : (execPeriodBoundary _st s).Canonical := by simp [execPeriodBoundary, hs.wf]
theorem execMapWrite_canonical (c : Fin 2) (v : W32) : (execMapWrite c v s).Canonical := by simp [execMapWrite, hs.wf]
theorem execTabselWrite_canonical (c : Fin 2) (v : W32) : (execTabselWrite c v s).Canonical := by simp [execTabselWrite, hs.wf]
theorem execBinselWrite_canonical (v : W32) : (execBinselWrite v s).Canonical := by simp [execBinselWrite, hs.wf]
theorem execLogWrite_canonical : (execLogWrite s).Canonical := by
  unfold execLogWrite
  split <;> simp [hs.wf]

/-! ## The decoder pool (R274 to R297) -/

theorem execBlockArrival_canonical (c : Fin 2) (zeros : BitVec 30720) : (execBlockArrival c zeros s).Canonical :=
  by simp [execBlockArrival, hs.wf]
theorem execDecodingPass_canonical (c : Fin 2) (th : Fin 16) (window : List (BitVec 30720)) (e16 e32 : BitVec 30720) :
    (execDecodingPass c th window e16 e32 s).Canonical := by simp [execDecodingPass, hs.wf]
theorem execBlockDelivery_canonical (c : Fin 2) : (execBlockDelivery c s).Canonical := by simp [execBlockDelivery, hs.wf]
theorem execAllocationInterval_canonical : (execAllocationInterval s).Canonical := by simp [execAllocationInterval, hs.wf]
theorem execSfInterval_canonical : (execSfInterval s).Canonical := by simp [execSfInterval, hs.wf]
theorem execFecCtlClr_canonical (c : Fin 2) : (execFecCtlClr c s).Canonical := by simp [execFecCtlClr, hs.wf]
theorem execFecSdWrite_canonical (c : Fin 2) (v : W32) : (execFecSdWrite c v s).Canonical := by simp [execFecSdWrite, hs.wf]
theorem execHistselWrite_canonical (c : Fin 2) (v : W32) : (execHistselWrite c v s).Canonical := by simp [execHistselWrite, hs.wf]
theorem execHoldoffExpiry_canonical (g : Fin 1025) (c : Fin 2) : (execHoldoffExpiry g c s).Canonical := by simp [execHoldoffExpiry, hs.wf]
theorem execWtrExpiry_canonical (g : Fin 1025) : (execWtrExpiry g s).Canonical := by simp [execWtrExpiry, hs.wf]
theorem execCommitPoint_canonical (n : Fin 1024) : (execCommitPoint n s).Canonical := by simp [execCommitPoint, hs.wf]
theorem execDdUnknown_canonical : (execDdUnknown s).Canonical := by simp [execDdUnknown, hs.wf]

/-! ## Line signal processing (R315 to R333) -/

theorem execDispersionTracking_canonical (c : Fin 2) (residual : Int) : (execDispersionTracking c residual s).Canonical :=
  by simp [execDispersionTracking, hs.wf]
theorem execBulkDgdUpdate_canonical (c : Fin 2) (delay : Int) : (execBulkDgdUpdate c delay s).Canonical :=
  by simp [execBulkDgdUpdate, hs.wf]
theorem execEqRestart_canonical (c : Fin 2) : (execEqRestart c s).Canonical := by simp [execEqRestart, hs.wf]
theorem execEqFreeze_canonical (c : Fin 2) : (execEqFreeze c s).Canonical := by simp [execEqFreeze, hs.wf]
theorem execEqUnfreeze_canonical (c : Fin 2) : (execEqUnfreeze c s).Canonical := by simp [execEqUnfreeze, hs.wf]
theorem execEqDdEntry_canonical (c : Fin 2) : (execEqDdEntry c s).Canonical := by simp [execEqDdEntry, hs.wf]
theorem execEqreinit_canonical (c : Fin 2) : (execEqreinit c s).Canonical := by simp [execEqreinit, hs.wf]
theorem execLsteerPeriod_canonical (c : Fin 2) (f : Int) : (execLsteerPeriod c f s).Canonical := by simp [execLsteerPeriod, hs.wf]
theorem execXiSearch_canonical (c : Fin 2) (snr : Nat) : (execXiSearch c snr s).Canonical := by simp [execXiSearch, hs.wf]
theorem execFillsync_canonical (c : Fin 2) : (execFillsync c s).Canonical := by simp [execFillsync, hs.wf]
theorem execMonitorUpdate_canonical (c : Fin 2) (m : MonitorMeas) : (execMonitorUpdate c m s).Canonical :=
  by simp [execMonitorUpdate, hs.wf]
theorem execTapselWrite_canonical (c : Fin 2) (v : W32) : (execTapselWrite c v s).Canonical := by simp [execTapselWrite, hs.wf]
theorem execDspControlWrite_canonical (c : Fin 2) (reg : Fin 3) (v : W32) : (execDspControlWrite c reg v s).Canonical := by
  unfold execDspControlWrite
  split <;> simp [hs.wf]

/-! ## Timing and the levee ring (R388 to R418) -/

theorem execQualificationSecond_canonical (x : RefSecond) : (execQualificationSecond x s).Canonical :=
  by simp [execQualificationSecond, hs.wf]
theorem execLos_canonical (i : Fin 4) : (execLos i s).Canonical := by simp [execLos, hs.wf]
theorem execRefActive_canonical (i : Fin 4) : (execRefActive i s).Canonical := by simp [execRefActive, hs.wf]
theorem execBandwidthStep_canonical : (execBandwidthStep s).Canonical := by simp [execBandwidthStep, hs.wf]
theorem execSampleEligible_canonical : (execSampleEligible s).Canonical := by
  unfold execSampleEligible
  split <;> simp [hs.wf]
theorem execPulldone_canonical : (execPulldone s).Canonical := by simp [execPulldone, hs.wf]
theorem execRingLinkUp_canonical : (execRingLinkUp s).Canonical := by simp [execRingLinkUp, hs.wf]
theorem execRingLinkDown_canonical (x : RingHeard) : (execRingLinkDown x s).Canonical := by simp [execRingLinkDown, hs.wf]
theorem execWicketOpen_canonical : (execWicketOpen s).Canonical := by simp [execWicketOpen, hs.wf]
theorem execWicketClose_canonical : (execWicketClose s).Canonical := by simp [execWicketClose, hs.wf]
theorem execRingSync_canonical (m : RingIn) (at_ : Nat) : (execRingSync m at_ s).Canonical := by simp [execRingSync, hs.wf]
theorem execRingState_canonical (m : RingIn) : (execRingState m s).Canonical := by simp [execRingState, hs.wf]
theorem execRingDelay_canonical (m : RingIn) : (execRingDelay m s).Canonical := by simp [execRingDelay, hs.wf]
theorem execStateSend_canonical : (execStateSend s).Canonical := by simp [execStateSend, hs.wf]
theorem execPeerTimeout_canonical (p : Fin 16) : (execPeerTimeout p s).Canonical := by simp [execPeerTimeout, hs.wf]
theorem execTimOutWrite_canonical (v : W32) : (execTimOutWrite v s).Canonical := by simp [execTimOutWrite, hs.wf]
theorem execPublishedSuperframeBoundary_canonical : (execPublishedSuperframeBoundary s).Canonical :=
  by simp [execPublishedSuperframeBoundary, hs.wf]

/-! ## Acquisition (R338 to R360) -/

theorem execPilotBlock_canonical (c : Fin 2) (x : PilotMeas) : (execPilotBlock c x s).Canonical := by simp [execPilotBlock, hs.wf]
theorem execSweepEnd_canonical (c : Fin 2) (lane : Fin 5) (x : SweepMeas) : (execSweepEnd c lane x s).Canonical :=
  by simp [execSweepEnd, hs.wf]
theorem execConfirmStart_canonical (c : Fin 2) : (execConfirmStart c s).Canonical := by
  unfold execConfirmStart
  split <;> simp [hs.wf]
theorem execSettleEnd_canonical (c : Fin 2) : (execSettleEnd c s).Canonical := by simp [execSettleEnd, hs.wf]
theorem execPilotPass_canonical (c : Fin 2) : (execPilotPass c s).Canonical := by
  unfold execPilotPass
  split <;> simp [hs.wf]
theorem execFillHold_canonical (c : Fin 2) : (execFillHold c s).Canonical := by simp [execFillHold, hs.wf]
theorem execFillTimeout_canonical (c : Fin 2) : (execFillTimeout c s).Canonical := by simp [execFillTimeout, hs.wf]
theorem execBlockWindow_canonical (c : Fin 2) (zeros : Nat) (pick : Fin 1024) : (execBlockWindow c zeros pick s).Canonical := by
  unfold execBlockWindow
  split <;> simp [hs.wf]
theorem execCheckEnd_canonical (c : Fin 2) (zeros : Nat) : (execCheckEnd c zeros s).Canonical := by
  unfold execCheckEnd
  split <;> simp [hs.wf]
theorem execRejectExpiry_canonical (c : Fin 2) : (execRejectExpiry c s).Canonical := by simp [execRejectExpiry, hs.wf]
theorem execLossOfPilots_canonical (c : Fin 2) : (execLossOfPilots c s).Canonical := by simp [execLossOfPilots, hs.wf]
theorem execSetupCheck_canonical (c : Fin 2) : (execSetupCheck c s).Canonical := by simp [execSetupCheck, hs.wf]
theorem execAcqRestart_canonical (c : Fin 2) : (execAcqRestart c s).Canonical := by simp +contextual [execAcqRestart, hs.wf]
theorem execPreempt_canonical (c : Fin 2) : (execPreempt c s).Canonical := by simp [execPreempt, hs.wf]
theorem execAcqThreshWrite_canonical (v : W32) : (execAcqThreshWrite v s).Canonical := by simp [execAcqThreshWrite, hs.wf]

/-! ## Engines and the program store (R42 to R105) -/

theorem execNop_canonical (e : Fin 4) : (execNop e s).Canonical := by simp [execNop, hs.wf]
theorem execHalt_canonical (e : Fin 4) : (execHalt e s).Canonical := by simp [execHalt, hs.wf]
theorem execJmp_canonical (e : Fin 4) : (execJmp e s).Canonical := by simp [execJmp, hs.wf]
theorem execBr_canonical (e : Fin 4) : (execBr e s).Canonical := by simp [execBr, hs.wf]
theorem execCall_canonical (e : Fin 4) : (execCall e s).Canonical := by simp [execCall, hs.wf]
theorem execRet_canonical (e : Fin 4) : (execRet e s).Canonical := by simp [execRet, hs.wf]
theorem execWait_canonical (e : Fin 4) : (execWait e s).Canonical := by simp [execWait, hs.wf]
theorem execWaitExpiry_canonical (e : Fin 4) : (execWaitExpiry e s).Canonical := by simp [execWaitExpiry, hs.wf]
theorem execMovi_canonical (e : Fin 4) : (execMovi e s).Canonical := by simp [execMovi, hs.wf]
theorem execMovih_canonical (e : Fin 4) : (execMovih e s).Canonical := by simp [execMovih, hs.wf]
theorem execAddi_canonical (e : Fin 4) : (execAddi e s).Canonical := by simp [execAddi, hs.wf]
theorem execAdd_canonical (e : Fin 4) : (execAdd e s).Canonical := by simp [execAdd, hs.wf]
theorem execSub_canonical (e : Fin 4) : (execSub e s).Canonical := by simp [execSub, hs.wf]
theorem execAnd_canonical (e : Fin 4) : (execAnd e s).Canonical := by simp [execAnd, hs.wf]
theorem execOr_canonical (e : Fin 4) : (execOr e s).Canonical := by simp [execOr, hs.wf]
theorem execXor_canonical (e : Fin 4) : (execXor e s).Canonical := by simp [execXor, hs.wf]
theorem execShl_canonical (e : Fin 4) : (execShl e s).Canonical := by simp [execShl, hs.wf]
theorem execShr_canonical (e : Fin 4) : (execShr e s).Canonical := by simp [execShr, hs.wf]
theorem execLd_canonical (e : Fin 4) : (execLd e s).Canonical := by simp [execLd, hs.wf]
theorem execSt_canonical (e : Fin 4) : (execSt e s).Canonical := by simp [execSt, hs.wf]
theorem execEvpost_canonical (e : Fin 4) (p : BitVec 18) : (execEvpost e p s).Canonical := by simp [execEvpost, hs.wf]
theorem execEvwait_canonical (e : Fin 4) : (execEvwait e s).Canonical := by simp [execEvwait, hs.wf]
theorem execEvwaitTimeout_canonical (e : Fin 4) : (execEvwaitTimeout e s).Canonical := by
  unfold execEvwaitTimeout
  split <;> simp [hs.wf]
theorem execFenceAll_canonical (e : Fin 4) : (execFenceAll e s).Canonical := by simp [execFenceAll, hs.wf]
theorem execFenceObj_canonical (e : Fin 4) : (execFenceObj e s).Canonical := by simp [execFenceObj, hs.wf]
theorem execFenceIo_canonical (e : Fin 4) : (execFenceIo e s).Canonical := by simp [execFenceIo, hs.wf]
theorem execUndefinedOpcode_canonical (e : Fin 4) : (execUndefinedOpcode e s).Canonical := by simp [execUndefinedOpcode, hs.wf]
theorem execSluLoadGo_canonical (k : Fin 4) : (execSluLoadGo k s).Canonical := by simp [execSluLoadGo, hs.wf]
theorem execVerificationEnd_canonical (k : Fin 4) : (execVerificationEnd k s).Canonical := by simp [execVerificationEnd, hs.wf]
theorem execWindowWrite_canonical (word : BitVec 19) (v : W32) : (execWindowWrite word v s).Canonical :=
  by simp +contextual [execWindowWrite, hs.wf]
theorem execStart_canonical (e : Fin 4) (bank : Fin 4) : (execStart e bank s).Canonical := by simp [execStart, hs.wf]
theorem execStop_canonical (e : Fin 4) : (execStop e s).Canonical := by simp [execStop, hs.wf]
theorem execKill_canonical (e : Fin 4) : (execKill e s).Canonical := by simp [execKill, hs.wf]
theorem execEngineDrained_canonical (e : Fin 4) : (execEngineDrained e s).Canonical := by simp [execEngineDrained, hs.wf]
theorem execFaultRecord_canonical (e : Fin 4) : (execFaultRecord e s).Canonical := by simp [execFaultRecord, hs.wf]

/-! ## The thermal model (R473 to R491) -/

theorem execThermalEvaluation_canonical : (execThermalEvaluation s).Canonical := by simp [execThermalEvaluation, hs.wf]
theorem execStepUp_canonical : (execStepUp s).Canonical := by simp [execStepUp, hs.wf]
theorem execStepRelease_canonical : (execStepRelease s).Canonical := by simp [execStepRelease, hs.wf]
theorem execTrip_canonical : (execTrip s).Canonical := by simp [execTrip, hs.wf]
theorem execTripClear_canonical : (execTripClear s).Canonical := by simp [execTripClear, hs.wf]
theorem execReinstate_canonical (mask : BitVec 12) : (execReinstate mask s).Canonical := by simp [execReinstate, hs.wf]
theorem execReinstateEnd_canonical (d : Fin 12) : (execReinstateEnd d s).Canonical := by simp [execReinstateEnd, hs.wf]

/-! ## Host lanes and groups (R114 to R159) -/

theorem execSignalPresent_canonical (l : Fin 28) : (execSignalPresent l s).Canonical := by simp [execSignalPresent, hs.wf]
theorem execSignalLost_canonical (l : Fin 28) : (execSignalLost l s).Canonical := by simp [execSignalLost, hs.wf]
theorem execLaneLock_canonical (l : Fin 28) (m : LaneMeas) : (execLaneLock l m s).Canonical := by simp [execLaneLock, hs.wf]
theorem execAdaptTimeout_canonical (l : Fin 28) : (execAdaptTimeout l s).Canonical := by simp [execAdaptTimeout, hs.wf]
theorem execLaneUnlock_canonical (l : Fin 28) (m : LaneMeas) : (execLaneUnlock l m s).Canonical := by simp [execLaneUnlock, hs.wf]
theorem execLaneRestart_canonical (l : Fin 28) : (execLaneRestart l s).Canonical := by simp [execLaneRestart, hs.wf]
theorem execMarkerLock_canonical (l : Fin 28) (logical : Fin 8) (skew : Nat) : (execMarkerLock l logical skew s).Canonical :=
  by simp [execMarkerLock, hs.wf]
theorem execMarkerLockLost_canonical (l : Fin 28) : (execMarkerLockLost l s).Canonical := by simp [execMarkerLockLost, hs.wf]
theorem execRsCodeword_canonical (l : Fin 28) (info parity : List (Fin 4)) : (execRsCodeword l info parity s).Canonical :=
  by simp [execRsCodeword, hs.wf]
theorem execHostCell_canonical (g : Fin 28) : (execHostCell g s).Canonical := by simp [execHostCell, hs.wf]
theorem execPrbsGenen_canonical (l : Fin 28) (pat : Fin 8) : (execPrbsGenen l pat s).Canonical := by simp [execPrbsGenen, hs.wf]
theorem execPrbsClr_canonical (l : Fin 28) : (execPrbsClr l s).Canonical := by simp [execPrbsClr, hs.wf]
theorem execPrbsSync_canonical (x : LaneLevels) : (execPrbsSync x s).Canonical := by simp [execPrbsSync, hs.wf]
theorem execPrbsSyncLoss_canonical (l : Fin 28) (levels : List (Fin 4)) (last : Fin 4) : (execPrbsSyncLoss l levels last s).Canonical :=
  by simp [execPrbsSyncLoss, hs.wf]
theorem execPrbsSaturation_canonical (l : Fin 28) (levels : List (Fin 4)) : (execPrbsSaturation l levels s).Canonical :=
  by simp [execPrbsSaturation, hs.wf]
theorem execHlnThreshWrite_canonical (v : W32) : (execHlnThreshWrite v s).Canonical := by simp [execHlnThreshWrite, hs.wf]
theorem execTxeqWrite_canonical (l : Fin 28) (v : W32) : (execTxeqWrite l v s).Canonical := by simp [execTxeqWrite, hs.wf]

/-! ## Tributaries and carriers at work (R161 to R188) -/

theorem execTransmitFrame_canonical : (execTransmitFrame s).Canonical := by
  have h := State.transmitFrame_canonical
    (State.connTx_canonical (State.connTx_canonical (State.frameBoundary_canonical hs) 0) 1)
  simp [execTransmitFrame, h, hs.wf]
theorem execReceiveFrame_canonical (c : Fin 2) (arrival : Nat) : (execReceiveFrame c arrival s).Canonical :=
  by simp [execReceiveFrame, hs.wf]
theorem execSuperframeBoundary_canonical : (execSuperframeBoundary s).Canonical := by simp [execSuperframeBoundary, hs.wf]
theorem execSealBoundary_canonical (n : Fin 1024) : (execSealBoundary n s).Canonical := by simp [execSealBoundary, hs.wf]
theorem execDefragMove_canonical (c : Fin 2) : (execDefragMove c s).Canonical := by simp [execDefragMove, hs.wf]
theorem execCmselWrite_canonical (v : W32) : (execCmselWrite v s).Canonical := by simp [execCmselWrite, hs.wf]
theorem execReceiveUnit_canonical (n : Fin 1024) : (execReceiveUnit n s).Canonical := by simp [execReceiveUnit, hs.wf]
theorem execTagVerdict_canonical (n : Fin 1024) : (execTagVerdict n s).Canonical := by simp [execTagVerdict, hs.wf]
theorem execAreaZeroed_canonical (n : Fin 1024) : (execAreaZeroed n s).Canonical := by simp [execAreaZeroed, hs.wf]
theorem execHostTransmit_canonical (g : Fin 28) (skip : Fin 1024) : (execHostTransmit g skip s).Canonical :=
  by simp [execHostTransmit, hs.wf]

/-! ## Keys, life cycle and tamper (R190 to R232) -/

theorem execKeyimp_canonical (e : Fin 4) (p : BitVec 18) : (execKeyimp e p s).Canonical := by simp [execKeyimp, hs.wf]
theorem execKeyUnwrap_canonical : (execKeyUnwrap s).Canonical := by simp [execKeyUnwrap, hs.wf]
theorem execKeystage_canonical (e : Fin 4) (p : BitVec 18) : (execKeystage e p s).Canonical := by simp [execKeystage, hs.wf]
theorem execKeyroll_canonical (e : Fin 4) (p : BitVec 18) : (execKeyroll e p s).Canonical := by simp [execKeyroll, hs.wf]
theorem execKeyzero_canonical (e : Fin 4) (p : BitVec 18) : (execKeyzero e p s).Canonical := by simp [execKeyzero, hs.wf]
theorem execKeywarn_canonical (k : Fin 2048) : (execKeywarn k s).Canonical := by simp [execKeywarn, hs.wf]
theorem execKeySpent_canonical (k : Fin 2048) : (execKeySpent k s).Canonical := by simp [execKeySpent, hs.wf]
theorem execCounterLimit_canonical (n : Fin 1024) : (execCounterLimit n s).Canonical := by simp [execCounterLimit, hs.wf]
theorem execRootInjection_canonical (wrap target : Fin 8) : (execRootInjection wrap target s).Canonical :=
  by simp [execRootInjection, hs.wf]
theorem execKekLoad_canonical (wrap target : Fin 8) : (execKekLoad wrap target s).Canonical := by simp [execKekLoad, hs.wf]
theorem execKekOperationEnd_canonical (verified : Bool) : (execKekOperationEnd verified s).Canonical :=
  by simp [execKekOperationEnd, hs.wf]
theorem execProvision_canonical (confirm : BitVec 16) : (execProvision confirm s).Canonical := by simp +contextual [execProvision, hs.wf]
theorem execDeploy_canonical (confirm : BitVec 16) : (execDeploy confirm s).Canonical := by simp +contextual [execDeploy, hs.wf]
theorem execRetire_canonical (confirm : BitVec 16) : (execRetire confirm s).Canonical := by simp +contextual [execRetire, hs.wf]
theorem execRenew_canonical (confirm : BitVec 16) : (execRenew confirm s).Canonical := by simp +contextual [execRenew, hs.wf]
theorem execLcsTransitionEnd_canonical (ok : Bool) : (execLcsTransitionEnd ok s).Canonical := by simp [execLcsTransitionEnd, hs.wf]
theorem execTamperTrigger_canonical (cause : Fin 4) : (execTamperTrigger cause s).Canonical := by simp [execTamperTrigger, hs.wf]
theorem execTamperZeroed_canonical : (execTamperZeroed s).Canonical := by simp [execTamperZeroed, hs.wf]
theorem execTamperCountWrite_canonical : (execTamperCountWrite s).Canonical := by simp [execTamperCountWrite, hs.wf]
theorem execModelAdvance_canonical (x : ModelTick) : (execModelAdvance x s).Canonical := by simp [execModelAdvance, hs.wf]
theorem execKsselWrite_canonical (v : W32) : (execKsselWrite v s).Canonical := by simp [execKsselWrite, hs.wf]

/-! ## The housekeeping converter (R512 to R527) -/

theorem execXoInStop_canonical : (execXoInStop s).Canonical := by simp [execXoInStop, hs.wf]
theorem execXoInReturn_canonical : (execXoInReturn s).Canonical := by simp [execXoInReturn, hs.wf]
theorem execHkaGo_canonical : (execHkaGo s).Canonical := by simp [execHkaGo, hs.wf]
theorem execHkaConfigWrite_canonical (scan : Bool) (v : W32) : (execHkaConfigWrite scan v s).Canonical :=
  by simp [execHkaConfigWrite, hs.wf]
theorem execHkaSample_canonical (bits : List Bool) : (execHkaSample bits s).Canonical := by simp [execHkaSample, hs.wf]
theorem execConversionEnd_canonical : (execConversionEnd s).Canonical := by simp [execConversionEnd, hs.wf]
theorem execHkaDataRead_canonical : (execHkaDataRead s).Canonical := by simp [execHkaDataRead, hs.wf]

/-! ## Performance counters (R556 to R566) -/

theorem execPmcClr_canonical (k : Fin 64) : (execPmcClr k s).Canonical := by simp [execPmcClr, hs.wf]
theorem execClrall_canonical : (execClrall s).Canonical := by simp [execClrall, hs.wf]
theorem execPmcSelWrite_canonical (k : Fin 64) (v : W32) : (execPmcSelWrite k v s).Canonical := by simp [execPmcSelWrite, hs.wf]

/-! ## Polders at work (R447 to R473) -/

theorem execPower_canonical (e : Fin 4) (p : BitVec 18) : (execPower e p s).Canonical := by simp [execPower, hs.wf]
theorem execDwellExpiry_canonical (n : Fin 40) : (execDwellExpiry n s).Canonical := by simp [execDwellExpiry, hs.wf]
theorem execEntryEnd_canonical (n : Fin 40) (px po : Nat) : (execEntryEnd n px po s).Canonical := by simp [execEntryEnd, hs.wf]
theorem execWake_canonical (n : Fin 40) (src : BitVec 8) : (execWake n src s).Canonical := by simp [execWake, hs.wf]
theorem execWakeEnd_canonical (n : Fin 40) : (execWakeEnd n s).Canonical := by simp [execWakeEnd, hs.wf]
theorem execWholdExpiry_canonical (n : Fin 40) : (execWholdExpiry n s).Canonical := by simp [execWholdExpiry, hs.wf]
theorem execI2cAddressMatch_canonical : (execI2cAddressMatch s).Canonical := by simp [execI2cAddressMatch, hs.wf]
theorem execPwrTimerWrite_canonical (v : W32) : (execPwrTimerWrite v s).Canonical := by simp [execPwrTimerWrite, hs.wf]
theorem execTimer_canonical : (execTimer s).Canonical := by simp [execTimer, hs.wf]
theorem execRailGood_canonical (r : Fin 6) (late : Bool) : (execRailGood r late s).Canonical := by simp [execRailGood, hs.wf]
theorem execRailFall_canonical (r : Fin 6) : (execRailFall r s).Canonical := by simp [execRailFall, hs.wf]
theorem execRailReturn_canonical (r : Fin 6) : (execRailReturn r s).Canonical := by simp [execRailReturn, hs.wf]
theorem execAonMonitor_canonical (ok : Bool) : (execAonMonitor ok s).Canonical := by simp [execAonMonitor, hs.wf]
theorem execClearDone_canonical (b : Fin 192) : (execClearDone b s).Canonical := by simp [execClearDone, hs.wf]

/-! ## Instructions on objects (R50 to R73) -/

theorem execBind_canonical (e : Fin 4) (p : BitVec 18) : (execBind e p s).Canonical := by simp +contextual [execBind, hs.wf]
theorem execEnable_canonical (e : Fin 4) (p : BitVec 18) : (execEnable e p s).Canonical := by simp +contextual [execEnable, hs.wf]
theorem execDisable_canonical (e : Fin 4) (p : BitVec 18) : (execDisable e p s).Canonical := by simp +contextual [execDisable, hs.wf]
theorem execDisableAbort_canonical (e : Fin 4) (p : BitVec 18) : (execDisableAbort e p s).Canonical :=
  by simp +contextual [execDisableAbort, hs.wf]
theorem execUnbind_canonical (e : Fin 4) (p : BitVec 18) : (execUnbind e p s).Canonical := by simp [execUnbind, hs.wf]
theorem execProtectClear_canonical (e : Fin 4) (p : BitVec 18) : (execProtectClear e p s).Canonical := by simp [execProtectClear, hs.wf]
theorem execProtectLockout_canonical (e : Fin 4) (p : BitVec 18) : (execProtectLockout e p s).Canonical :=
  by simp [execProtectLockout, hs.wf]
theorem execProtectForceA_canonical (e : Fin 4) (p : BitVec 18) : (execProtectForceA e p s).Canonical :=
  by simp [execProtectForceA, hs.wf]
theorem execProtectForceB_canonical (e : Fin 4) (p : BitVec 18) : (execProtectForceB e p s).Canonical :=
  by simp [execProtectForceB, hs.wf]
theorem execProtectManualA_canonical (e : Fin 4) (p : BitVec 18) : (execProtectManualA e p s).Canonical :=
  by simp [execProtectManualA, hs.wf]
theorem execProtectManualB_canonical (e : Fin 4) (p : BitVec 18) : (execProtectManualB e p s).Canonical :=
  by simp [execProtectManualB, hs.wf]
theorem execPin_canonical (e : Fin 4) (p : BitVec 18) : (execPin e p s).Canonical := by simp [execPin, hs.wf]
theorem execQuery_canonical (e : Fin 4) (p : BitVec 18) : (execQuery e p s).Canonical := by simp [execQuery, hs.wf]
theorem execRelane_canonical (e : Fin 4) (p : BitVec 18) : (execRelane e p s).Canonical := by simp [execRelane, hs.wf]
theorem execRefset_canonical (e : Fin 4) (p : BitVec 18) : (execRefset e p s).Canonical :=
  by simp +contextual [execRefset, apply_ite Prod.snd, hs.wf]
theorem execRealign_canonical (e : Fin 4) (p : BitVec 18) : (execRealign e p s).Canonical :=
  by simp +contextual [execRealign, apply_ite Prod.snd, hs.wf]
theorem execTimerd_canonical (e : Fin 4) (p : BitVec 18) : (execTimerd e p s).Canonical := by simp [execTimerd, hs.wf]
theorem execMretire_canonical (e : Fin 4) (p : BitVec 18) : (execMretire e p s).Canonical := by simp [execMretire, hs.wf]
theorem execMtest_canonical (e : Fin 4) (p : BitVec 18) : (execMtest e p s).Canonical := by simp [execMtest, hs.wf]

/-! ## Resets and bring-up (R492 to R511) -/

omit hs in
theorem execVaonFail_canonical : (execVaonFail s).Canonical := by simp [execVaonFail]
omit hs in
theorem execPowerOnReset_canonical : (execPowerOnReset s).Canonical := by simp [execPowerOnReset]
omit hs in
theorem execResetN_canonical : (execResetN s).Canonical := by simp [execResetN]
theorem execVcoreLow_canonical : (execVcoreLow s).Canonical := by simp [execVcoreLow, hs.wf]
theorem execVioLow_canonical : (execVioLow s).Canonical := by simp [execVioLow, hs.wf]
theorem execHostcold_canonical (key : BitVec 16) : (execHostcold key s).Canonical := by simp +contextual [execHostcold, hs.wf]
theorem execHostwarm_canonical (key : BitVec 16) : (execHostwarm key s).Canonical := by simp +contextual [execHostwarm, hs.wf]
theorem execCriticalStateError_canonical (u : Fin 8) : (execCriticalStateError u s).Canonical := by simp [execCriticalStateError, hs.wf]
theorem execLockout_canonical : (execLockout s).Canonical := by simp [execLockout, hs.wf]
theorem execBringUp_canonical (x : BringUp) : (execBringUp x s).Canonical := by simp [execBringUp, hs.wf]
theorem execWarmBringUp_canonical (failing : List (Fin 192)) : (execWarmBringUp failing s).Canonical := by simp [execWarmBringUp, hs.wf]
theorem execNoxo_canonical : (execNoxo s).Canonical := by simp [execNoxo, hs.wf]
theorem execRelease_canonical : (execRelease s).Canonical := by simp [execRelease, hs.wf]
theorem execFlashLoadEnd_canonical (x : FlashLoad) : (execFlashLoadEnd x s).Canonical := by simp [execFlashLoadEnd, hs.wf]

/-! ## Writing a register -/

theorem execRegisterWrite_canonical (a v : W32) : (execRegisterWrite a v s).Canonical := by simp [execRegisterWrite, hs.wf]
theorem execPost_canonical : (execPost s).Canonical := by simp [execPost, hs.wf]
theorem execAck_canonical : (execAck s).Canonical := by simp [execAck, hs.wf]
theorem execPop_canonical : (execPop s).Canonical := by simp [execPop, hs.wf]

/-! ## Management interfaces (R528 to R550) -/

theorem execWrite_canonical (addr word : Option W32) : (execWrite addr word s).Canonical := by
  cases word <;> simp +contextual [execWrite, hs.wf]
theorem execRead_canonical (addr : Option W32) (cut : Bool) : (execRead addr cut s).Canonical := by simp +contextual [execRead, hs.wf]
theorem execWriteinc_canonical (addr : Option W32) (words : List W32) (cut : Bool) : (execWriteinc addr words cut s).Canonical :=
  by simp +contextual [execWriteinc, hs.wf]
theorem execReadinc_canonical (addr : Option W32) (n : Nat) (cut : Bool) : (execReadinc addr n cut s).Canonical :=
  by simp +contextual [execReadinc, hs.wf]
theorem execStatus_canonical : (execStatus s).Canonical := by simp [execStatus, hs.wf]
theorem execSpiUndefinedCommand_canonical (code : Byte) : (execSpiUndefinedCommand code s).Canonical :=
  by simp [execSpiUndefinedCommand, hs.wf]
theorem execSync_canonical : (execSync s).Canonical := by simp [execSync, hs.wf]
theorem execRdreg_canonical (e : Fin 4) (p : BitVec 18) : (execRdreg e p s).Canonical := by simp [execRdreg, hs.wf]
theorem execWrreg_canonical (e : Fin 4) (p : BitVec 18) : (execWrreg e p s).Canonical := by simp +contextual [execWrreg, hs.wf]
theorem execPmSecond_canonical : (execPmSecond s).Canonical := by simp [execPmSecond, hs.wf]
theorem execPmRollup_canonical : (execPmRollup s).Canonical := by simp [execPmRollup, hs.wf]
theorem execVersion_canonical : (execVersion s).Canonical := by simp [execVersion, hs.wf]
theorem execPmget_canonical : (execPmget s).Canonical := by simp [execPmget, hs.wf]
theorem execPmlast_canonical : (execPmlast s).Canonical := by simp [execPmlast, hs.wf]
theorem execBadcmd_canonical : (execBadcmd s).Canonical := by simp [execBadcmd, hs.wf]
theorem execI2cWrite_canonical (index : Byte) (v : W32) : (execI2cWrite index v s).Canonical := by simp +contextual [execI2cWrite, hs.wf]
theorem execI2cRead_canonical (index : Byte) : (execI2cRead index s).Canonical := by simp [execI2cRead, hs.wf]
theorem execIdcode_canonical : (execIdcode s).Canonical := by simp [execIdcode, hs.wf]
theorem execSamplePreload_canonical (cells : List Bool) : (execSamplePreload cells s).Canonical := by simp [execSamplePreload, hs.wf]
theorem execExtest_canonical : (execExtest s).Canonical := by simp [execExtest, hs.wf]
theorem execExtestPulse_canonical : (execExtestPulse s).Canonical := by simp [execExtestPulse, hs.wf]
theorem execExtestTrain_canonical : (execExtestTrain s).Canonical := by simp [execExtestTrain, hs.wf]
theorem execClamp_canonical : (execClamp s).Canonical := by simp [execClamp, hs.wf]
theorem execHighz_canonical : (execHighz s).Canonical := by simp [execHighz, hs.wf]
theorem execDebug_canonical : (execDebug s).Canonical := by simp [execDebug, hs.wf]
theorem execCiptest_canonical : (execCiptest s).Canonical := by simp [execCiptest, hs.wf]
theorem execBypass_canonical : (execBypass s).Canonical := by simp [execBypass, hs.wf]
theorem execTestLogicReset_canonical : (execTestLogicReset s).Canonical := by simp [execTestLogicReset, hs.wf]


/-! ## A step -/

theorem exec_canonical (i : Instr) : Outcome.Canonical (exec i s) := by
  cases i with
  | registerWrite a v => exact execRegisterWrite_canonical hs a v
  | nop e => exact execNop_canonical hs e
  | halt e => exact execHalt_canonical hs e
  | jmp e => exact execJmp_canonical hs e
  | br e => exact execBr_canonical hs e
  | call e => exact execCall_canonical hs e
  | ret e => exact execRet_canonical hs e
  | wait e => exact execWait_canonical hs e
  | waitExpiry e => exact execWaitExpiry_canonical hs e
  | movi e => exact execMovi_canonical hs e
  | movih e => exact execMovih_canonical hs e
  | addi e => exact execAddi_canonical hs e
  | add e => exact execAdd_canonical hs e
  | sub e => exact execSub_canonical hs e
  | and e => exact execAnd_canonical hs e
  | or e => exact execOr_canonical hs e
  | xor e => exact execXor_canonical hs e
  | shl e => exact execShl_canonical hs e
  | shr e => exact execShr_canonical hs e
  | ld e => exact execLd_canonical hs e
  | st e => exact execSt_canonical hs e
  | rdreg e p => exact execRdreg_canonical hs e p
  | wrreg e p => exact execWrreg_canonical hs e p
  | bind e p => exact execBind_canonical hs e p
  | enable e p => exact execEnable_canonical hs e p
  | disable e p => exact execDisable_canonical hs e p
  | disableAbort e p => exact execDisableAbort_canonical hs e p
  | unbind e p => exact execUnbind_canonical hs e p
  | protectClear e p => exact execProtectClear_canonical hs e p
  | protectLockout e p => exact execProtectLockout_canonical hs e p
  | protectForceA e p => exact execProtectForceA_canonical hs e p
  | protectForceB e p => exact execProtectForceB_canonical hs e p
  | protectManualA e p => exact execProtectManualA_canonical hs e p
  | protectManualB e p => exact execProtectManualB_canonical hs e p
  | pin e p => exact execPin_canonical hs e p
  | query e p => exact execQuery_canonical hs e p
  | relane e p => exact execRelane_canonical hs e p
  | keyimp e p => exact execKeyimp_canonical hs e p
  | keyUnwrap => exact execKeyUnwrap_canonical hs
  | keystage e p => exact execKeystage_canonical hs e p
  | keyroll e p => exact execKeyroll_canonical hs e p
  | keyzero e p => exact execKeyzero_canonical hs e p
  | refset e p => exact execRefset_canonical hs e p
  | realign e p => exact execRealign_canonical hs e p
  | timerd e p => exact execTimerd_canonical hs e p
  | mretire e p => exact execMretire_canonical hs e p
  | mtest e p => exact execMtest_canonical hs e p
  | power e p => exact execPower_canonical hs e p
  | evpost e p => exact execEvpost_canonical hs e p
  | evwait e => exact execEvwait_canonical hs e
  | evwaitTimeout e => exact execEvwaitTimeout_canonical hs e
  | fenceAll e => exact execFenceAll_canonical hs e
  | fenceObj e => exact execFenceObj_canonical hs e
  | fenceIo e => exact execFenceIo_canonical hs e
  | faultRecord e => exact execFaultRecord_canonical hs e
  | sluLoadGo k => exact execSluLoadGo_canonical hs k
  | verificationEnd k => exact execVerificationEnd_canonical hs k
  | windowWrite word v => exact execWindowWrite_canonical hs word v
  | start e bank => exact execStart_canonical hs e bank
  | stop e => exact execStop_canonical hs e
  | kill e => exact execKill_canonical hs e
  | engineDrained e => exact execEngineDrained_canonical hs e
  | sync => exact execSync_canonical hs
  | pmSecond => exact execPmSecond_canonical hs
  | pmRollup => exact execPmRollup_canonical hs
  | allocationInterval => exact execAllocationInterval_canonical hs
  | sfInterval => exact execSfInterval_canonical hs
  | signalPresent l => exact execSignalPresent_canonical hs l
  | signalLost l => exact execSignalLost_canonical hs l
  | laneLock l m => exact execLaneLock_canonical hs l m
  | adaptTimeout l => exact execAdaptTimeout_canonical hs l
  | laneUnlock l m => exact execLaneUnlock_canonical hs l m
  | laneRestart l => exact execLaneRestart_canonical hs l
  | markerLock l logical skew => exact execMarkerLock_canonical hs l logical skew
  | markerLockLost l => exact execMarkerLockLost_canonical hs l
  | rsCodeword l info parity => exact execRsCodeword_canonical hs l info parity
  | hostCell g => exact execHostCell_canonical hs g
  | prbsGenen l pat => exact execPrbsGenen_canonical hs l pat
  | prbsClr l => exact execPrbsClr_canonical hs l
  | prbsSync x => exact execPrbsSync_canonical hs x
  | prbsSyncLoss l levels last => exact execPrbsSyncLoss_canonical hs l levels last
  | prbsSaturation l levels => exact execPrbsSaturation_canonical hs l levels
  | hlnThreshWrite v => exact execHlnThreshWrite_canonical hs v
  | txeqWrite l v => exact execTxeqWrite_canonical hs l v
  | transmitFrame => exact execTransmitFrame_canonical hs
  | superframeBoundary => exact execSuperframeBoundary_canonical hs
  | sealBoundary n => exact execSealBoundary_canonical hs n
  | defragMove c => exact execDefragMove_canonical hs c
  | cmselWrite v => exact execCmselWrite_canonical hs v
  | receiveUnit n => exact execReceiveUnit_canonical hs n
  | tagVerdict n => exact execTagVerdict_canonical hs n
  | areaZeroed n => exact execAreaZeroed_canonical hs n
  | keywarn k => exact execKeywarn_canonical hs k
  | keySpent k => exact execKeySpent_canonical hs k
  | counterLimit n => exact execCounterLimit_canonical hs n
  | rootInjection wrap target => exact execRootInjection_canonical hs wrap target
  | kekLoad wrap target => exact execKekLoad_canonical hs wrap target
  | kekOperationEnd verified => exact execKekOperationEnd_canonical hs verified
  | provision confirm => exact execProvision_canonical hs confirm
  | deploy confirm => exact execDeploy_canonical hs confirm
  | retire confirm => exact execRetire_canonical hs confirm
  | renew confirm => exact execRenew_canonical hs confirm
  | lcsTransitionEnd ok => exact execLcsTransitionEnd_canonical hs ok
  | tamperTrigger cause => exact execTamperTrigger_canonical hs cause
  | tamperZeroed => exact execTamperZeroed_canonical hs
  | tamperCountWrite => exact execTamperCountWrite_canonical hs
  | ksselWrite v => exact execKsselWrite_canonical hs v
  | receiveFrame c arrival => exact execReceiveFrame_canonical hs c arrival
  | holdoffExpiry g c => exact execHoldoffExpiry_canonical hs g c
  | wtrExpiry g => exact execWtrExpiry_canonical hs g
  | commitPoint n => exact execCommitPoint_canonical hs n
  | ddUnknown => exact execDdUnknown_canonical hs
  | blockArrival c zeros => exact execBlockArrival_canonical hs c zeros
  | decodingPass c th window e16 e32 => exact execDecodingPass_canonical hs c th window e16 e32
  | blockDelivery c => exact execBlockDelivery_canonical hs c
  | fecCtlClr c => exact execFecCtlClr_canonical hs c
  | fecSdWrite c v => exact execFecSdWrite_canonical hs c v
  | histselWrite c v => exact execHistselWrite_canonical hs c v
  | pilotBlock c x => exact execPilotBlock_canonical hs c x
  | dispersionTracking c residual => exact execDispersionTracking_canonical hs c residual
  | bulkDgdUpdate c delay => exact execBulkDgdUpdate_canonical hs c delay
  | eqRestart c => exact execEqRestart_canonical hs c
  | eqFreeze c => exact execEqFreeze_canonical hs c
  | eqUnfreeze c => exact execEqUnfreeze_canonical hs c
  | eqDdEntry c => exact execEqDdEntry_canonical hs c
  | eqreinit c => exact execEqreinit_canonical hs c
  | lsteerPeriod c f => exact execLsteerPeriod_canonical hs c f
  | xiSearch c snr => exact execXiSearch_canonical hs c snr
  | fillsync c => exact execFillsync_canonical hs c
  | monitorUpdate c m => exact execMonitorUpdate_canonical hs c m
  | tapselWrite c v => exact execTapselWrite_canonical hs c v
  | dspControlWrite c reg v => exact execDspControlWrite_canonical hs c reg v
  | sweepEnd c lane x => exact execSweepEnd_canonical hs c lane x
  | confirmStart c => exact execConfirmStart_canonical hs c
  | settleEnd c => exact execSettleEnd_canonical hs c
  | pilotPass c => exact execPilotPass_canonical hs c
  | fillHold c => exact execFillHold_canonical hs c
  | fillTimeout c => exact execFillTimeout_canonical hs c
  | blockWindow c zeros pick => exact execBlockWindow_canonical hs c zeros pick
  | checkEnd c zeros => exact execCheckEnd_canonical hs c zeros
  | rejectExpiry c => exact execRejectExpiry_canonical hs c
  | lossOfPilots c => exact execLossOfPilots_canonical hs c
  | setupCheck c => exact execSetupCheck_canonical hs c
  | acqRestart c => exact execAcqRestart_canonical hs c
  | preempt c => exact execPreempt_canonical hs c
  | acqThreshWrite v => exact execAcqThreshWrite_canonical hs v
  | startupEnd c => exact execStartupEnd_canonical hs c
  | pairStart st => exact execPairStart_canonical hs st
  | calibrationRunEnd st x => exact execCalibrationRunEnd_canonical hs st x
  | correctionStep st => exact execCorrectionStep_canonical hs st
  | store_ => exact execStoreInstr_canonical hs
  | storeJob => exact execStoreJob_canonical hs
  | storeInvalidated => exact execStoreInvalidated_canonical hs
  | storeWritten => exact execStoreWritten_canonical hs
  | storeVerified right => exact execStoreVerified_canonical hs right
  | storeCommitted => exact execStoreCommitted_canonical hs
  | mapWrite c v => exact execMapWrite_canonical hs c v
  | tabselWrite c v => exact execTabselWrite_canonical hs c v
  | binselWrite v => exact execBinselWrite_canonical hs v
  | qualificationSecond x => exact execQualificationSecond_canonical hs x
  | los k => exact execLos_canonical hs k
  | refActive k => exact execRefActive_canonical hs k
  | bandwidthStep => exact execBandwidthStep_canonical hs
  | sampleEligible => exact execSampleEligible_canonical hs
  | pulldone => exact execPulldone_canonical hs
  | ringLinkUp => exact execRingLinkUp_canonical hs
  | ringLinkDown x => exact execRingLinkDown_canonical hs x
  | wicketOpen => exact execWicketOpen_canonical hs
  | wicketClose => exact execWicketClose_canonical hs
  | ringSync m at_ => exact execRingSync_canonical hs m at_
  | ringState m => exact execRingState_canonical hs m
  | ringDelay m => exact execRingDelay_canonical hs m
  | stateSend => exact execStateSend_canonical hs
  | peerTimeout p => exact execPeerTimeout_canonical hs p
  | timOutWrite v => exact execTimOutWrite_canonical hs v
  | scrubRead b word upset => exact execScrubRead_canonical hs b word upset
  | testBlock b fails => exact execTestBlock_canonical hs b fails
  | bucketLeak b => exact execBucketLeak_canonical hs b
  | bistStart b => exact execBistStart_canonical hs b
  | clearDone b => exact execClearDone_canonical hs b
  | memClaim b => exact execMemClaim_canonical hs b
  | memRelease b => exact execMemRelease_canonical hs b
  | accWrite b word poison coll => exact execAccWrite_canonical hs b word poison coll
  | accRead b word upset => exact execAccRead_canonical hs b word upset
  | logWrite => exact execLogWrite_canonical hs
  | logClr => exact execLogClr_canonical hs
  | injArm v => exact execInjArm_canonical hs v
  | logselWrite v => exact execLogselWrite_canonical hs v
  | railGood r late => exact execRailGood_canonical hs r late
  | railFall r => exact execRailFall_canonical hs r
  | railReturn r => exact execRailReturn_canonical hs r
  | vaonFail => exact execVaonFail_canonical
  | aonMonitor ok => exact execAonMonitor_canonical hs ok
  | dwellExpiry n => exact execDwellExpiry_canonical hs n
  | entryEnd n px po => exact execEntryEnd_canonical hs n px po
  | wake n src => exact execWake_canonical hs n src
  | wakeEnd n => exact execWakeEnd_canonical hs n
  | wholdExpiry n => exact execWholdExpiry_canonical hs n
  | i2cAddressMatch => exact execI2cAddressMatch_canonical hs
  | pwrTimerWrite v => exact execPwrTimerWrite_canonical hs v
  | timer => exact execTimer_canonical hs
  | xoInStop => exact execXoInStop_canonical hs
  | xoInReturn => exact execXoInReturn_canonical hs
  | modelAdvance x => exact execModelAdvance_canonical hs x
  | thermalEvaluation => exact execThermalEvaluation_canonical hs
  | stepUp => exact execStepUp_canonical hs
  | stepRelease => exact execStepRelease_canonical hs
  | trip => exact execTrip_canonical hs
  | tripClear => exact execTripClear_canonical hs
  | reinstate mask => exact execReinstate_canonical hs mask
  | reinstateEnd d => exact execReinstateEnd_canonical hs d
  | powerOnReset => exact execPowerOnReset_canonical
  | resetN => exact execResetN_canonical
  | vcoreLow => exact execVcoreLow_canonical hs
  | vioLow => exact execVioLow_canonical hs
  | hostcold key => exact execHostcold_canonical hs key
  | hostwarm key => exact execHostwarm_canonical hs key
  | criticalStateError u => exact execCriticalStateError_canonical hs u
  | lockout => exact execLockout_canonical hs
  | bringUp x => exact execBringUp_canonical hs x
  | warmBringUp failing => exact execWarmBringUp_canonical hs failing
  | noxo => exact execNoxo_canonical hs
  | release => exact execRelease_canonical hs
  | flashLoadEnd x => exact execFlashLoadEnd_canonical hs x
  | hkaGo => exact execHkaGo_canonical hs
  | hkaConfigWrite scan v => exact execHkaConfigWrite_canonical hs scan v
  | hkaSample bits => exact execHkaSample_canonical hs bits
  | conversionEnd => exact execConversionEnd_canonical hs
  | hkaDataRead => exact execHkaDataRead_canonical hs
  | write addr word => exact execWrite_canonical hs addr word
  | read addr cut => exact execRead_canonical hs addr cut
  | writeinc addr words cut => exact execWriteinc_canonical hs addr words cut
  | readinc addr n cut => exact execReadinc_canonical hs addr n cut
  | status => exact execStatus_canonical hs
  | post => exact execPost_canonical hs
  | ack => exact execAck_canonical hs
  | version => exact execVersion_canonical hs
  | pmget => exact execPmget_canonical hs
  | pmlast => exact execPmlast_canonical hs
  | pop => exact execPop_canonical hs
  | i2cWrite index v => exact execI2cWrite_canonical hs index v
  | i2cRead index => exact execI2cRead_canonical hs index
  | idcode => exact execIdcode_canonical hs
  | samplePreload cells => exact execSamplePreload_canonical hs cells
  | extest => exact execExtest_canonical hs
  | extestPulse => exact execExtestPulse_canonical hs
  | extestTrain => exact execExtestTrain_canonical hs
  | clamp => exact execClamp_canonical hs
  | highz => exact execHighz_canonical hs
  | debug => exact execDebug_canonical hs
  | ciptest => exact execCiptest_canonical hs
  | bypass => exact execBypass_canonical hs
  | testLogicReset => exact execTestLogicReset_canonical hs
  | pmcClr k => exact execPmcClr_canonical hs k
  | clrall => exact execClrall_canonical hs
  | pmcSelWrite k v => exact execPmcSelWrite_canonical hs k v
  | hostTransmit g skip => exact execHostTransmit_canonical hs g skip
  | publishedSuperframeBoundary => exact execPublishedSuperframeBoundary_canonical hs
  | undefinedOpcode e => exact execUndefinedOpcode_canonical hs e
  | spiUndefinedCommand code => exact execSpiUndefinedCommand_canonical hs code
  | badcmd => exact execBadcmd_canonical hs
  | periodBoundary st => exact execPeriodBoundary_canonical hs st

/-- A step is a microsecond, which writes no bank, or a command. -/
theorem step_canonical : Outcome.Canonical (step s) := by
  unfold step
  split
  · show s.tick.Canonical
    exact hs.of_bytes s.tick_bytes
  · next i rest _ =>
    have h : { s with pending := rest }.Canonical := hs.of_bytes rfl
    exact exec_canonical h i

end

end Sys2Proof.Machine

namespace Sys2Proof.Proofs

open Sys2Proof.Machine

/-- Settles O5: bytes are written word by word, zeroed by banks, or cleared as a whole, and each of these keeps the canonical form. -/
theorem memoryStaysCanonical : Obligations.MemoryStaysCanonical := by
  intro s t hs ht
  have h : Outcome.Canonical (step s) := step_canonical hs
  rw [ht] at h
  exact h

end Sys2Proof.Proofs
end
